-- ==== Sys2Proof/Word.lean ====
section
/-! DEFINITION. The plainest data: bytes, packets, wrapping counts, complex values and soft bits. -/

namespace Sys2Proof

/-- One byte of a packet. -/
abbrev Byte := BitVec 8

/-- A transport packet, or a unit of the chain input: its bytes in order (R179). -/
abbrev Packet := List Byte

/-- A 32-bit count that wraps (R41, R119, R142, R150). -/
def wrap32 (n : Nat) : Nat := n % 4294967296

/-- A system time, reckoned modulo 2^48 (R1). -/
def wrapTime (n : Nat) : Nat := n % 281474976710656

/-- A value clamped to the nearest limit of a range (Conventions, Requests). -/
def clamp (lo hi n : Nat) : Nat := if n < lo then lo else if hi < n then hi else n

/-- A complex sample, I and Q (R3). -/
structure CInt where
  re : Int
  im : Int
  deriving DecidableEq, Repr

/-- An exact complex value: a received carrier value, a pilot reference value or a channel gain (R61). -/
structure Cplx where
  re : Rat
  im : Rat
  deriving DecidableEq, Repr

namespace Cplx

/-- The value 0. -/
def zero : Cplx := ⟨0, 0⟩

/-- Sum. -/
def add (a b : Cplx) : Cplx := ⟨a.re + b.re, a.im + b.im⟩

/-- Difference. -/
def sub (a b : Cplx) : Cplx := ⟨a.re - b.re, a.im - b.im⟩

/-- Product. -/
def mul (a b : Cplx) : Cplx := ⟨a.re * b.re - a.im * b.im, a.re * b.im + a.im * b.re⟩

/-- Complex conjugate. -/
def conj (a : Cplx) : Cplx := ⟨a.re, -a.im⟩

/-- Product with a real factor. -/
def scale (k : Rat) (a : Cplx) : Cplx := ⟨k * a.re, k * a.im⟩

/-- Squared magnitude. -/
def normSq (a : Cplx) : Rat := a.re * a.re + a.im * a.im

/-- Quotient, exact. -/
def div (a b : Cplx) : Cplx := scale (1 / normSq b) (mul a (conj b))

end Cplx

/-- A soft bit: its hard decision and its magnitude; magnitude 0 is an erasure (R104). -/
structure SoftBit where
  sign : Bool
  mag : Nat
  deriving DecidableEq, Repr

end Sys2Proof
end

