-- ==== Sys2Proof/Syntax.lean ====
section
/-! DEFINITION. The commands of the part: one constructor of `Instr` per row of spec/opcode_table.json, and the
operand records they carry. Operands are raw: what a request's parameters can hold before any judging. -/

namespace Sys2Proof

/-- Lanes L0 to L3. -/
abbrev LaneId := Fin 4
/-- Pairs P0, P1. -/
abbrev PairId := Fin 2
/-- Ports CO, F0, F1, numbered 0, 1, 2 (11.5). -/
abbrev PortId := Fin 3
/-- Monitors M0 to M7. -/
abbrev MonitorId := Fin 8
/-- Timers T0 to T7. -/
abbrev TimerId := Fin 8

/-- Transform modes 1 to 4 (R4). -/
inductive Mode where
  | m1 | m2 | m3 | m4
  deriving DecidableEq, Repr

/-- Guard fractions 1/32, 1/16, 1/8, 1/4 (R4). -/
inductive Guard where
  | g32 | g16 | g8 | g4
  deriving DecidableEq, Repr

/-- Pilot patterns P0 to P3 (R10). -/
inductive Pattern where
  | p0 | p1 | p2 | p3
  deriving DecidableEq, Repr

/-- One pipe record of the frame signalling record, as received codes (1.4, R8). -/
structure PipeRecord where
  pipeId : Nat
  con : Nat
  rate : Nat
  cells : Nat
  depth : Nat
  first : Nat
  deriving DecidableEq, Repr

/-- The frame signalling record, as received codes (1.4). -/
structure FrameRecord where
  version : Nat
  counter : Nat
  mode : Mode
  guard : Guard
  d : Nat
  pattern : Pattern
  pipeCount : Nat
  pipes : List PipeRecord
  deriving DecidableEq, Repr

/-- What a symbol shows of a preamble (R7): nothing, or the received CRC and the record as received. -/
inductive PreambleRx where
  | notShown
  | shown (crc : Nat) (rec : FrameRecord)
  deriving DecidableEq, Repr

/-- An active carrier as received: its value, and the reference value of a pilot there, which is read only where the carrier
is a pilot's (R10, R61). -/
structure CarrierRx where
  y : Cplx
  ref : Cplx
  deriving DecidableEq, Repr

/-- What the symbol that a sample ends holds after the transform: the numbers the spec's front end yields by an
arithmetic it does not give (log 4). `carriers` are its active carriers in ascending order; which of them carry pilots and
which data is the mode's and the pattern's to say (R10). -/
structure SymbolRx where
  preamble : PreambleRx
  carriers : List CarrierRx
  deriving DecidableEq, Repr

/-- What every request carries besides its parameters: its tag (R181), and the packet to be passed on when the
request is addressed to all parts (R186). -/
structure ReqHdr where
  tag : Nat
  relay : Option Packet
  deriving DecidableEq, Repr

/-- The parameters of LANE SETUP after the lane (11.5). -/
structure SetupForm where
  modeSet : BitVec 4
  guardSet : BitVec 4
  sweepSpan : Nat
  sweepStep : Nat
  searchLength : Nat
  pipeId : Nat
  holdoff : Nat
  k : Nat
  tg : Nat
  tf : Nat
  tp : Nat
  gradeHyst : Nat
  windowHyst : Nat
  floorF : Nat
  smoothA : Nat
  retireAge : Nat
  impulseJ : Nat
  maxBudget : Nat
  deriving DecidableEq, Repr

/-- A map entry as its 8 bytes carry it (R183): `action` and `cls` are 2-bit values, `dests` is byte 6. -/
structure EntryForm where
  origin : Nat
  inId : Nat
  action : Nat
  cls : Nat
  restamp : Bool
  outId : Nat
  dests : BitVec 8
  deriving DecidableEq, Repr

/-- A MAP LOAD segment (R131, R183). -/
structure SegmentForm where
  tag : Nat
  first : Bool
  last : Bool
  total : Nat
  offset : Nat
  count : Nat
  entries : List EntryForm
  deriving DecidableEq, Repr

/-- The parameters of ORIGIN SETUP after the origin (11.5). -/
structure OriginForm where
  mode : Nat
  dests : BitVec 8
  cls : Nat
  forwardErrored : Bool
  hash : BitVec 64
  deriving DecidableEq, Repr

/-- The parameters of MONITOR SETUP after the monitor (11.5). -/
structure MonitorForm where
  enabled : Bool
  origin : Nat
  id : Nat
  startOnly : Bool
  offset : Nat
  mask : BitVec 64
  kind : Nat
  expected : Nat
  once : Bool
  arm : Bool
  deriving DecidableEq, Repr

/-- A kind byte and an index byte: a gate, a source or an action of a timer (11.5). -/
structure KindIndex where
  kind : Nat
  index : Nat
  deriving DecidableEq, Repr

/-- The parameters of TIMER SETUP after the timer (11.5). -/
structure TimerForm where
  mode : Nat
  prescale : Nat
  reload : Nat
  gate : KindIndex
  source : KindIndex
  action : KindIndex
  deriving DecidableEq, Repr

/-- The commands. Each constructor's comment is the row's mnemonic and its rule. -/
inductive Instr where
  /-- POWER_UP_RESET (R42): `straps` is the level of the address pins. -/
  | powerUpReset (straps : BitVec 5)
  /-- LINK_DOWN (R2). -/
  | linkDown (lane : LaneId)
  /-- LINK_UP (R2). -/
  | linkUp (lane : LaneId)
  /-- SAMPLE_ARRIVAL (R3): the sample, and what the symbol it ends (if it ends one) holds. -/
  | sampleArrival (lane : LaneId) (i q : Int) (rx : SymbolRx)
  /-- HOLDOFF_EXPIRY (R38). -/
  | holdoffExpiry (lane : LaneId)
  /-- DECODE_COMPLETION (R109). `result` holds nothing: what the decode gives is computed from the codeword in flight
  (R107, log 6). -/
  | decodeCompletion (result : Unit)
  /-- SLOT_EVENT (R139). -/
  | slotEvent (port : PortId)
  /-- CO_HOLD_ASSERT (R142). -/
  | coHoldAssert
  /-- CO_HOLD_RELEASE (R142). -/
  | coHoldRelease
  /-- CI_UNIT_ARRIVAL (R151). -/
  | ciUnitArrival (unit : Packet)
  /-- TIMER_EXPIRY (R172). -/
  | timerExpiry (timer : TimerId)
  /-- IDENT (R194). -/
  | ident (h : ReqHdr)
  /-- PART_SETUP (R195). -/
  | partSetup (h : ReqHdr) (id : Nat) (notices : Bool)
  /-- PART_RESET (R196). -/
  | partReset (h : ReqHdr)
  /-- LANE_SETUP (R19, R15). -/
  | laneSetup (h : ReqHdr) (lane : Nat) (f : SetupForm)
  /-- LANE_START (R20). -/
  | laneStart (h : ReqHdr) (lane : Nat)
  /-- LANE_STOP (R21). -/
  | laneStop (h : ReqHdr) (lane : Nat)
  /-- LANE_READ (R22, R70). -/
  | laneRead (h : ReqHdr) (lane : Nat) (clear : Bool)
  /-- PROFILE_READ (R58). -/
  | profileRead (h : ReqHdr) (lane : Nat)
  /-- PAIR (R71). -/
  | pair (h : ReqHdr) (p : Nat)
  /-- UNPAIR (R72). -/
  | unpair (h : ReqHdr) (p : Nat)
  /-- POOL_SETUP (R86). -/
  | poolSetup (h : ReqHdr) (r0 r1 r2 r3 : Nat)
  /-- POOL_READ (R97). -/
  | poolRead (h : ReqHdr) (start : Nat)
  /-- DECODER_SETUP (R113). -/
  | decoderSetup (h : ReqHdr) (high low : Nat)
  /-- DECODER_READ (R114). -/
  | decoderRead (h : ReqHdr) (clear : Bool)
  /-- MAP_LOAD (R131 to R134). -/
  | mapLoad (h : ReqHdr) (seg : SegmentForm)
  /-- MAP_ABORT (R135). -/
  | mapAbort (h : ReqHdr)
  /-- MAP_EDIT_ADD (R128). -/
  | mapEditAdd (h : ReqHdr) (e : EntryForm)
  /-- MAP_EDIT_REPLACE (R129). -/
  | mapEditReplace (h : ReqHdr) (e : EntryForm)
  /-- MAP_EDIT_REMOVE (R129). -/
  | mapEditRemove (h : ReqHdr) (e : EntryForm)
  /-- MAP_READ (R130). -/
  | mapRead (h : ReqHdr) (first count : Nat) (clear : Bool)
  /-- MAP_INVALIDATE (R127). -/
  | mapInvalidate (h : ReqHdr) (granularity origin id m : Nat)
  /-- ORIGIN_SETUP (R117). -/
  | originSetup (h : ReqHdr) (origin : Nat) (f : OriginForm)
  /-- ORIGIN_READ (R118). -/
  | originRead (h : ReqHdr)
  /-- PORT_SETUP (R149). -/
  | portSetup (h : ReqHdr) (port interval high low limit : Nat)
  /-- PORT_STOP (R146). -/
  | portStop (h : ReqHdr) (port : Nat)
  /-- PORT_START (R147). -/
  | portStart (h : ReqHdr) (port : Nat)
  /-- PORT_FLUSH (R148). -/
  | portFlush (h : ReqHdr) (port : Nat)
  /-- PORT_READ (R150). -/
  | portRead (h : ReqHdr) (port : Nat) (clear : Bool)
  /-- MONITOR_SETUP (R162). -/
  | monitorSetup (h : ReqHdr) (monitor : Nat) (f : MonitorForm)
  /-- MONITOR_ARM (R161). -/
  | monitorArm (h : ReqHdr) (monitor : Nat)
  /-- MONITOR_READ (R163). -/
  | monitorRead (h : ReqHdr) (monitor part : Nat) (clear : Bool)
  /-- TIMER_SETUP (R173). -/
  | timerSetup (h : ReqHdr) (timer : Nat) (f : TimerForm)
  /-- TIMER_START (R174). -/
  | timerStart (h : ReqHdr) (timer : Nat)
  /-- TIMER_STOP (R175). -/
  | timerStop (h : ReqHdr) (timer : Nat)
  /-- TIMER_READ (R176). -/
  | timerRead (h : ReqHdr) (timer : Nat) (clear : Bool)
  /-- EVENT_ENABLE (R201). -/
  | eventEnable (h : ReqHdr) (enables : BitVec 51)
  /-- EVENT_READ (R202). -/
  | eventRead (h : ReqHdr)
  /-- EVENT_CLEAR (R202). -/
  | eventClear (h : ReqHdr) (named : BitVec 51)
  /-- FAULT_READ (R204). -/
  | faultRead (h : ReqHdr)
  /-- FAULT_CLEAR (R204). -/
  | faultClear (h : ReqHdr) (all : Bool) (places : BitVec 8)
  /-- TICK (R1, R166): `straps` is the level of the address pins at this tick (R185), all low where it is not written. -/
  | tick (straps : BitVec 5 := 0#5)
  deriving DecidableEq, Repr

end Sys2Proof
end

