-- ==== Sys2Proof/Config.lean ====
section
/-! DEFINITION. The free values: numbers the spec lets the part compute without giving the arithmetic. Each is an
opaque constant, so nothing can be proved of its value. -/

namespace Sys2Proof.Config

/-- The bits that a mode, a guard fraction and a pilot pattern take in a signalling record (1.4 gives their coded ranges
and no codes; log 22). -/
opaque modeBits : Mode → List Bool
/-- See `modeBits`. -/
opaque guardBits : Guard → List Bool
/-- See `modeBits`. -/
opaque patternBits : Pattern → List Bool

/-- The active carrier of a data symbol's first pilot (R10: "Pilots fall on every Dx-th active carrier"; from which carrier
they are counted is not given; log 48), read modulo the pilot spacing. -/
opaque firstPilot : Mode → Pattern → Nat

/-- Whether an active carrier of a preamble is a pilot carrier (R7: "the fixed reference values on its pilot carriers";
which carriers those are is not given; log 48). -/
opaque preamblePilot (m : Mode) (carrier : Nat) : Bool

/-- The value at a delay of the impulse response that a symbol's pilot ratios transform into (R48: "one non-negative
power value for each delay of the detection window"; the transform and its scale are not given; log 4). `n` is the
transform size, `spacing` the pilot spacing, `ratios` each pilot's carrier and its received over its reference value. -/
opaque impulsePower (n spacing : Nat) (ratios : List (Nat × Cplx)) (delay : Int) : Nat

/-- The sample as a lane takes it at a carrier offset other than 0 (R23, R24: the lane "corrects the incoming samples
by the carrier offset of that position"; the arithmetic is not given; log 5). `offset` is the sweep position times the
sweep step, `n` the number of the sample in its attempt or since the lane left SEARCH. -/
opaque carrierCorrect (offset : Int) (n : Nat) (i q : Int) : Int × Int

/-- The hard decision for bit `bit` of a cell with equalized components `re`, `im` in the constellation of code `con`
(R104; the bit mapping is not given; log 6). -/
opaque hardDecision (con : Nat) (re im : Int) (bit : Nat) : Bool

/-- The magnitude of that soft bit for a cell of reliability `r` other than 0 (R104: it "grows with the cell's
reliability r and with the distance of z from the decision boundary"; the growth is not given; log 6). -/
opaque softMagnitude (con : Nat) (re im : Int) (r bit : Nat) : Nat

/-- The parity checks of a codeword of a rate, each as the numbers of its bits (R107; the code is not given; log 6). -/
opaque parityChecks (rate : Nat) : List (List Nat)

/-- The sign and the magnitude of bit `i` after iteration `n` of the decode of a copy (R107: each iteration "gives every
bit a new sign and magnitude"; the exchange is not given; log 6). -/
opaque bitAfter (rate : Nat) (copy : List SoftBit) (n i : Nat) : Bool × Nat

end Sys2Proof.Config
end

