-- ==== Sys2Proof/Machine/State.lean ====
section
/-! DEFINITION. The state of the part: every piece of state the spec gives it, as plain data, and its value after the
power-up reset. The fields `pending` and `work` of `State` are the model's own (logs 1 and 11), and so is `due` of a
timer (log 3). -/

namespace Sys2Proof.Machine

/-! ### Lanes (Chapters 2 to 5) -/

/-- Lane states with their codes in ascending order (R17). -/
inductive LaneState where
  | off | search | mode | sync | lock | fade
  deriving DecidableEq, Repr

/-- Lane reasons with their codes in ascending order (R17). -/
inductive Reason where
  | none | noSignal | pipeAbsent | layoutBad | poolShort | linkDown
  deriving DecidableEq, Repr

/-- Grades, from worst to best (R68); NONE when the lane has no grade. -/
inductive Grade where
  | none | bad | poor | fair | good
  deriving DecidableEq, Repr

/-- The two halves of a lane's pages (R84). -/
inductive Half where
  | a | b
  deriving DecidableEq, Repr

/-- The lane setup record (R14). -/
structure Setup where
  modeSet : BitVec 4
  guardSet : BitVec 4
  sweepSpan : Nat
  sweepStep : Nat
  searchLength : Nat
  pipeId : Nat
  holdoff : Nat
  k : Nat
  tg : Nat
  tf : Nat
  tp : Nat
  gradeHyst : Nat
  windowHyst : Nat
  floorF : Nat
  smoothA : Nat
  retireAge : Nat
  impulseJ : Nat
  maxBudget : Nat
  deriving DecidableEq, Repr

/-- The defaults of 1.7. -/
def Setup.default : Setup :=
  ⟨15#4, 15#4, 2, 4, 8, 0, 500, 3, 280, 220, 160, 10, 8, 64, 2, 32, 4, 24⟩

/-- The candidate of a search attempt (R24). -/
structure Candidate where
  mode : Mode
  guard : Guard
  position : Nat
  deriving DecidableEq, Repr

/-- A pipe's parameters (R8). -/
structure PipeParams where
  cells : Nat
  con : Nat
  rate : Nat
  depth : Nat
  deriving DecidableEq, Repr

/-- The selected pipe in a layout: its parameters and its first cell index. -/
structure PipeSel where
  params : PipeParams
  first : Nat
  deriving DecidableEq, Repr

/-- A lane's current layout (2.1). `pipe` is absent only for a lane of a pair that is not the reference and whose
record does not carry the pair's pipe (R76). -/
structure Layout where
  version : Nat
  lastFrame : Nat
  d : Nat
  pattern : Pattern
  pipe : Option PipeSel
  deriving DecidableEq, Repr

/-- Where the lane stands in its frame (R6): the number of the last symbol taken, D, whether the frame has a valid
record (R31), the MER sums over its qualifying symbols (R66), and whether the pair's partner was in LOCK at the
frame's preamble event (R80). -/
structure FramePos where
  pos : Nat
  d : Nat
  valid : Bool
  merS : Nat
  merE : Nat
  merN : Nat
  partnerLock : Bool
  deriving DecidableEq, Repr

/-- No frame. -/
def FramePos.none : FramePos := ⟨0, 0, false, 0, 0, 0, false⟩

/-- An echo record (R43). -/
structure Echo where
  delay : Int
  power : Nat
  age : Nat
  deriving DecidableEq, Repr

/-- The gain of one pilot carrier; a channel estimate is the list of these in ascending carrier order, and the gain of
a data carrier is interpolated from it (R61). -/
structure PilotGain where
  carrier : Nat
  gain : Cplx
  deriving DecidableEq, Repr

/-- The quality part of a lane context (R65). -/
structure Quality where
  estimate : Option (List PilotGain)
  noise : Option Nat
  lastMer : Option Nat
  q : Option Nat
  grade : Grade
  deriving DecidableEq, Repr

/-- No estimate, σ² unset, no MER, no Q, grade NONE (R65). -/
def Quality.cleared : Quality := ⟨.none, .none, .none, .none, .none⟩

/-- A write position (R90). -/
structure WritePos where
  half : Half
  frame : Nat
  cell : Nat
  deriving DecidableEq, Repr

/-- A ready list entry (R93). -/
structure ReadyEntry where
  half : Half
  k : Nat
  con : Nat
  rate : Nat
  deriving DecidableEq, Repr

/-- The nine lane counters (R41). -/
structure LaneCounters where
  symbols : Nat
  frames : Nat
  blanked : Nat
  clean : Nat
  corrected : Nat
  failed : Nat
  dropped : Nat
  emitted : Nat
  wraps : Nat
  deriving DecidableEq, Repr

/-- All counters 0. -/
def LaneCounters.zero : LaneCounters := ⟨0, 0, 0, 0, 0, 0, 0, 0, 0⟩

/-- A lane context (2.1, R43 to R45, R65, R90). `toGo` is the number of samples to the next symbol event. -/
structure Lane where
  state : LaneState
  reason : Reason
  sweepPos : Int
  attempt : Nat
  samples : List CInt
  candidate : Option Candidate
  confirm : Nat
  noPreamble : Nat
  preFail : Nat
  layout : Option Layout
  frame : FramePos
  lossRun : Nat
  goodRun : Nat
  deadline : Option Nat
  setup : Setup
  counters : LaneCounters
  profile : List Echo
  w : Int
  toGo : Nat
  offset : Int
  openPl : Bool
  quality : Quality
  group : Option WritePos
  writeHalf : Half
  ready : List ReadyEntry
  deriving DecidableEq, Repr

/-- A lane context after either reset (R42, R46, R65, R98). -/
def Lane.reset : Lane where
  state := .off
  reason := .none
  sweepPos := 0
  attempt := 0
  samples := []
  candidate := none
  confirm := 0
  noPreamble := 0
  preFail := 0
  layout := none
  frame := FramePos.none
  lossRun := 0
  goodRun := 0
  deadline := none
  setup := Setup.default
  counters := LaneCounters.zero
  profile := []
  w := 0
  toGo := 0
  offset := 0
  openPl := false
  quality := Quality.cleared
  group := none
  writeHalf := .a
  ready := []

/-! ### Pairs (4.3) -/

/-- The reference lane of a pair (R75). -/
inductive RefLane where
  | none | primary | secondary
  deriving DecidableEq, Repr

/-- Pair states with their codes in ascending order (R79, R189). -/
inductive PairState where
  | none | dual | singleP | singleS
  deriving DecidableEq, Repr

/-- A cell of a page: an equalized value in units of 1/1024 and its reliability (R62). -/
structure PoolCell where
  re : Int
  im : Int
  r : Nat
  deriving DecidableEq, Repr

/-- A cell of value 0 and reliability 0 (R13, R62). -/
def PoolCell.erased : PoolCell := ⟨0, 0, 0⟩

/-- A partner symbol in the alignment store (R77); `counter` is absent after a first preamble failure. -/
structure StoredSymbol where
  lane : LaneId
  counter : Option Nat
  index : Nat
  cells : List PoolCell
  deriving DecidableEq, Repr

/-- A reference symbol not yet written (R77): its frame counter and index, its cells, the reference symbol events
since it, whether it has been decided, whether the partner contributed, the D of its frame, and whether the partner
was in LOCK at the frame's preamble event (R80). -/
structure WaitingSymbol where
  counter : Nat
  index : Nat
  cells : List PoolCell
  since : Nat
  decided : Bool
  contributed : Bool
  d : Nat
  partnerLock : Bool
  deriving DecidableEq, Repr

/-- The data path's layout: version and pipe parameters (R75). -/
structure PathLayout where
  version : Nat
  params : PipeParams
  deriving DecidableEq, Repr

/-- A pair and its data path (R71 to R81). -/
structure Pair where
  formed : Bool
  ref : RefLane
  pstate : PairState
  store : List StoredSymbol
  waiting : List WaitingSymbol
  layout : Option PathLayout
  lastFrame : Nat
  contrib : Nat
  doneFrame : Option Nat
  deriving DecidableEq, Repr

/-- A pair after either reset (R81). -/
def Pair.reset : Pair := ⟨false, .none, .none, [], [], none, 0, 0, none⟩

/-! ### Page pool (Chapter 5) -/

/-- The page pool: the page map, one owner or FREE for each page in page order (R82), the reservations (R85), and the
page contents as (address, cell) pairs in canonical form, address = page × 2048 + place (R91). -/
structure Pool where
  pageMap : List (Option LaneId)
  reserved : Vector Nat 4
  cells : List (Nat × PoolCell)
  deriving DecidableEq, Repr

/-- The pool at power-up: every page FREE, no reservation (R98), no page written (log 9). -/
def Pool.reset : Pool := ⟨List.replicate 1024 none, Vector.replicate 4 0, []⟩

/-! ### Decoder (Chapter 6) -/

/-- The codeword in flight (R99). -/
structure Codeword where
  owner : LaneId
  half : Half
  k : Nat
  con : Nat
  rate : Nat
  soft : List SoftBit
  grade : Grade
  congested : Bool
  budget : Nat
  marked : Bool
  takeTime : Nat
  deriving DecidableEq, Repr

/-- A statistics record (R110). -/
structure DecodeStat where
  count : Nat
  iterations : Nat
  deriving DecidableEq, Repr

/-- The decoder (R99). -/
structure Decoder where
  inflight : Option Codeword
  pointer : LaneId
  congested : Bool
  high : Nat
  low : Nat
  stats : Vector DecodeStat 4
  deriving DecidableEq, Repr

/-- The decoder after either reset (R115). -/
def Decoder.reset : Decoder := ⟨none, 0, false, 96, 48, Vector.replicate 4 ⟨0, 0⟩⟩

/-! ### Stream map unit (Chapter 7) -/

/-- Origin modes with their codes in ascending order (R116, 11.5). -/
inductive OriginMode where
  | drop | pass | hash | all
  deriving DecidableEq, Repr

/-- A set of output ports (R116, R119). -/
structure Dests where
  co : Bool
  f0 : Bool
  f1 : Bool
  deriving DecidableEq, Repr

/-- An origin setting (R116). -/
structure OriginSetting where
  mode : OriginMode
  dests : Dests
  cls : Nat
  forwardErrored : Bool
  hash : BitVec 64
  deriving DecidableEq, Repr

/-- The reset setting of the lane origins (R116). -/
def OriginSetting.laneReset : OriginSetting := ⟨.drop, ⟨true, false, false⟩, 2, true, 0#64⟩
/-- The reset setting of origin CI (R116). -/
def OriginSetting.ciReset : OriginSetting := ⟨.pass, ⟨true, false, false⟩, 1, true, 0#64⟩

/-- Entry actions (R119). -/
inductive Action where
  | route | drop
  deriving DecidableEq, Repr

/-- A key: an origin 0 to 4 and an id (R119, R125). -/
structure Key where
  origin : Nat
  id : Nat
  deriving DecidableEq, Repr

/-- What an entry does with a packet: the part of an entry a lookup result copies (R125). -/
structure Route where
  action : Action
  outId : Nat
  dests : Dests
  cls : Nat
  restamp : Bool
  deriving DecidableEq, Repr

/-- A map entry (R119). -/
structure MapEntry where
  key : Key
  route : Route
  deriving DecidableEq, Repr

/-- An occupied slot: its entry and its packet counter (R119). -/
structure MapSlot where
  entry : MapEntry
  counter : Nat
  deriving DecidableEq, Repr

/-- A lookup result: a slot number with a copy of the entry, or ABSENT (R125). -/
structure CacheResult where
  key : Key
  found : Option (Nat × Route)
  deriving DecidableEq, Repr

/-- The staging area while OPEN (R131). -/
structure Staging where
  tag : Nat
  total : Nat
  received : Nat
  entries : List MapEntry
  deriving DecidableEq, Repr

/-- The stream map unit (Chapter 7). -/
structure MapUnit where
  slots : List (Option MapSlot)
  cache : List CacheResult
  staging : Option Staging
  origins : Vector OriginSetting 5
  deriving DecidableEq, Repr

/-- The map unit after either reset (R136). -/
def MapUnit.reset : MapUnit where
  slots := List.replicate 1024 none
  cache := []
  staging := none
  origins := #v[.laneReset, .laneReset, .laneReset, .laneReset, .ciReset]

/-! ### Ports and chain input (Chapter 8) -/

/-- Port states with their codes in ascending order (R145). -/
inductive PortState where
  | running | stopping | stopped
  deriving DecidableEq, Repr

/-- A queued packet (R137). -/
structure Queued where
  packet : Packet
  cls : Nat
  restamp : Bool
  own : Bool
  arrival : Nat
  deriving DecidableEq, Repr

/-- An output port (R137, R139, R145, R150). `wire` is the packet on the wire since the last slot event, absent when
nothing was sent (R139, R142). -/
structure Port where
  pstate : PortState
  pendingStop : Option Nat
  interval : Nat
  nextSlot : Nat
  q0 : List Queued
  q1 : List Queued
  q2 : List Queued
  drop0 : Nat
  drop1 : Nat
  drop2 : Nat
  skipped : Nat
  wire : Option Packet
  deriving DecidableEq, Repr

/-- A port after a reset at system time `now`, with its reset slot interval (R154). -/
def Port.reset (now interval : Nat) (wire : Option Packet) : Port :=
  ⟨.running, none, interval, wrapTime (now + interval), [], [], [], 0, 0, 0, 0, wire⟩

/-- Chain-input hold states with their codes in ascending order (R152, R189). -/
inductive HoldState where
  | idle | holding | paused
  deriving DecidableEq, Repr

/-- What CO holds beside its port: the CO hold line, the held-slot count (R142), and the chain-input hold with its
settings (R149, R152). -/
structure ChainOut where
  held : Bool
  heldSlots : Nat
  high : Nat
  low : Nat
  limit : Nat
  hold : HoldState
  holdCount : Nat
  deriving DecidableEq, Repr

/-- CO's extras after a reset; the hold line is an input and keeps its level (R154). -/
def ChainOut.reset (held : Bool) : ChainOut := ⟨held, 0, 64, 32, 16, .idle, 0⟩

/-- The chain input's link status and run count (R151). -/
structure ChainIn where
  up : Bool
  run : Nat
  deriving DecidableEq, Repr

/-- DOWN, run count 0 (R154). -/
def ChainIn.reset : ChainIn := ⟨false, 0⟩

/-! ### Section monitors (Chapter 9) -/

/-- Monitor kinds with their codes (R155, 11.5). -/
inductive MonitorKind where
  | pattern | change
  deriving DecidableEq, Repr

/-- A captured packet record (R155). -/
structure Capture where
  packet : Packet
  arrival : Nat
  crc : Nat
  deriving DecidableEq, Repr

/-- A section monitor's settings and state (R155). -/
structure Monitor where
  enabled : Bool
  origin : Nat
  id : Nat
  startOnly : Bool
  offset : Nat
  mask : BitVec 64
  kind : MonitorKind
  expected : Nat
  once : Bool
  armed : Bool
  refCrc : Nat
  refValid : Bool
  capture : Option Capture
  hits : Nat
  deriving DecidableEq, Repr

/-- A monitor after either reset (R164). -/
def Monitor.reset : Monitor :=
  ⟨false, 0, 0, false, 0, 0#64, .pattern, 0, false, false, 0, false, none, 0⟩

/-! ### Timer bank (Chapter 10) -/

/-- Timer modes with their codes in ascending order (R165, 11.5). -/
inductive TimerMode where
  | interval | count | oneshot | span
  deriving DecidableEq, Repr

/-- A timer's setting; prescale, gate, source and action are held as the codes that carry them, since a field the mode
does not use is held as sent (R165). -/
structure TimerSetting where
  mode : TimerMode
  prescale : Nat
  reload : Nat
  gate : KindIndex
  source : KindIndex
  action : KindIndex
  deriving DecidableEq, Repr

/-- Timer run states with their codes in ascending order (R165, R189). -/
inductive RunState where
  | stopped | waiting | running
  deriving DecidableEq, Repr

/-- A timer (R165). `measuring` is a SPAN timer's condition as last seen (R171); `due` says that the expiring count
has fallen due (log 3). -/
structure Timer where
  setting : TimerSetting
  run : RunState
  counter : Nat
  pre : Nat
  lastSpan : Nat
  maxSpan : Nat
  measuring : Bool
  due : Bool
  deriving DecidableEq, Repr

/-- A timer after either reset (R177). -/
def Timer.reset : Timer :=
  ⟨⟨.interval, 0, 0, ⟨0, 0⟩, ⟨0, 0⟩, ⟨0, 0⟩⟩, .stopped, 0, 0, 0, 0, false, false⟩

/-- A source of occurrences (R167). -/
inductive Source where
  | blanked (l : LaneId)
  | cwFailed (l : LaneId)
  | cwDropped (l : LaneId)
  | faded (l : LaneId)
  | monitorHit (m : MonitorId)
  | portDrop (p : PortId)
  | timerExpiry (t : TimerId)
  deriving DecidableEq, Repr

/-- What an event still has to hand on: an occurrence of a source (R167), or the action of an expired timer
(R172). -/
inductive Work where
  | occ (src : Source)
  | act (t : TimerId)
  deriving DecidableEq, Repr

/-! ### Management, events and faults (Chapters 11 and 12) -/

/-- The chain management unit (R193). -/
structure Mgmt where
  id : Nat
  addr : Nat
  notices : Bool
  cc : Nat
  deriving DecidableEq, Repr

/-- The management unit after a reset that reads the straps (R193, R185). -/
def Mgmt.reset (straps : BitVec 5) : Mgmt := ⟨8064, straps.toNat, false, 0⟩

/-- The event unit: flags, enables, pending set and notice outstanding (R198 to R200). -/
structure EventUnit where
  flags : BitVec 51
  enables : BitVec 51
  pending : BitVec 51
  outstanding : Bool
  deriving DecidableEq, Repr

/-- The event unit after either reset (R205). -/
def EventUnit.reset : EventUnit := ⟨0#51, 0#51, 0#51, false⟩

/-- A fault record (R203). -/
structure FaultRecord where
  source : Nat
  reason : Nat
  info : Nat
  count : Nat
  first : Nat
  last : Nat
  deriving DecidableEq, Repr

/-- The fault log (R203). -/
structure FaultLog where
  records : List FaultRecord
  overflow : Bool
  deriving DecidableEq, Repr

/-- The log after the power-up reset (R205). -/
def FaultLog.reset : FaultLog := ⟨[], false⟩

/-! ### The whole -/

/-- The part. -/
structure State where
  time : Nat
  links : Vector Bool 4
  straps : BitVec 5
  lanes : Vector Lane 4
  pairs : Vector Pair 2
  pool : Pool
  dec : Decoder
  smap : MapUnit
  ports : Vector Port 3
  co : ChainOut
  ci : ChainIn
  monitors : Vector Monitor 8
  timers : Vector Timer 8
  mgmt : Mgmt
  ev : EventUnit
  log : FaultLog
  work : List Work
  pending : List Instr
  deriving DecidableEq, Repr

/-- The part right after the power-up reset, with the inputs at the levels of log 8. -/
def State.reset : State where
  time := 0
  links := Vector.replicate 4 false
  straps := 0#5
  lanes := Vector.replicate 4 Lane.reset
  pairs := Vector.replicate 2 Pair.reset
  pool := Pool.reset
  dec := Decoder.reset
  smap := MapUnit.reset
  ports := #v[Port.reset 0 675 none, Port.reset 0 1080 none, Port.reset 0 1080 none]
  co := ChainOut.reset false
  ci := ChainIn.reset
  monitors := Vector.replicate 8 Monitor.reset
  timers := Vector.replicate 8 Timer.reset
  mgmt := Mgmt.reset 0#5
  ev := EventUnit.reset
  log := FaultLog.reset
  work := []
  pending := []

/-- Faults: none. No rule of the spec makes the part stop; what goes wrong is recorded in the fault log and the part
goes on (R203). -/
inductive Fault where
  deriving DecidableEq, Repr

/-- Refusals. -/
inductive Refusal where
  /-- An arm of `exec` that has no meaning yet: raised by `exec` alone, safe. No arm raises it. -/
  | notModelled (mnemonic : String)
  deriving DecidableEq, Repr

/-- The answer of a step. -/
abbrev Out := Host.Outcome State Fault Refusal

end Sys2Proof.Machine
end

