-- ==== Sys2Proof/Machine/Bits.lean ====
section
/-! DEFINITION. Bytes, numbers and flag sets as the part carries them on the chain (R178), the CRC-16 (R7, R157), and
the wrapped and rounded arithmetic the rules use. -/

namespace Sys2Proof.Machine

/-- The number a list of bytes carries, most significant byte first (R178). -/
def beNat : List Byte → Nat := List.foldl (fun acc b => acc * 256 + b.toNat) 0

/-- The number a list of bytes carries, least significant byte first: the value of a flag set (R178). -/
def leNat : List Byte → Nat
  | [] => 0
  | b :: bs => b.toNat + 256 * leNat bs

/-- `k` bytes of a number, most significant first; higher bits are dropped (R178, R189). -/
def beBytes : Nat → Nat → List Byte
  | 0, _ => []
  | k + 1, n => BitVec.ofNat 8 (n / 256 ^ k) :: beBytes k n

/-- `k` bytes of a flag set, flag i in byte i div 8 at bit i mod 8 (R178). The unused bits of the last byte of a set in a reply
are 0 (R178 speaks of them in a request alone; DESIGN CHOICE, log 51). -/
def flagBytes : Nat → Nat → List Byte
  | 0, _ => []
  | k + 1, n => BitVec.ofNat 8 n :: flagBytes k (n / 256)

/-- One byte. -/
def b1 (n : Nat) : List Byte := beBytes 1 n
/-- Two bytes. -/
def b2 (n : Nat) : List Byte := beBytes 2 n
/-- Four bytes. -/
def b4 (n : Nat) : List Byte := beBytes 4 n
/-- A system time: six bytes (R189). -/
def b6 (n : Nat) : List Byte := beBytes 6 n
/-- A yes-no item (R189). -/
def bBool (b : Bool) : List Byte := b1 (if b then 1 else 0)
/-- A signed number in `k` bytes of two's complement (R189). -/
def bInt (k : Nat) (x : Int) : List Byte := beBytes k (x % (256 : Int) ^ k).toNat
/-- An item that may be absent: a presence byte, then its `k` bytes, 0 when it is absent (R189). -/
def bOpt (k : Nat) : Option (List Byte) → List Byte
  | none => b1 0 ++ List.replicate k 0
  | some bs => b1 1 ++ bs

/-- A byte read as a yes-no parameter (R178). -/
def yesNo (b : Byte) : Bool := b ≠ 0

/-- The byte at a place, 0 beyond the end (log 36). -/
def byteAt (p : List Byte) (i : Nat) : Byte := p.getD i 0

/-- The `k` bytes from a place on. -/
def bytesAt (p : List Byte) (i k : Nat) : List Byte := (p.drop i).take k

/-- One step of the CRC register (R157 step 2). -/
def crcShift (reg : BitVec 16) : BitVec 16 :=
  if reg.msb then (reg <<< 1) ^^^ 0x1021#16 else reg <<< 1

/-- The register after one masked byte (R157 step 2). -/
def crcByte (reg : BitVec 16) (b : Byte) : BitVec 16 :=
  let r0 := reg ^^^ ((b.setWidth 16) <<< 8)
  crcShift (crcShift (crcShift (crcShift (crcShift (crcShift (crcShift (crcShift r0)))))))

/-- The CRC over bytes in order (R157). -/
def crcBytes (bs : List Byte) : BitVec 16 := bs.foldl crcByte 0xFFFF#16

/-- The register after one bit: the same computation taken bit by bit, most significant bit first (R7). -/
def crcBit (reg : BitVec 16) (b : Bool) : BitVec 16 :=
  if reg.msb != b then (reg <<< 1) ^^^ 0x1021#16 else reg <<< 1

/-- The CRC over a list of bits (R7). -/
def crcBits (bs : List Bool) : BitVec 16 := bs.foldl crcBit 0xFFFF#16

/-- Quotient truncated toward zero (Conventions). -/
def truncDiv (a : Int) (b : Nat) : Int := Int.tdiv a b

/-- Smoothing toward a target by a divisor: the step is the truncated quotient, or 1 toward the target when the
quotient is 0 and the target differs (R50, R63, R67). -/
def smoothToward (old target : Int) (divisor : Nat) : Int :=
  let step := truncDiv (target - old) divisor
  if step ≠ 0 then old + step
  else if old < target then old + 1
  else if target < old then old - 1
  else old

/-- Rounding to nearest, halves away from zero (Conventions). -/
def roundHalfAway (x : Rat) : Int :=
  if 0 ≤ x then (x + 1 / 2).floor else -((-x + 1 / 2).floor)

/-- The greatest number from 0 to 4095 for which a downward-closed test holds (R5: ρ and π are floors in that
range). -/
def greatest12 (test : Nat → Bool) : Nat :=
  [2048, 1024, 512, 256, 128, 64, 32, 16, 8, 4, 2, 1].foldl
    (fun acc b => if test (acc + b) then acc + b else acc) 0

/-- Set bit `n` of an event set. -/
def setBit (x : BitVec 51) (n : Nat) : BitVec 51 := x ||| (1#51 <<< n)
/-- Clear bit `n` of an event set. -/
def clearBit (x : BitVec 51) (n : Nat) : BitVec 51 := x &&& ~~~(1#51 <<< n)

/-- Insertion into a list sorted by a strict order given as a test; equal elements keep their order. -/
def insertBy {α : Type} (before : α → α → Bool) (x : α) : List α → List α
  | [] => [x]
  | y :: ys => if before x y then x :: y :: ys else y :: insertBy before x ys

/-- Insertion sort. -/
def sortBy {α : Type} (before : α → α → Bool) : List α → List α
  | [] => []
  | x :: xs => insertBy before x (sortBy before xs)

/-- A list without the element at a place. -/
def removeAt {α : Type} : Nat → List α → List α
  | _, [] => []
  | 0, _ :: xs => xs
  | n + 1, x :: xs => x :: removeAt n xs

end Sys2Proof.Machine
end

