-- ==== Sys2Proof/Machine/Packet.lean ====
section
/-! DEFINITION. The transport packet and the management payload (R179 to R182, R141, R143). -/

namespace Sys2Proof.Machine

/-- The error flag (R179). -/
def pktError (p : Packet) : Bool := (byteAt p 1).getLsbD 7
/-- The start flag (R179). -/
def pktStart (p : Packet) : Bool := (byteAt p 1).getLsbD 6
/-- The 13-bit id (R179, R180). -/
def pktId (p : Packet) : Nat := ((byteAt p 1).toNat % 32) * 256 + (byteAt p 2).toNat
/-- The adaptation control (R179). -/
def pktAdapt (p : Packet) : Nat := (byteAt p 3).toNat / 16 % 4

/-- The packet under another id; every other bit as it stands (R122). -/
def withId (p : Packet) (id : Nat) : Packet :=
  (p.set 1 (BitVec.ofNat 8 ((byteAt p 1).toNat / 32 * 32 + id / 256 % 32))).set 2 (BitVec.ofNat 8 id)

/-- The packet with its sync byte set to 47h (R108). -/
def withSync (p : Packet) : Packet := p.set 0 0x47#8

/-- The packet with its error flag set (R108). -/
def withError (p : Packet) : Packet := p.set 1 (byteAt p 1 ||| 0x80#8)

/-- The place of payload byte 0 and the payload length (R156). -/
def payloadSpan (p : Packet) : Nat × Nat :=
  match pktAdapt p with
  | 1 => (4, 184)
  | 3 => let l := (byteAt p 4).toNat; (5 + l, 183 - l)
  | _ => (188, 0)

/-- Payload byte `k`. -/
def payloadByte (p : Packet) (k : Nat) : Byte := byteAt p ((payloadSpan p).1 + k)

/-- Whether a packet carries a clock reference (R143, R180). -/
def carriesClock (p : Packet) : Bool :=
  decide (pktAdapt p = 2 ∨ pktAdapt p = 3) && decide (7 ≤ (byteAt p 4).toNat) && (byteAt p 5).getLsbD 4

/-- The 48 bits of bytes 6 to 11 (R179). -/
def clockWord (p : Packet) : Nat := beNat (bytesAt p 6 6)
/-- The clock reference base, 33 bits (R179). -/
def clockBase (p : Packet) : Nat := clockWord p / 32768 % 8589934592
/-- The clock reference extension, 9 bits (R179). -/
def clockExt (p : Packet) : Nat := clockWord p % 512

/-- The packet with a base and an extension written back, the 6 unused bits as they were (R143 step 4). -/
def withClock (p : Packet) (base ext : Nat) : Packet :=
  p.take 6 ++ beBytes 6 (base * 32768 + clockWord p / 512 % 64 * 512 + ext) ++ p.drop 12

/-- The clock reference corrected by a residence (R143 steps 3 and 4). -/
def correctClock (p : Packet) (residence : Nat) : Packet :=
  let c := (clockBase p * 300 + clockExt p + residence) % 2576980377600
  withClock p (c / 300) (c % 300)

/-- The null packet (R141). -/
def nullPacket : Packet := [0x47#8, 0x1F#8, 0xFF#8, 0x10#8] ++ List.replicate 184 0xFF#8

/-- An own packet (R182): header, kind, address, tag, request code, status, reason, length, parameters, fill. -/
def ownPacket (id cc kind addr tag code status reason : Nat) (params : List Byte) : Packet :=
  [0x47#8, BitVec.ofNat 8 (64 + id / 256 % 32), BitVec.ofNat 8 id, BitVec.ofNat 8 (16 + cc % 16)]
    ++ (b1 kind ++ b1 addr ++ b1 tag ++ b1 code ++ b1 status ++ b1 reason ++ b2 params.length)
    ++ params ++ List.replicate (176 - params.length) 0xFF#8

/-- The kind of a management packet (R181). -/
def mgmtKind (p : Packet) : Nat := (byteAt p 4).toNat
/-- The address of a management packet (R181). -/
def mgmtAddr (p : Packet) : Nat := (byteAt p 5).toNat
/-- The tag of a management packet (R181). -/
def mgmtTag (p : Packet) : Nat := (byteAt p 6).toNat
/-- The request code of a management packet (R181). -/
def mgmtCode (p : Packet) : Nat := (byteAt p 7).toNat
/-- The parameter length of a management packet (R181). -/
def mgmtLen (p : Packet) : Nat := beNat (bytesAt p 10 2)
/-- The parameters of a management packet (R181). -/
def mgmtParams (p : Packet) : List Byte := bytesAt p 12 (mgmtLen p)

end Sys2Proof.Machine
end

