-- ==== Sys2Proof/Machine/Ops.lean ====
section
/-! DEFINITION. The named operations over the state's parts: reading and changing one lane, pair, port, monitor or
timer, the conditions other blocks read, the page map and the page contents. -/

namespace Sys2Proof.Machine

/-- All lanes in order. -/
def allLanes : List LaneId := [0, 1, 2, 3]
/-- All timers in order. -/
def allTimers : List TimerId := [0, 1, 2, 3, 4, 5, 6, 7]
/-- All monitors in order. -/
def allMonitors : List MonitorId := [0, 1, 2, 3, 4, 5, 6, 7]

/-- The chain output. -/
def portCO : PortId := 0
/-- Feed F0. -/
def portF0 : PortId := 1
/-- Feed F1. -/
def portF1 : PortId := 2

namespace State

/-- A lane's context. -/
def lane (s : State) (l : LaneId) : Lane := s.lanes[l]
/-- Put a lane's context. -/
def setLane (s : State) (l : LaneId) (c : Lane) : State := { s with lanes := s.lanes.set l c }
/-- Change a lane's context. -/
def modLane (s : State) (l : LaneId) (f : Lane → Lane) : State := s.setLane l (f (s.lane l))
/-- A pair. -/
def pairAt (s : State) (p : PairId) : Pair := s.pairs[p]
/-- Put a pair. -/
def setPair (s : State) (p : PairId) (c : Pair) : State := { s with pairs := s.pairs.set p c }
/-- Change a pair. -/
def modPair (s : State) (p : PairId) (f : Pair → Pair) : State := s.setPair p (f (s.pairAt p))
/-- A port. -/
def port (s : State) (p : PortId) : Port := s.ports[p]
/-- Put a port. -/
def setPort (s : State) (p : PortId) (c : Port) : State := { s with ports := s.ports.set p c }
/-- Change a port. -/
def modPort (s : State) (p : PortId) (f : Port → Port) : State := s.setPort p (f (s.port p))
/-- A monitor. -/
def monitor (s : State) (m : MonitorId) : Monitor := s.monitors[m]
/-- Put a monitor. -/
def setMonitor (s : State) (m : MonitorId) (c : Monitor) : State := { s with monitors := s.monitors.set m c }
/-- A timer. -/
def timer (s : State) (t : TimerId) : Timer := s.timers[t]
/-- Put a timer. -/
def setTimer (s : State) (t : TimerId) (c : Timer) : State := { s with timers := s.timers.set t c }
/-- Change a timer. -/
def modTimer (s : State) (t : TimerId) (f : Timer → Timer) : State := s.setTimer t (f (s.timer t))
/-- Put work to be handed on at the end of the event (R169, R172; log 11). -/
def addWork (s : State) (ws : List Work) : State := { s with work := s.work ++ ws }

end State

/-- A raw object number as a lane, when there is such a lane. -/
def asLane (n : Nat) : Option LaneId := if h : n < 4 then some ⟨n, h⟩ else none
/-- A raw object number as a pair. -/
def asPair (n : Nat) : Option PairId := if h : n < 2 then some ⟨n, h⟩ else none
/-- A raw object number as a port. -/
def asPort (n : Nat) : Option PortId := if h : n < 3 then some ⟨n, h⟩ else none
/-- A raw object number as a monitor. -/
def asMonitor (n : Nat) : Option MonitorId := if h : n < 8 then some ⟨n, h⟩ else none
/-- A raw object number as a timer. -/
def asTimer (n : Nat) : Option TimerId := if h : n < 8 then some ⟨n, h⟩ else none

/-! ### Pairs and lanes (4.3) -/

/-- The pair a lane can belong to: P0 for L0 and L1, P1 for L2 and L3. -/
def pairOf (l : LaneId) : PairId := if l.val < 2 then 0 else 1
/-- The primary lane of a pair: the even lane. -/
def primaryOf (p : PairId) : LaneId := if p.val = 0 then 0 else 2
/-- The secondary lane of a pair: the odd lane. -/
def secondaryOf (p : PairId) : LaneId := if p.val = 0 then 1 else 3
/-- Whether a lane is the primary of its pair. -/
def isPrimary (l : LaneId) : Bool := l.val % 2 = 0
/-- The other lane of a lane's pair. -/
def partnerOf (l : LaneId) : LaneId :=
  if isPrimary l then secondaryOf (pairOf l) else primaryOf (pairOf l)
/-- A lane's name within its pair (R75). -/
def refName (l : LaneId) : RefLane := if isPrimary l then .primary else .secondary

/-- Whether a lane belongs to a formed pair. -/
def paired (s : State) (l : LaneId) : Bool := (s.pairAt (pairOf l)).formed
/-- Whether a lane is the secondary of a formed pair (R20). -/
def isSecondary (s : State) (l : LaneId) : Bool := paired s l && !isPrimary l
/-- The lane whose context holds a lane's data path: the primary of a formed pair, else the lane itself (4.3). -/
def pathOf (s : State) (l : LaneId) : LaneId := if paired s l then primaryOf (pairOf l) else l
/-- Whether a lane's work drives the data path: a single lane always, a lane of a pair while it is the reference
(R74, R75). -/
def drivesPath (s : State) (l : LaneId) : Bool := !paired s l || (s.pairAt (pairOf l)).ref = refName l
/-- The pipe id a lane selects by: its own, or the primary's for a lane of a pair (R8, R71). -/
def selectId (s : State) (l : LaneId) : Nat := (s.lane (pathOf s l)).setup.pipeId

/-- Whether a lane is in LOCK or FADE. -/
def inLockOrFade (s : State) (l : LaneId) : Bool :=
  decide ((s.lane l).state = .lock ∨ (s.lane l).state = .fade)

/-! ### Conditions (R167) -/

/-- GRADE_LOW of a lane (R69). -/
def gradeLow (s : State) (l : LaneId) : Bool :=
  decide ((s.lane l).state = .lock ∧ ((s.lane l).quality.grade = .poor ∨ (s.lane l).quality.grade = .bad))
/-- LOCKED(lane) as a gate condition (R167). -/
def lockedCond (s : State) (l : LaneId) : Bool := decide ((s.lane l).state = .lock)
/-- IN_FADE(lane) (R167). -/
def inFade (s : State) (l : LaneId) : Bool := decide ((s.lane l).state = .fade)
/-- CI_HOLDING (R152). -/
def ciHolding (s : State) : Bool := decide (s.co.hold ≠ .idle)
/-- The CI hold line toward the upstream card: asserted in HOLDING (R152). -/
def ciHoldLine (s : State) : Bool := decide (s.co.hold = .holding)

/-! ### The page map (R82) and the page contents (R91) -/

/-- The free count. -/
def Pool.freeCount (p : Pool) : Nat := p.pageMap.count none
/-- A lane's owned count. -/
def Pool.owned (p : Pool) (l : LaneId) : Nat := p.pageMap.count (some l)
/-- A lane's unmet reservation (R85). -/
def Pool.unmet (p : Pool) (l : LaneId) : Nat := p.reserved[l] - p.owned l
/-- The sum of the unmet reservations (R85). -/
def Pool.unmetSum (p : Pool) : Nat := p.unmet 0 + p.unmet 1 + p.unmet 2 + p.unmet 3

/-- The `n` lowest-numbered FREE entries become a lane's (R87). -/
def grantMap (l : LaneId) : Nat → List (Option LaneId) → List (Option LaneId)
  | _, [] => []
  | 0, m => m
  | n + 1, none :: m => some l :: grantMap l n m
  | n + 1, some k :: m => some k :: grantMap l (n + 1) m

/-- Every entry of a lane becomes FREE (R88). -/
def releaseMap (l : LaneId) (m : List (Option LaneId)) : List (Option LaneId) :=
  m.map (fun o => if o = some l then none else o)

/-- A lane keeps its `n` lowest-numbered entries; its others become FREE (R89). -/
def shrinkMap (l : LaneId) : Nat → List (Option LaneId) → List (Option LaneId)
  | _, [] => []
  | n, o :: m =>
    if o = some l then
      (match n with
        | 0 => none :: shrinkMap l 0 m
        | k + 1 => some l :: shrinkMap l k m)
    else o :: shrinkMap l n m

/-- The pages of a lane in ascending order, from page number `k` on; place i is logical index i (R82). -/
def pagesFrom (l : LaneId) (k : Nat) : List (Option LaneId) → List Nat
  | [] => []
  | o :: m => if o = some l then k :: pagesFrom l (k + 1) m else pagesFrom l (k + 1) m

/-- A lane's pages in logical order (R82). -/
def Pool.pagesOf (p : Pool) (l : LaneId) : List Nat := pagesFrom l 0 p.pageMap

/-- What a cell reads as that nothing has written since power-up (log 9). -/
def unlistedCell : PoolCell := PoolCell.erased

/-- Read the cell at an address. -/
def readCell : List (Nat × PoolCell) → Nat → PoolCell
  | [], _ => unlistedCell
  | (b, c) :: m, a => if a = b then c else readCell m a

/-- Write the cell at an address, keeping the canonical form: addresses strictly rising, no entry equal to
`unlistedCell`. -/
def writeCell : List (Nat × PoolCell) → Nat → PoolCell → List (Nat × PoolCell)
  | [], a, v => if v = unlistedCell then [] else [(a, v)]
  | (b, c) :: m, a, v =>
    if a < b then (if v = unlistedCell then (b, c) :: m else (a, v) :: (b, c) :: m)
    else if a = b then (if v = unlistedCell then m else (a, v) :: m)
    else (b, c) :: writeCell m a v

/-- Addresses strictly rising. -/
def risingFrom : Nat → List (Nat × PoolCell) → Bool
  | _, [] => true
  | lo, (a, _) :: m => decide (lo ≤ a) && risingFrom (a + 1) m

/-- The canonical form of the page contents. -/
def cellsWf (m : List (Nat × PoolCell)) : Bool := risingFrom 0 m && m.all (fun e => decide (e.2 ≠ unlistedCell))

/-- The cell at a lane's logical page and place (R91); the unlisted cell where the lane owns no such page. -/
def Pool.readAt (p : Pool) (pages : List Nat) (logical place : Nat) : PoolCell :=
  match pages[logical]? with
  | none => unlistedCell
  | some page => readCell p.cells (page * 2048 + place)

/-- Write the cell at a lane's logical page and place (R91). -/
def Pool.writeAt (p : Pool) (pages : List Nat) (logical place : Nat) (v : PoolCell) : Pool :=
  match pages[logical]? with
  | none => p
  | some page => { p with cells := writeCell p.cells (page * 2048 + place) v }

end Sys2Proof.Machine
end

