-- ==== Sys2Proof/Machine/Flags.lean ====
section
/-! DEFINITION. Every flag and report the blocks raise: event flags and the pending set (R198, R199), the fault log
(R203), condition events, and the SPAN timers that follow conditions (R171). -/

namespace Sys2Proof.Machine

/-- Event numbers (R197). -/
def evLocked (l : LaneId) : Nat := 2 + l.val
/-- FADED (R197). -/
def evFaded (l : LaneId) : Nat := 6 + l.val
/-- RELEASED (R197). -/
def evReleased (l : LaneId) : Nat := 10 + l.val
/-- LAYOUT (R197). -/
def evLayout (l : LaneId) : Nat := 14 + l.val
/-- SEARCH_WRAP (R197). -/
def evSearchWrap (l : LaneId) : Nat := 18 + l.val
/-- GRADE_LOW (R197). -/
def evGradeLow (l : LaneId) : Nat := 22 + l.val
/-- PAIR_CHANGE (R197). -/
def evPairChange (p : PairId) : Nat := 26 + p.val
/-- CONGESTED (R197). -/
def evCongested : Nat := 28
/-- MAP_SWAPPED (R197). -/
def evMapSwapped : Nat := 29
/-- MAP_LOAD_ERROR (R197). -/
def evMapLoadError : Nat := 30
/-- CI_HOLDING (R197). -/
def evCiHolding : Nat := 31
/-- PORT_DROP (R197). -/
def evPortDrop (p : PortId) : Nat := 32 + p.val
/-- MONITOR_HIT (R197). -/
def evMonitorHit (m : MonitorId) : Nat := 35 + m.val
/-- TIMER_EXPIRY (R197). -/
def evTimerExpiry (t : TimerId) : Nat := 43 + t.val

/-- The condition events: FAULT_OVERFLOW, GRADE_LOW of each lane, CONGESTED, CI_HOLDING (R197). -/
def conditionEvents : BitVec 51 := BitVec.ofNat 51 (2 + 15 * 4194304 + 268435456 + 2147483648)

/-- A flag changes from low to raised and joins the pending set if it is enabled; a raised flag stays raised (R198,
R199). -/
def raiseIn (e : EventUnit) (n : Nat) : EventUnit :=
  if e.flags.getLsbD n then e
  else { e with
    flags := setBit e.flags n
    pending := if e.enables.getLsbD n then setBit e.pending n else e.pending }

/-- A flag falls and its event leaves the pending set (R199). -/
def lowerIn (e : EventUnit) (n : Nat) : EventUnit :=
  { e with flags := clearBit e.flags n, pending := clearBit e.pending n }

/-- Raise an event (R198). -/
def raise (n : Nat) (s : State) : State := { s with ev := raiseIn s.ev n }

/-- A condition event follows its condition (R198). -/
def setCondition (n : Nat) (holds : Bool) (s : State) : State :=
  { s with ev := if holds then raiseIn s.ev n else lowerIn s.ev n }

/-! ### Fault reports (R203) -/

/-- The reasons of the fault log (R203). -/
inductive FaultReason where
  | linkDown | layoutBad | poolShort | overrun | mgmtIdFromLane | idClash | queueDrop | ciFramingLost
  | replyLost | loadError | restampSkipped | pairMisaligned
  deriving DecidableEq, Repr

/-- Their codes (R203). -/
def FaultReason.code : FaultReason → Nat
  | .linkDown => 1
  | .layoutBad => 2
  | .poolShort => 3
  | .overrun => 4
  | .mgmtIdFromLane => 5
  | .idClash => 6
  | .queueDrop => 7
  | .ciFramingLost => 8
  | .replyLost => 9
  | .loadError => 10
  | .restampSkipped => 11
  | .pairMisaligned => 12

/-- Sources of the fault log (R203). -/
def srcLane (l : LaneId) : Nat := l.val
/-- CI. -/
def srcCI : Nat := 4
/-- CO, F0, F1. -/
def srcPort (p : PortId) : Nat := 5 + p.val
/-- The map. -/
def srcMap : Nat := 8
/-- The chain management unit. -/
def srcMgmt : Nat := 9
/-- P0, P1. -/
def srcPair (p : PairId) : Nat := 10 + p.val

/-- The records with one report collapsed into the record of its source and reason (R203, Collapse). -/
def collapse (source reason now : Nat) : List FaultRecord → List FaultRecord
  | [] => []
  | r :: rs =>
    if r.source = source ∧ r.reason = reason then
      { r with count := if r.count < 255 then r.count + 1 else r.count, last := now } :: rs
    else r :: collapse source reason now rs

/-- A fault report (R203): collapse, new record, or overflow. -/
def report (source : Nat) (reason : FaultReason) (info : Nat) (s : State) : State :=
  if s.log.records.any (fun r => decide (r.source = source ∧ r.reason = reason.code)) then
    { s with log := { s.log with records := collapse source reason.code s.time s.log.records } }
  else if s.log.records.length < 8 then
    raise 0 { s with log := { s.log with
      records := s.log.records ++ [⟨source, reason.code, info, 1, s.time, s.time⟩] } }
  else
    setCondition 1 true { s with log := { s.log with overflow := true } }

/-! ### Timers as followers of conditions (R167, R171) -/

/-- The source a kind byte and an index byte name (R167, 11.5). -/
def sourceOf (x : KindIndex) : Option Source :=
  match x.kind with
  | 1 => (asLane x.index).map .blanked
  | 2 => (asLane x.index).map .cwFailed
  | 3 => (asLane x.index).map .cwDropped
  | 4 => (asLane x.index).map .faded
  | 5 => (asMonitor x.index).map .monitorHit
  | 6 => (asPort x.index).map .portDrop
  | 7 => (asTimer x.index).map .timerExpiry
  | _ => none

/-- A SPAN condition: IN_FADE(lane), CO_HELD or GRADE_LOW(lane) (R167, 11.5). -/
def spanCondition (s : State) (x : KindIndex) : Bool :=
  match x.kind with
  | 8 => (match asLane x.index with | some l => inFade s l | none => false)
  | 9 => s.co.held
  | 10 => (match asLane x.index with | some l => gradeLow s l | none => false)
  | _ => false

/-- A gate: NONE, LOCKED(lane), GRADE_LOW(lane) or CI_HOLDING (R165, R167). -/
def gateOpen (s : State) (x : KindIndex) : Bool :=
  match x.kind with
  | 0 => true
  | 1 => (match asLane x.index with | some l => lockedCond s l | none => false)
  | 2 => (match asLane x.index with | some l => gradeLow s l | none => false)
  | 3 => ciHolding s
  | _ => false

/-- An expiry: raise TIMER_EXPIRY, and put the action and the occurrence of TIMER_EXPIRY(t) to be handed on, in that
order (R172). -/
def expire (t : TimerId) (s : State) : State :=
  (raise (evTimerExpiry t) s).addWork [.act t, .occ (.timerExpiry t)]

/-- One SPAN timer follows its condition (R171). -/
def followSpan (s : State) (t : TimerId) : State :=
  let tm := s.timer t
  if tm.run = .running ∧ tm.setting.mode = .span then
    let c := spanCondition s tm.setting.source
    if c && !tm.measuring then
      s.setTimer t { tm with measuring := true, counter := 0, pre := 0 }
    else if !c && tm.measuring then
      let s' := s.setTimer t { tm with
        measuring := false
        lastSpan := tm.counter
        maxSpan := if tm.maxSpan < tm.counter then tm.counter else tm.maxSpan }
      if tm.setting.reload ≤ tm.counter then expire t s' else s'
    else s
  else s

/-- The condition events take the values of their conditions (R198). -/
def followEvents (s : State) : State :=
  let s := setCondition 1 s.log.overflow s
  let s := allLanes.foldl (fun s l => setCondition (evGradeLow l) (gradeLow s l) s) s
  let s := setCondition evCongested s.dec.congested s
  setCondition evCiHolding (ciHolding s) s

/-- Condition events and SPAN timers follow the conditions as they now stand (R167: "taken together with the event in
the owning block that moves the condition"). The SPAN timers follow in ascending number (DESIGN CHOICE, log 43). -/
def follow (s : State) : State := allTimers.foldl followSpan (followEvents s)

end Sys2Proof.Machine
end

