-- ==== Sys2Proof/Machine/Port.lean ====
section
/-! DEFINITION. Output ports: queue arrivals and drops (R138), the chain-input hold (R152), own packets and notices
(R189 to R192, R200), and slot events (R139 to R144, R146). -/

namespace Sys2Proof.Machine

/-- Stream depth: classes 1 and 2 together (R137). -/
def Port.streamDepth (p : Port) : Nat := p.q1.length + p.q2.length

/-- The places of classes 1 and 2 at a port (R137). -/
def partitionSize (p : PortId) : Nat := if p = portCO then 88 else 96

/-- The chain-input hold judged after a change of CO's stream depth or an accepted PORT SETUP of CO (R152). -/
def judgeHold (s : State) : State :=
  let d := (s.port portCO).streamDepth
  let co := match s.co.hold with
    | .idle => if s.co.high ≤ d then { s.co with hold := .holding, holdCount := 0 } else s.co
    | .holding => if d ≤ s.co.low then { s.co with hold := .idle } else s.co
    | .paused => if d ≤ s.co.low then { s.co with hold := .idle } else s.co
  let s := { s with co := co }
  setCondition evCiHolding (ciHolding s) s

/-- The hold judged when the port is CO. -/
def judgeHoldAt (p : PortId) (s : State) : State := if p = portCO then judgeHold s else s

/-- The drop count of a class increases by 1 (R138 step 1). -/
def Port.countDrop (p : Port) (cls : Nat) : Port :=
  match cls with
  | 0 => { p with drop0 := wrap32 (p.drop0 + 1) }
  | 1 => { p with drop1 := wrap32 (p.drop1 + 1) }
  | _ => { p with drop2 := wrap32 (p.drop2 + 1) }

/-- A queue drop: count, PORT_DROP with its occurrence, and the report (R138). -/
def queueDrop (p : PortId) (cls : Nat) (own : Bool) (pkt : Packet) (s : State) : State :=
  let s := (raise (evPortDrop p) (s.modPort p (·.countDrop cls))).addWork [.occ (.portDrop p)]
  if own then report srcMgmt .replyLost (mgmtKind pkt) s else report (srcPort p) .queueDrop cls s

/-- A packet arrives at a port (R138). -/
def portArrive (p : PortId) (cls : Nat) (restamp own : Bool) (pkt : Packet) (s : State) : State :=
  let q := s.port p
  let e : Queued := ⟨pkt, cls, restamp, own, s.time⟩
  match cls with
  | 0 =>
    if q.q0.length < 8 then s.setPort p { q with q0 := q.q0 ++ [e] } else queueDrop p 0 own pkt s
  | 1 =>
    if q.streamDepth < partitionSize p then judgeHoldAt p (s.setPort p { q with q1 := q.q1 ++ [e] })
    else
      match q.q2.getLast? with
      | none => queueDrop p 1 own pkt s
      | some last =>
        queueDrop p 2 last.own last.packet (s.setPort p { q with q2 := q.q2.dropLast, q1 := q.q1 ++ [e] })
  | _ =>
    if q.streamDepth < partitionSize p then judgeHoldAt p (s.setPort p { q with q2 := q.q2 ++ [e] })
    else queueDrop p 2 own pkt s

/-- The status of a reply (R181). -/
inductive Status where
  | done | clamped | refused
  deriving DecidableEq, Repr

/-- The status code (R181). -/
def Status.code : Status → Nat
  | .done => 0
  | .clamped => 1
  | .refused => 2

/-- Refusal reasons (Conventions, Requests). -/
inductive RefuseReason where
  | busy | unknown | badParam | noObject | paired | notStopped | conflict | capacity | sequence | exists_ | absent
  deriving DecidableEq, Repr

/-- The reason codes (Conventions, Requests). -/
def RefuseReason.code : RefuseReason → Nat
  | .busy => 1
  | .unknown => 2
  | .badParam => 3
  | .noObject => 4
  | .paired => 5
  | .notStopped => 6
  | .conflict => 7
  | .capacity => 8
  | .sequence => 9
  | .exists_ => 10
  | .absent => 11

/-- A reply's status, reason code and parameters (R189). -/
structure Reply where
  status : Status
  reason : Nat
  params : List Byte
  deriving DecidableEq, Repr

/-- DONE with contents. -/
def Reply.done (params : List Byte) : Reply := ⟨.done, 0, params⟩
/-- CLAMPED or DONE, by whether a value was changed. -/
def Reply.clampedIf (changed : Bool) (params : List Byte) : Reply := ⟨if changed then .clamped else .done, 0, params⟩
/-- REFUSED with a reason and no parameters. -/
def Reply.refused (r : RefuseReason) : Reply := ⟨.refused, r.code, []⟩

/-- What judging a request gives: a reply at once, or none now (R190). -/
inductive Answer where
  | now (r : Reply)
  | later
  deriving DecidableEq, Repr

/-- An own packet takes the continuity count and is placed in CO class 0; a part at address 31 builds none (R189,
R191, R192). -/
def placeOwn (kind tag code status reason : Nat) (params : List Byte) (s : State) : State :=
  if s.mgmt.addr = 31 then s
  else
    let pkt := ownPacket s.mgmt.id s.mgmt.cc kind s.mgmt.addr tag code status reason params
    portArrive portCO 0 false true pkt { s with mgmt := { s.mgmt with cc := (s.mgmt.cc + 1) % 16 } }

/-- A reply (R189). -/
def sendReply (tag code : Nat) (r : Reply) (s : State) : State :=
  placeOwn 2 tag code r.status.code r.reason r.params s

/-- The numbers of the events in a set, ascending. -/
def eventList (x : BitVec 51) : List Nat := (List.range 51).filter (fun n => x.getLsbD n)

/-- Whether a notice is to be built (R200). -/
def noticeDue (s : State) : Bool :=
  s.mgmt.notices && decide (s.mgmt.addr ≠ 31) && decide (s.ev.pending ≠ 0#51) && !s.ev.outstanding

/-- Build a notice of the whole pending set (R200): it is outstanding if CO class 0 has room for it. -/
def buildNotice (s : State) : State :=
  let listed := eventList s.ev.pending
  let room := decide ((s.port portCO).q0.length < 8)
  placeOwn 3 0 0 0 0 (b1 listed.length ++ listed.flatMap b1)
    { s with ev := { s.ev with pending := 0#51, outstanding := room } }

/-- A packet passed on, placed in CO class 0 with its bytes as they arrived (R187). -/
def forward (pkt : Packet) (s : State) : State := portArrive portCO 0 false false pkt s

/-! ### Slot events -/

/-- The packet as sent and the state with a skipped restamp counted and reported (R143, R144). -/
def restamped (p : PortId) (e : Queued) (s : State) : Packet × State :=
  if e.restamp && carriesClock e.packet then
    if 300 ≤ clockExt e.packet then
      (e.packet, report (srcPort p) .restampSkipped (pktId e.packet)
        (s.modPort p (fun q => { q with skipped := wrap32 (q.skipped + 1) })))
    else (correctClock e.packet (wrapTime (s.time + 281474976710656 - e.arrival)), s)
  else (e.packet, s)

/-- Put a packet on the wire. -/
def putWire (p : PortId) (w : Option Packet) (s : State) : State := s.modPort p (fun q => { q with wire := w })

/-- Send a queued packet that has left its class (R140). The send of this part's notice clears notice outstanding
(R200). -/
def sendQueued (p : PortId) (e : Queued) (s : State) : State :=
  let (pkt, s) := restamped p e s
  let s := putWire p (some pkt) s
  if e.own && decide (mgmtKind e.packet = 3) then { s with ev := { s.ev with outstanding := false } } else s

/-- Choose from class 2: heads bearing the management id are dropped (R140). -/
def sendClass2 (p : PortId) : List Queued → State → State
  | [], s => putWire p (some nullPacket) (s.modPort p (fun q => { q with q2 := [] }))
  | e :: rest, s =>
    if pktId e.packet = s.mgmt.id then
      sendClass2 p rest (queueDrop p 2 e.own e.packet s)
    else sendQueued p e (s.modPort p (fun q => { q with q2 := rest }))

/-- Choose from class 1, then class 2 (R140). -/
def sendClass1 (p : PortId) : List Queued → State → State
  | [], s =>
    let s := s.modPort p (fun q => { q with q1 := [] })
    sendClass2 p (s.port p).q2 s
  | e :: rest, s =>
    if pktId e.packet = s.mgmt.id then
      sendClass1 p rest (queueDrop p 1 e.own e.packet s)
    else sendQueued p e (s.modPort p (fun q => { q with q1 := rest }))

/-- What a port sends at a slot event, by its state (R140, R142). A STOPPING port has already become STOPPED. -/
def slotSend (p : PortId) (s : State) : State :=
  let q := s.port p
  if p = portCO ∧ s.co.held then
    putWire p none { s with co := { s.co with heldSlots := wrap32 (s.co.heldSlots + 1) } }
  else
    match q.q0 with
    | e :: rest => sendQueued p e (s.setPort p { q with q0 := rest })
    | [] =>
      if q.pstate = .running then judgeHoldAt p (sendClass1 p q.q1 s)
      else putWire p (some nullPacket) s

/-- A CO slot event taken in HOLDING, and still in HOLDING after its send, counts toward the hold limit (R152). -/
def countHoldSlot (wasHolding : Bool) (s : State) : State :=
  if wasHolding && decide (s.co.hold = .holding) then
    let n := s.co.holdCount + 1
    { s with co := { s.co with holdCount := n, hold := if s.co.limit ≤ n then .paused else .holding } }
  else s

/-- A slot event (R139): the schedule advances, a STOPPING port becomes STOPPED, the port sends, the hold counts, and
the deferred reply of a completed stop is placed (R146). -/
def slotEvent (p : PortId) (s : State) : State :=
  let q := s.port p
  let stop := if q.pstate = .stopping then q.pendingStop else none
  let wasHolding := decide (s.co.hold = .holding)
  let s := s.setPort p { q with
    nextSlot := wrapTime (q.nextSlot + q.interval)
    pstate := if q.pstate = .stopping then .stopped else q.pstate
    pendingStop := if q.pstate = .stopping then none else q.pendingStop }
  let s := slotSend p s
  let s := if p = portCO then countHoldSlot wasHolding s else s
  match stop with
  | some tag => sendReply tag 0x29 (Reply.done []) s
  | none => s

end Sys2Proof.Machine
end

