-- ==== Sys2Proof/Machine/Monitor.lean ====
section
/-! DEFINITION. Section monitors (Chapter 9): which packets a monitor considers, the masked CRC, hits and arming, and the
three monitor requests. -/

namespace Sys2Proof.Machine

/-- The payload bytes at the offset plus each set mask flag, ascending, those beyond the payload skipped (R157). -/
def maskedBytes (offset : Nat) (mask : BitVec 64) (p : Packet) : List Byte :=
  ((List.range 64).filter (fun j => mask.getLsbD j && decide (offset + j < (payloadSpan p).2))).map
    (fun j => payloadByte p (offset + j))

/-- The masked CRC (R157). -/
def maskedCrc (m : Monitor) (p : Packet) : Nat := (crcBytes (maskedBytes m.offset m.mask p)).toNat

/-- Whether a monitor considers a packet of an origin (R156). -/
def Monitor.considers (m : Monitor) (origin : Nat) (p : Packet) : Bool :=
  m.enabled && m.armed && decide (origin = m.origin) && decide (pktId p = m.id) && !pktError p &&
    (pktStart p || !m.startOnly) && decide (m.offset < (payloadSpan p).2)

/-- Whether a considered packet of CRC `c` is a hit (R158). -/
def Monitor.isHit (m : Monitor) (c : Nat) : Bool :=
  match m.kind with
  | .pattern => decide (c = m.expected)
  | .change => m.refValid && decide (c ≠ m.refCrc)

/-- The reference after a considered packet of CRC `c` (R158): a CHANGE monitor learns or takes it. -/
def Monitor.learn (m : Monitor) (c : Nat) : Monitor :=
  match m.kind with
  | .pattern => m
  | .change => { m with refCrc := c, refValid := true }

/-- The monitor's own state at a hit (R159 steps 1, 2 and 4). -/
def Monitor.hit (m : Monitor) (p : Packet) (now c : Nat) : Monitor :=
  { m with
    capture := some ⟨p, now, c⟩
    hits := if m.hits < 65535 then m.hits + 1 else m.hits
    armed := m.armed && !m.once }

/-- One monitor takes an offered packet (R156 to R159). -/
def offerTo (origin : Nat) (p : Packet) (s : State) (i : MonitorId) : State :=
  let m := s.monitor i
  if m.considers origin p then
    let c := maskedCrc m p
    if m.isHit c then
      (raise (evMonitorHit i) (s.setMonitor i ((m.learn c).hit p s.time c))).addWork [.occ (.monitorHit i)]
    else s.setMonitor i (m.learn c)
  else s

/-- An arrival is offered to all eight monitors (R156), in ascending number: the spec gives no order, in which the hits of
two at one packet become occurrences (DESIGN CHOICE, log 46). -/
def offer (origin : Nat) (p : Packet) (s : State) : State := allMonitors.foldl (offerTo origin p) s

/-- A monitor is armed, its reference kept (R160). -/
def armMonitor (i : MonitorId) (s : State) : State := s.setMonitor i { s.monitor i with armed := true }

/-! ### Requests -/

/-- A kind code (11.5). -/
def monitorKindOf (n : Nat) : Option MonitorKind :=
  match n with
  | 0 => some .pattern
  | 1 => some .change
  | _ => none

/-- The code of a kind. -/
def MonitorKind.code : MonitorKind → Nat
  | .pattern => 0
  | .change => 1

/-- MONITOR SETUP (R162). -/
def doMonitorSetup (monitor : Nat) (f : MonitorForm) (s : State) : State × Answer :=
  match asMonitor monitor with
  | none => (s, .now (.refused .noObject))
  | some i =>
    match monitorKindOf f.kind with
    | none => (s, .now (.refused .badParam))
    | some k =>
      if 4 < f.origin ∨ 8190 < f.id then (s, .now (.refused .badParam))
      else
        (s.setMonitor i { s.monitor i with
            enabled := f.enabled, origin := f.origin, id := f.id, startOnly := f.startOnly, offset := min f.offset 183
            mask := f.mask, kind := k, expected := f.expected, once := f.once, armed := f.arm, refCrc := 0
            refValid := false },
          .now (.clampedIf (decide (183 < f.offset)) []))

/-- MONITOR ARM (R161). -/
def doMonitorArm (monitor : Nat) (s : State) : State × Answer :=
  match asMonitor monitor with
  | none => (s, .now (.refused .noObject))
  | some i => (armMonitor i s, .now (.done []))

/-- The settings in the form of MONITOR SETUP, up to once (R189, R163; log 24). -/
def monitorSettingBytes (m : Monitor) : List Byte :=
  bBool m.enabled ++ b1 m.origin ++ b2 m.id ++ bBool m.startOnly ++ b1 m.offset ++ flagBytes 8 m.mask.toNat ++
    b1 m.kind.code ++ b2 m.expected ++ bBool m.once

/-- Part 0 (R163). -/
def monitorPart0 (m : Monitor) : List Byte :=
  monitorSettingBytes m ++ bBool m.armed ++ bBool m.refValid ++ b2 m.refCrc ++ b2 m.hits ++
    (match m.capture with
      | none => bBool false ++ b6 0 ++ b2 0
      | some c => bBool true ++ b6 c.arrival ++ b2 c.crc)

/-- Parts 1 and 2 (R163): the captured bytes from a place on; none for an empty slot. -/
def monitorPartBytes (m : Monitor) (start : Nat) : List Byte :=
  match m.capture with
  | none => bBool false ++ b6 0
  | some c => bBool true ++ b6 c.arrival ++ bytesAt c.packet start 94

/-- MONITOR READ (R163). The monitor number is judged before the part, so that both out of range are refused with NO_OBJECT;
R163 gives no order (DESIGN CHOICE, log 47). -/
def doMonitorRead (monitor part : Nat) (clear : Bool) (s : State) : State × Answer :=
  match asMonitor monitor with
  | none => (s, .now (.refused .noObject))
  | some i =>
    let m := s.monitor i
    let s' := if clear then s.setMonitor i { m with hits := 0, capture := none } else s
    match part with
    | 0 => (s', .now (.done (monitorPart0 m)))
    | 1 => (s', .now (.done (monitorPartBytes m 0)))
    | 2 => (s', .now (.done (monitorPartBytes m 94)))
    | _ => (s, .now (.refused .badParam))

end Sys2Proof.Machine
end

