-- ==== Sys2Proof/Machine/StreamMap.lean ====
section
/-! DEFINITION. The stream map (Chapter 7): map entries and claims, the lookup cache, the handling of an arrival, and the
map and origin requests. -/

namespace Sys2Proof.Machine

/-! ### Destinations, entries and their bytes (R116, R119, R183, R184) -/

/-- A destination byte: a non-empty set in bits 0 to 2, no other bit set (R183, R184). -/
def destsOf (b : BitVec 8) : Option Dests :=
  if b = 0#8 ∨ b &&& 0xF8#8 ≠ 0#8 then none else some ⟨b.getLsbD 0, b.getLsbD 1, b.getLsbD 2⟩

/-- The destination byte of a set. -/
def destsByte (d : Dests) : Nat := (if d.co then 1 else 0) + (if d.f0 then 2 else 0) + (if d.f1 then 4 else 0)

/-- Whether a port is in a set. -/
def Dests.has (d : Dests) (p : PortId) : Bool := if p = portCO then d.co else if p = portF0 then d.f0 else d.f1

/-- Whether two sets share a port. -/
def Dests.meets (a b : Dests) : Bool := (a.co && b.co) || (a.f0 && b.f0) || (a.f1 && b.f1)

/-- An action value (R183). -/
def actionOf (n : Nat) : Option Action :=
  match n with
  | 0 => some .route
  | 1 => some .drop
  | _ => none

/-- The code of an action. -/
def Action.code : Action → Nat
  | .route => 0
  | .drop => 1

/-- The structure test of an entry (R128 step 1, R184). -/
def entryOf (e : EntryForm) : Option MapEntry :=
  match actionOf e.action, destsOf e.dests with
  | some a, some d =>
    if 4 < e.origin ∨ 8190 < e.inId ∨ 8190 < e.outId ∨ e.cls = 0 ∨ 2 < e.cls then none
    else some ⟨⟨e.origin, e.inId⟩, ⟨a, e.outId, d, e.cls, e.restamp⟩⟩
  | _, _ => none

/-- The 8 bytes of an entry, unread bits and byte 7 as 0 (R183, R184). -/
def entryBytes (e : MapEntry) : List Byte :=
  b1 e.key.origin ++ b2 e.key.id ++
    b1 (e.route.action.code + 4 * e.route.cls + (if e.route.restamp then 16 else 0)) ++ b2 e.route.outId ++
    b1 (destsByte e.route.dests) ++ b1 0

/-! ### The map table and the claim sets (R119, R120) -/

/-- The lowest slot from number `k` on that holds an entry with a key. -/
def findKeyFrom (key : Key) : Nat → List (Option MapSlot) → Option (Nat × MapSlot)
  | _, [] => none
  | k, some x :: m => if x.entry.key = key then some (k, x) else findKeyFrom key (k + 1) m
  | k, none :: m => findKeyFrom key (k + 1) m

/-- The slot that holds an entry with a key. -/
def findKey (slots : List (Option MapSlot)) (key : Key) : Option (Nat × MapSlot) := findKeyFrom key 0 slots

/-- The lowest-numbered empty slot from number `k` on. -/
def firstEmptyFrom : Nat → List (Option MapSlot) → Option Nat
  | _, [] => none
  | k, none :: _ => some k
  | k, some _ :: m => firstEmptyFrom (k + 1) m

/-- The number of entries in the map. -/
def entryCount (slots : List (Option MapSlot)) : Nat := (slots.filter (·.isSome)).length

/-- Whether an entry is a ROUTE entry that gives an id to some port of a set. -/
def MapEntry.claims (e : MapEntry) (id : Nat) (d : Dests) : Bool :=
  decide (e.route.action = .route) && decide (e.route.outId = id) && e.route.dests.meets d

/-- Whether an id is in the claim set of some port of a set (R120); the entry of slot `except` is left out (R129). -/
def claimedFrom (id : Nat) (d : Dests) (except : Option Nat) : Nat → List (Option MapSlot) → Bool
  | _, [] => false
  | k, some x :: m => (decide (except ≠ some k) && x.entry.claims id d) || claimedFrom id d except (k + 1) m
  | k, none :: m => claimedFrom id d except (k + 1) m

/-- The claim set of a set of ports, as a test (R120). -/
def claimed (slots : List (Option MapSlot)) (id : Nat) (d : Dests) : Bool := claimedFrom id d none 0 slots

/-- One port as a set. -/
def onlyPort (p : PortId) : Dests := ⟨decide (p = portCO), decide (p = portF0), decide (p = portF1)⟩

/-- The management id and claim test of R128 step 4. -/
def entryConflicts (slots : List (Option MapSlot)) (except : Option Nat) (mgmtId : Nat) (e : MapEntry) : Bool :=
  decide (e.route.outId = mgmtId) || (decide (e.key.origin = 4) && decide (e.key.id = mgmtId)) ||
    (decide (e.route.action = .route) && claimedFrom e.route.outId e.route.dests except 0 slots)

/-- Whether a management id is used in a way R119 forbids (R195 step 2). -/
def idInUse (slots : List (Option MapSlot)) (id : Nat) : Bool :=
  slots.any (fun o => match o with
    | none => false
    | some x => decide (x.entry.route.outId = id) || (decide (x.entry.key.origin = 4) && decide (x.entry.key.id = id)))

/-! ### The lookup cache (R125, R126) -/

/-- The result of a miss (R125). -/
def missResult (slots : List (Option MapSlot)) (key : Key) : CacheResult :=
  ⟨key, (findKey slots key).map (fun x => (x.1, x.2.entry.route))⟩

/-- The cache after a lookup, and the result used (R125). -/
def cacheLookup (m : MapUnit) (key : Key) : CacheResult × List CacheResult :=
  match m.cache.find? (fun r => decide (r.key = key)) with
  | some r => (r, r :: m.cache.filter (fun x => decide (x.key ≠ key)))
  | none =>
    let r := missResult m.slots key
    (r, r :: (if 32 ≤ m.cache.length then m.cache.dropLast else m.cache))

/-- The counter of a slot that still holds the key increases (R126). -/
def countSlot (key : Key) (n : Nat) (slots : List (Option MapSlot)) : List (Option MapSlot) :=
  match slots[n]? with
  | some (some x) =>
    if x.entry.key = key then slots.set n (some { x with counter := wrap32 (x.counter + 1) }) else slots
  | _ => slots

/-- A lookup with its effects on the cache and on the entry's counter (R122, R125, R126). -/
def lookup (m : MapUnit) (key : Key) : Option Route × MapUnit :=
  let (r, cache) := cacheLookup m key
  match r.found with
  | none => (none, { m with cache := cache })
  | some (n, route) => (some route, { m with cache := cache, slots := countSlot key n m.slots })

/-! ### Handling an arrival (R121 to R124) -/

/-- The setting of an origin; origin numbers are 0 to 4. -/
def originSetting (m : MapUnit) (origin : Nat) : OriginSetting := m.origins[origin]?.getD .laneReset

/-- Whether a packet of CI goes to the chain management unit (R121 test 1). -/
def toManagement (s : State) (origin : Nat) (p : Packet) : Bool := decide (origin = 4) && decide (pktId p = s.mgmt.id)

/-- The hash flag of an id (R123). -/
def hashFlag (id : Nat) : Nat := ((id ^^^ (id / 64)) ^^^ (id / 4096)) % 64

/-- A decision of the map on a packet (R122): the copies to be handed over. `passed` marks copies passed unchanged. -/
structure Copies where
  packet : Packet
  dests : Dests
  cls : Nat
  restamp : Bool
  passed : Bool
  deriving DecidableEq, Repr

/-- A packet passed unchanged by its origin's setting (R122). -/
def passCopies (o : OriginSetting) (p : Packet) : Copies := ⟨p, o.dests, o.cls, false, true⟩

/-- What the origin's mode does with a packet of an ABSENT result (R122). -/
def absentFate (o : OriginSetting) (p : Packet) : Option Copies :=
  match o.mode with
  | .drop => none
  | .pass => some (passCopies o p)
  | .hash => if o.hash.getLsbD (hashFlag (pktId p)) then some (passCopies o p) else none
  | .all => some (passCopies o p)

/-- The map's decision, with the lookup's effects (R122). -/
def decideFate (m : MapUnit) (origin : Nat) (p : Packet) : Option Copies × MapUnit :=
  let o := originSetting m origin
  if o.mode = .all then (some (passCopies o p), m)
  else
    let (found, m) := lookup m ⟨origin, pktId p⟩
    match found with
    | none => (absentFate o p, m)
    | some r =>
      match r.action with
      | .drop => (none, m)
      | .route => (some ⟨withId p r.outId, r.dests, r.cls, r.restamp, false⟩, m)

/-- One copy: the clash test, then its port (R124). -/
def handCopy (c : Copies) (s : State) (p : PortId) : State :=
  if c.dests.has p then
    let id := pktId c.packet
    if decide (id = s.mgmt.id) || (c.passed && claimed s.smap.slots id (onlyPort p)) then report srcMap .idClash id s
    else portArrive p c.cls c.restamp false c.packet s
  else s

/-- The copies in the order CO, F0, F1 (R124). -/
def handCopies (c : Copies) (s : State) : State := [portCO, portF0, portF1].foldl (handCopy c) s

/-- An arrival at the map that is not a management arrival (R121 tests 2 to 4, R122, R124). -/
def mapArrival (origin : Nat) (p : Packet) (s : State) : State :=
  if pktId p = 8191 then s
  else if origin ≠ 4 ∧ pktId p = s.mgmt.id then report origin .mgmtIdFromLane (pktId p) s
  else if pktError p = true ∧ (originSetting s.smap origin).forwardErrored = false then s
  else
    let s := offer origin p s
    let (copies, m) := decideFate s.smap origin p
    let s := { s with smap := m }
    match copies with
    | none => s
    | some c => handCopies c s

/-! ### MAP EDIT (R128, R129) -/

/-- ADD (R128). -/
def doMapEditAdd (f : EntryForm) (s : State) : State × Answer :=
  let m := s.smap
  if m.staging.isSome then (s, .now (.refused .busy))
  else
    match entryOf f with
    | none => (s, .now (.refused .badParam))
    | some e =>
      if (findKey m.slots e.key).isSome then (s, .now (.refused .exists_))
      else
        match firstEmptyFrom 0 m.slots with
        | none => (s, .now (.refused .capacity))
        | some n =>
          if entryConflicts m.slots none s.mgmt.id e then (s, .now (.refused .conflict))
          else ({ s with smap := { m with slots := m.slots.set n (some ⟨e, 0⟩) } }, .now (.done (b2 n)))

/-- The slot of the key a REPLACE or REMOVE carries, or the refusal (R129). -/
def editTarget (f : EntryForm) (s : State) : Except RefuseReason (Nat × MapSlot) :=
  if s.smap.staging.isSome then .error .busy
  else if 4 < f.origin ∨ 8190 < f.inId then .error .badParam
  else
    match findKey s.smap.slots ⟨f.origin, f.inId⟩ with
    | none => .error .absent
    | some x => .ok x

/-- REPLACE (R129). -/
def doMapEditReplace (f : EntryForm) (s : State) : State × Answer :=
  match editTarget f s with
  | .error r => (s, .now (.refused r))
  | .ok (n, old) =>
    match entryOf f with
    | none => (s, .now (.refused .badParam))
    | some e =>
      if entryConflicts s.smap.slots (some n) s.mgmt.id e then (s, .now (.refused .conflict))
      else
        ({ s with smap := { s.smap with slots := s.smap.slots.set n (some ⟨e, old.counter⟩) } }, .now (.done (b2 n)))

/-- REMOVE (R129). -/
def doMapEditRemove (f : EntryForm) (s : State) : State × Answer :=
  match editTarget f s with
  | .error r => (s, .now (.refused r))
  | .ok (n, _) => ({ s with smap := { s.smap with slots := s.smap.slots.set n none } }, .now (.done (b2 n)))

/-! ### MAP READ and MAP INVALIDATE (R130, R127) -/

/-- One slot of a MAP READ reply (R130, R189; log 24). -/
def slotBytes (o : Option MapSlot) : List Byte :=
  match o with
  | none => bBool false ++ List.replicate 12 0
  | some x => bBool true ++ entryBytes x.entry ++ b4 x.counter

/-- The slots of a range with their counters at 0. -/
def clearRange (slots : List (Option MapSlot)) (first n : Nat) : List (Option MapSlot) :=
  slots.take first ++
    ((slots.drop first).take n).map (fun o => o.map (fun x => { x with counter := 0 })) ++ slots.drop (first + n)

/-- MAP READ (R130). -/
def doMapRead (first count : Nat) (clear : Bool) (s : State) : State × Answer :=
  if 1023 < first then (s, .now (.refused .badParam))
  else
    let m := s.smap
    let n := clamp 1 12 count
    let range := (m.slots.drop first).take n
    let reply := b2 (entryCount m.slots) ++ bBool m.staging.isSome ++ b1 range.length ++ range.flatMap slotBytes
    (if clear then { s with smap := { m with slots := clearRange m.slots first n } } else s,
      .now (.clampedIf (decide (n ≠ count)) reply))

/-- The granularities with their codes (11.5). -/
inductive Granularity where
  | all | origin | block
  deriving DecidableEq, Repr

/-- The results an accepted MAP INVALIDATE removes, and the actual granularity's code; none when it is refused
(R127). -/
def invalidation (granularity origin id m : Nat) : Option (Nat × (Key → Bool)) :=
  match granularity with
  | 1 => some (1, fun _ => true)
  | 2 => if origin ≤ 4 then some (2, fun k => decide (k.origin = origin)) else none
  | 3 =>
    if origin ≤ 4 ∧ id ≤ 8190 ∧ m ≤ 12 then
      if m ≤ 6 then some (3, fun k => decide (k.origin = origin) && decide (k.id / 2 ^ m = id / 2 ^ m))
      else some (2, fun k => decide (k.origin = origin))
    else none
  | _ => none

/-- The results of a cache that a test does not name, in their order. -/
def keepResults (gone : Key → Bool) (cache : List CacheResult) : List CacheResult :=
  cache.filter (fun r => !gone r.key)

/-- MAP INVALIDATE (R127): a refused reply carries NONE and a count of 0. -/
def doMapInvalidate (granularity origin id m : Nat) (s : State) : State × Answer :=
  match invalidation granularity origin id m with
  | none => (s, .now ⟨.refused, RefuseReason.code .badParam, b1 0 ++ b1 0⟩)
  | some (actual, gone) =>
    let kept := keepResults gone s.smap.cache
    ({ s with smap := { s.smap with cache := kept } },
      .now (.done (b1 actual ++ b1 (s.smap.cache.length - kept.length))))

/-! ### Origin requests (R117, R118) -/

/-- A mode code (11.5). -/
def originModeOf (n : Nat) : Option OriginMode :=
  match n with
  | 0 => some .drop
  | 1 => some .pass
  | 2 => some .hash
  | 3 => some .all
  | _ => none

/-- The code of a mode. -/
def OriginMode.code : OriginMode → Nat
  | .drop => 0
  | .pass => 1
  | .hash => 2
  | .all => 3

/-- The setting a form carries, if its fields are good (R117 step 2). -/
def originFormOf (f : OriginForm) : Option OriginSetting :=
  match originModeOf f.mode, destsOf f.dests with
  | some m, some d => if f.cls = 1 ∨ f.cls = 2 then some ⟨m, d, f.cls, f.forwardErrored, f.hash⟩ else none
  | _, _ => none

/-- Whether two settings are both in a passing mode and share a port (R116, R117 step 3). -/
def OriginSetting.clashes (a b : OriginSetting) : Bool :=
  decide (a.mode ≠ .drop) && decide (b.mode ≠ .drop) && a.dests.meets b.dests

/-- Whether a new setting of an origin clashes with one of the other four (R117 step 3). -/
def originConflicts (m : MapUnit) (origin : Nat) (o : OriginSetting) : Bool :=
  [0, 1, 2, 3, 4].any (fun k => decide (k ≠ origin) && o.clashes (originSetting m k))

/-- ORIGIN SETUP (R117). -/
def doOriginSetup (origin : Nat) (f : OriginForm) (s : State) : State × Answer :=
  if h : origin < 5 then
    match originFormOf f with
    | none => (s, .now (.refused .badParam))
    | some o =>
      if originConflicts s.smap origin o then (s, .now (.refused .conflict))
      else
        ({ s with smap := { s.smap with
            origins := s.smap.origins.set origin o h
            cache := keepResults (fun k => decide (k.origin = origin)) s.smap.cache } },
          .now (.done []))
  else (s, .now (.refused .noObject))

/-- A setting in the form of ORIGIN SETUP (R189). -/
def originBytes (o : OriginSetting) : List Byte :=
  b1 o.mode.code ++ b1 (destsByte o.dests) ++ b1 o.cls ++ bBool o.forwardErrored ++ flagBytes 8 o.hash.toNat

/-- ORIGIN READ (R118). -/
def doOriginRead (s : State) : State × Answer :=
  (s, .now (.done ([0, 1, 2, 3, 4].flatMap (fun k => originBytes (originSetting s.smap k)) ++
    [0, 1, 2, 3, 4].flatMap (fun k => b1 ((s.smap.cache.filter (fun r => decide (r.key.origin = k))).length)))))

/-! ### MAP LOAD and MAP ABORT (R131 to R135) -/

/-- A failed load (R133, R134): the staging area closes, MAP_LOAD_ERROR is raised, LOAD_ERROR is reported. -/
def failLoad (code : Nat) (r : RefuseReason) (s : State) : State × Answer :=
  let s := { s with smap := { s.smap with staging := none } }
  (report srcMap .loadError code (raise evMapLoadError s), .now (.refused r))

/-- The sequence test (R132): the code of the first failing test. -/
def sequenceTest (st : Option Staging) (g : SegmentForm) : Option Nat :=
  let received := match st with | none => 0 | some x => x.received
  if st = none ∧ g.first = false then some 1
  else if st.isSome = true ∧ g.first = true then some 2
  else if g.count = 0 then some 3
  else if (match st with | none => false | some x => decide (g.tag ≠ x.tag)) then some 4
  else if (match st with | none => false | some x => decide (g.total ≠ x.total)) then some 5
  else if g.offset ≠ received then some 6
  else if g.total ≤ received + g.count ∧ g.last = false then some 7
  else if g.last = true ∧ received + g.count ≠ g.total then some 8
  else none

/-- The entries of a segment, if each passes the structure test (R133). -/
def entriesOf : List EntryForm → Option (List MapEntry)
  | [] => some []
  | f :: fs =>
    match entryOf f, entriesOf fs with
    | some e, some es => some (e :: es)
    | _, _ => none

/-- No two entries with the same key. -/
def keysDistinct : List MapEntry → Bool
  | [] => true
  | e :: es => es.all (fun x => decide (x.key ≠ e.key)) && keysDistinct es

/-- No two ROUTE entries giving the same outgoing id to a common port. -/
def claimsDistinct : List MapEntry → Bool
  | [] => true
  | e :: es =>
    es.all (fun x => !(decide (e.route.action = .route) && x.claims e.route.outId e.route.dests)) && claimsDistinct es

/-- Whether an image breaks the rules on the management id and on claims (R134 test 12). -/
def imageConflicts (mgmtId : Nat) (es : List MapEntry) : Bool :=
  es.any (fun e => decide (e.route.outId = mgmtId) || (decide (e.key.origin = 4) && decide (e.key.id = mgmtId))) ||
    !claimsDistinct es

/-- The slots of an image (R134 step 1). -/
def imageSlots (es : List MapEntry) : List (Option MapSlot) :=
  es.map (fun e => some ⟨e, 0⟩) ++ List.replicate (1024 - es.length) none

/-- The image test and the swap at the last segment (R134). -/
def finishLoad (total : Nat) (es : List MapEntry) (s : State) : State × Answer :=
  if 1024 < total then failLoad 10 .capacity s
  else if keysDistinct es = false then failLoad 11 .exists_ s
  else if imageConflicts s.mgmt.id es then failLoad 12 .conflict s
  else
    (raise evMapSwapped { s with smap := { s.smap with slots := imageSlots es, cache := [], staging := none } },
      .now (.done []))

/-- MAP LOAD (R131 to R134). -/
def doMapLoad (g : SegmentForm) (s : State) : State × Answer :=
  if 21 < g.count ∨ g.entries.length ≠ g.count then failLoad 9 .badParam s
  else
    match sequenceTest s.smap.staging g with
    | some code => failLoad code .sequence s
    | none =>
      match entriesOf g.entries with
      | none => failLoad 9 .badParam s
      | some es =>
        let st : Staging := match s.smap.staging with | none => ⟨g.tag, g.total, 0, []⟩ | some x => x
        let entries := (st.entries ++ es).take 1024
        if g.last then finishLoad g.total entries s
        else
          ({ s with smap := { s.smap with
              staging := some { st with received := st.received + g.count, entries := entries } } }, .now (.done []))

/-- MAP ABORT (R135). -/
def doMapAbort (s : State) : State × Answer :=
  ({ s with smap := { s.smap with staging := none } }, .now (.done []))

end Sys2Proof.Machine
end

