-- ==== Sys2Proof/Machine/Signal.lean ====
section
/-! DEFINITION. The structure of the received signal (Chapter 1): transform sizes and guards, the guard correlation, the
validity checks of the signalling record, pilots and data cells, and codeword geometry. -/

namespace Sys2Proof.Machine

/-- The number of a mode, 1 to 4. -/
def modeNum : Mode → Nat
  | .m1 => 1
  | .m2 => 2
  | .m3 => 3
  | .m4 => 4

/-- The transform size N (R4). -/
def sizeN : Mode → Nat
  | .m1 => 2048
  | .m2 => 4096
  | .m3 => 8192
  | .m4 => 16384

/-- The code of a guard fraction (R189). -/
def guardCode : Guard → Nat
  | .g32 => 0
  | .g16 => 1
  | .g8 => 2
  | .g4 => 3

/-- The guard length Lg (R4). -/
def guardLen (m : Mode) : Guard → Nat
  | .g32 => sizeN m / 32
  | .g16 => sizeN m / 16
  | .g8 => sizeN m / 8
  | .g4 => sizeN m / 4

/-- The symbol length N + Lg (R4). -/
def symbolLen (m : Mode) (g : Guard) : Nat := sizeN m + guardLen m g

/-- The modes of a mode set in ascending order (R14, 11.5). -/
def modesOf (set : BitVec 4) : List Mode :=
  (if set.getLsbD 0 then [.m1] else []) ++ (if set.getLsbD 1 then [.m2] else []) ++
  (if set.getLsbD 2 then [.m3] else []) ++ (if set.getLsbD 3 then [.m4] else [])

/-- The guards of a guard set, smaller fraction first (R14, 11.5). -/
def guardsOf (set : BitVec 4) : List Guard :=
  (if set.getLsbD 0 then [.g32] else []) ++ (if set.getLsbD 1 then [.g16] else []) ++
  (if set.getLsbD 2 then [.g8] else []) ++ (if set.getLsbD 3 then [.g4] else [])

/-! ### Guard correlation (R5) -/

/-- Sums over pairs (a, b): the two components of the sum of a × conj b, and the sum of |a|² + |b|². -/
def correlateSums : List CInt → List CInt → Int × Int × Int → Int × Int × Int
  | a :: as, b :: bs, (re, im, e) =>
    correlateSums as bs
      (re + (a.re * b.re + a.im * b.im), im + (a.im * b.re - a.re * b.im),
        e + (a.re * a.re + a.im * a.im + b.re * b.re + b.im * b.im))
  | _, _, acc => acc

/-- floor(4095 × magnitude ÷ half energy): the greatest k in 0 to 4095 with k² × energy² ≤ 8190² × magnitude²; 0 when
the energy is 0 (R5). -/
def correlation (a b : List CInt) : Nat :=
  let (re, im, e) := correlateSums a b (0, 0, 0)
  if e = 0 then 0
  else greatest12 (fun k => decide ((k : Int) * k * (e * e) ≤ 67076100 * (re * re + im * im)))

/-- The guard correlation ρ at the head of a run of samples (R5). -/
def guardCorrelation (m : Mode) (g : Guard) (samples : List CInt) : Nat :=
  let lg := guardLen m g
  correlation (samples.take lg) ((samples.drop (sizeN m)).take lg)

/-- A peak of a search attempt (R24). -/
structure Peak where
  rho : Nat
  mode : Mode
  guard : Guard
  position : Nat
  deriving DecidableEq, Repr

/-- The better of a peak so far and a later one: the later wins only if greater (R24, among equal values the first in
order). -/
def betterPeak (best : Option Peak) (p : Peak) : Option Peak :=
  match best with
  | none => some p
  | some b => if b.rho < p.rho then some p else some b

/-- Scan every sample position from `t` on at which a whole guard-and-block pair fits (R24). -/
def scanPositions (m : Mode) (g : Guard) : List CInt → Nat → Option Peak → Option Peak
  | [], _, best => best
  | x :: xs, t, best =>
    if (x :: xs).length < symbolLen m g then best
    else scanPositions m g xs (t + 1) (betterPeak best ⟨guardCorrelation m g (x :: xs), m, g, t⟩)

/-- The best peak over the mode set and guard set: smaller N, then smaller guard fraction, then earlier position first
(R24). -/
def bestPeak (modes guards : BitVec 4) (samples : List CInt) : Option Peak :=
  (modesOf modes).foldl (fun best m =>
    (guardsOf guards).foldl (fun best g => scanPositions m g samples 0 best) best) none

/-! ### Frames and records (R7 to R9, R12) -/

/-- The spacing Dx of a pilot pattern (R10). -/
def pilotSpacing : Pattern → Nat
  | .p0 => 3
  | .p1 => 6
  | .p2 => 12
  | .p3 => 24

/-- The code of a pilot pattern (R189). -/
def patternCode : Pattern → Nat
  | .p0 => 0
  | .p1 => 1
  | .p2 => 2
  | .p3 => 3

/-- Active carriers Ka = 27N/32 (R10). -/
def activeCarriers (m : Mode) : Nat := 27 * sizeN m / 32

/-- Data cells per data symbol (R11). -/
def dataCells (m : Mode) (p : Pattern) : Nat := activeCarriers m - activeCarriers m / pilotSpacing p

/-- The detection span floor(N/Dx) (R11). -/
def spanOf (m : Mode) (p : Pattern) : Nat := sizeN m / pilotSpacing p

/-- The low limit of the detection window (R11). -/
def windowLow (m : Mode) (p : Pattern) : Int := -((spanOf m p / 4 : Nat) : Int)

/-- The high limit of the detection window (R11). -/
def windowHigh (m : Mode) (p : Pattern) : Int := ((3 * spanOf m p / 4 : Nat) : Int) - 1

/-- Bits per cell of a constellation code 0 to 3 (R12). -/
def bitsPerCell (con : Nat) : Nat := 2 * (con + 1)

/-- Cells per codeword of a constellation (R12). -/
def cellsPerCodeword (con : Nat) : Nat := 15360 / bitsPerCell con

/-- Payload bits of a rate code 0 to 5 (R12). -/
def payloadBits (rate : Nat) : Nat :=
  match rate with
  | 0 => 7680
  | 1 => 9216
  | 2 => 10240
  | 3 => 11520
  | 4 => 12288
  | _ => 12800

/-- Packets per codeword: floor(payload bits ÷ 1504) (R12). -/
def packetsPerCodeword (rate : Nat) : Nat := payloadBits rate / 1504

/-- Codewords per group G (R13). -/
def codewordsPerGroup (p : PipeParams) : Nat := p.cells / cellsPerCodeword p.con * p.depth

/-- Frame pages P (R84). -/
def framePages (p : PipeParams) : Nat := (p.cells + 2047) / 2048

/-- Page need 2 × depth × P (R84). -/
def pageNeed (p : PipeParams) : Nat := 2 * p.depth * framePages p

/-- The base logical index of a half (R84, R91). -/
def halfBase (p : PipeParams) : Half → Nat
  | .a => 0
  | .b => p.depth * framePages p

/-- The other half. -/
def otherHalf : Half → Half
  | .a => .b
  | .b => .a

/-- The first pipe id that appears twice makes a record's pipe ids not distinct. -/
def pipeIdsDistinct : List PipeRecord → Bool
  | [] => true
  | p :: ps => ps.all (fun q => decide (q.pipeId ≠ p.pipeId)) && pipeIdsDistinct ps

/-- The lowest-numbered failing validity check of a record whose CRC passes, if one fails (R9). -/
def failingCheck (c : Candidate) (r : FrameRecord) : Option Nat :=
  if r.mode ≠ c.mode ∨ r.guard ≠ c.guard then some 1
  else if r.d < 16 ∨ 250 < r.d then some 2
  else if r.pipeCount = 0 ∨ 16 < r.pipeCount ∨ pipeIdsDistinct r.pipes = false then some 3
  else if r.pipes.any (fun p => decide (3 < p.con ∨ 5 < p.rate)) then some 4
  else if r.pipes.any (fun p => decide (p.depth = 0 ∨ 4 < p.depth)) then some 5
  else if r.pipes.any (fun p => decide (p.cells = 0 ∨ p.cells % cellsPerCodeword p.con ≠ 0)) then some 6
  else none

/-! ### The bits and the CRC of a record (R7)

Each number has the width of its coded range in 1.4, most significant bit first (log 22). -/

/-- The lowest `k` bits of a number, most significant first. -/
def numBits (k n : Nat) : List Bool := (List.range k).map (fun i => n.testBit (k - 1 - i))

/-- The bits of a pipe record, its fields in the order of 1.4. -/
def pipeBits (p : PipeRecord) : List Bool :=
  numBits 6 p.pipeId ++ numBits 3 p.con ++ numBits 3 p.rate ++ numBits 20 p.cells ++ numBits 3 p.depth ++
    numBits 24 p.first

/-- The bits of a record: its fields in the order of 1.4, each pipe record in list order. -/
def recordBits (r : FrameRecord) : List Bool :=
  numBits 4 r.version ++ numBits 8 r.counter ++ Config.modeBits r.mode ++ Config.guardBits r.guard ++ numBits 8 r.d ++
    Config.patternBits r.pattern ++ numBits 5 r.pipeCount ++ r.pipes.flatMap pipeBits

/-- The CRC computed over a record. -/
def recordCrc (r : FrameRecord) : Nat := (crcBits (recordBits r)).toNat

/-- The outcome of a preamble test (R7). -/
inductive PreambleOutcome where
  | notFound
  | crcFail
  | invalid (check : Nat)
  | valid (r : FrameRecord)
  deriving DecidableEq, Repr

/-- The preamble test of a symbol against the detected mode and guard (R7). -/
def preambleOutcome (c : Option Candidate) (x : PreambleRx) : PreambleOutcome :=
  match x with
  | .notShown => .notFound
  | .shown crc rec =>
    if crc ≠ recordCrc rec then .crcFail
    else
      match c with
      | none => .invalid 1
      | some c =>
        match failingCheck c rec with
        | some n => .invalid n
        | none => .valid rec

/-- The selected pipe of a record (R8). -/
def selectPipe (pipeId : Nat) (r : FrameRecord) : Option PipeSel :=
  (r.pipes.find? (fun p => decide (p.pipeId = pipeId))).map
    (fun p => ⟨⟨p.cells, p.con, p.rate, p.depth⟩, p.first⟩)

/-- The layout a record gives a lane that selects a pipe id (R29 step 1). -/
def layoutOf (pipeId : Nat) (r : FrameRecord) : Layout :=
  ⟨r.version, r.counter, r.d, r.pattern, selectPipe pipeId r⟩

/-! ### Pilots and data cells of a symbol (R10, R48, R61) -/

/-- A pilot cell as received: its active carrier, the received value and its reference value (R10, R61). -/
structure PilotRx where
  carrier : Nat
  rx : Cplx
  ref : Cplx
  deriving DecidableEq, Repr

/-- A data cell as received: its active carrier and the received value (R10, R62). -/
structure CellRx where
  carrier : Nat
  y : Cplx
  deriving DecidableEq, Repr

/-- A symbol's active carriers that satisfy a test of their number, with their numbers, in ascending order: none beyond the Ka
of the mode (R10). -/
def carriersOn (on : Nat → Bool) (m : Mode) (x : SymbolRx) : List (CarrierRx × Nat) :=
  (x.carriers.take (activeCarriers m)).zipIdx.filter (fun v => on v.2)

/-- Whether an active carrier is a pilot's: every Dx-th one, from the first pilot's on (R10; log 48). -/
def isPilotCarrier (m : Mode) (p : Pattern) (c : Nat) : Bool :=
  decide (c % pilotSpacing p = Config.firstPilot m p % pilotSpacing p)

/-- The pilot cells on the carriers that satisfy a test. -/
def pilotsOn (on : Nat → Bool) (m : Mode) (x : SymbolRx) : List PilotRx :=
  (carriersOn on m x).map (fun v => ⟨v.2, v.1.y, v.1.ref⟩)

/-- The pilot cells of a data symbol of a mode and pattern (R10, R11). -/
def pilotsOf (m : Mode) (p : Pattern) (x : SymbolRx) : List PilotRx := pilotsOn (isPilotCarrier m p) m x

/-- The data cells of a data symbol of a mode and pattern: the remaining active carriers (R10, R11). -/
def cellsOf (m : Mode) (p : Pattern) (x : SymbolRx) : List CellRx :=
  (carriersOn (fun c => !isPilotCarrier m p c) m x).map (fun v => ⟨v.2, v.1.y⟩)

/-- The pilot cells of a preamble of a detected mode (R7, R61; log 48). -/
def preamblePilots (c : Option Candidate) (x : SymbolRx) : List PilotRx :=
  match c with
  | none => []
  | some k => pilotsOn (Config.preamblePilot k.mode) k.mode x

/-- The pilot cells of a symbol by the mode detected and the pattern in force, that of the lane's present frame (R11); none at
a lane without a layout. -/
def pilotsInForce (c : Option Candidate) (y : Option Layout) (x : SymbolRx) : List PilotRx :=
  match c, y with
  | some k, some z => pilotsOf k.mode z.pattern x
  | _, _ => []

/-- A received pilot over its reference value. -/
def pilotRatio (p : PilotRx) : Cplx := Cplx.div p.rx p.ref

/-! ### Sweep positions (R23) -/

/-- The sweep position after `p` in the order 0, +1, −1, +2, −2, …, +s, −s; the next after the last is 0. -/
def nextSweep (span : Nat) (p : Int) : Int :=
  if p = 0 then (if span = 0 then 0 else 1)
  else if 0 < p then -p
  else if -p < span then -p + 1
  else 0

/-! ### Settings (R14, R15) -/

/-- The first step of R15: each magnitude clamped to its range. -/
def clampSetup (f : SetupForm) : Setup where
  modeSet := f.modeSet
  guardSet := f.guardSet
  sweepSpan := clamp 0 4 f.sweepSpan
  sweepStep := clamp 1 64 f.sweepStep
  searchLength := clamp 1 64 f.searchLength
  pipeId := f.pipeId
  holdoff := clamp 1 10000 f.holdoff
  k := clamp 0 7 f.k
  tg := clamp 0 400 f.tg
  tf := clamp 0 400 f.tf
  tp := clamp 0 400 f.tp
  gradeHyst := clamp 0 50 f.gradeHyst
  windowHyst := clamp 0 63 f.windowHyst
  floorF := clamp 1 4095 f.floorF
  smoothA := clamp 0 4 f.smoothA
  retireAge := clamp 1 255 f.retireAge
  impulseJ := clamp 1 8 f.impulseJ
  maxBudget := clamp 2 24 f.maxBudget

/-- A form taken as a record without clamping, to see whether clamping changed a value. -/
def rawSetup (f : SetupForm) : Setup :=
  ⟨f.modeSet, f.guardSet, f.sweepSpan, f.sweepStep, f.searchLength, f.pipeId, f.holdoff, f.k, f.tg, f.tf, f.tp,
    f.gradeHyst, f.windowHyst, f.floorF, f.smoothA, f.retireAge, f.impulseJ, f.maxBudget⟩

/-- The second step of R15: the structural conditions on the clamped record. -/
def setupOk (r : Setup) : Bool :=
  decide (r.modeSet ≠ 0#4) && decide (r.guardSet ≠ 0#4) && decide (r.pipeId ≤ 63) && decide (r.tp < r.tf)
    && decide (r.tf < r.tg)

end Sys2Proof.Machine
end

