-- ==== Sys2Proof/Machine/Decoder.lean ====
section
/-! DEFINITION. The shared decoder (Chapter 6): the ready total and congestion, the take of a codeword, its soft bits
and its budget, and the packets of a completed codeword. -/

namespace Sys2Proof.Machine

/-- The ready total (R100). -/
def readyTotal (s : State) : Nat :=
  (s.lane 0).ready.length + (s.lane 1).ready.length + (s.lane 2).ready.length + (s.lane 3).ready.length

/-- The congestion flag judged for a ready total (R101). -/
def congestedAfter (d : Decoder) (total : Nat) : Bool :=
  if d.congested then !decide (total ≤ d.low) else decide (d.high ≤ total)

/-- The decoder judges the congestion flag, and CONGESTED follows it (R101). -/
def judgeCongestion (s : State) : State :=
  let c := congestedAfter s.dec (readyTotal s)
  setCondition evCongested c { s with dec := { s.dec with congested := c } }

/-- The better of two grades (R69). -/
def betterGrade (a b : Grade) : Grade :=
  match a, b with
  | .good, _ => .good
  | _, .good => .good
  | .fair, _ => .fair
  | _, .fair => .fair
  | .poor, _ => .poor
  | _, .poor => .poor
  | .bad, _ => .bad
  | _, b => b

/-- The grade a data path offers the decoder: a lane's own; for a pair the better of its lanes in LOCK, or of both
when neither is in LOCK (R69, R106). -/
def offeredGrade (s : State) (p : LaneId) : Grade :=
  if paired s p then
    let a := s.lane (primaryOf (pairOf p))
    let b := s.lane (secondaryOf (pairOf p))
    if a.state = .lock ∧ b.state ≠ .lock then a.quality.grade
    else if b.state = .lock ∧ a.state ≠ .lock then b.quality.grade
    else betterGrade a.quality.grade b.quality.grade
  else (s.lane p).quality.grade

/-- The grade budget (R105). -/
def gradeBudget : Grade → Nat
  | .good => 6
  | .fair => 10
  | .poor => 16
  | .bad => 24
  | .none => 24

/-- The pipe parameters of a data path: the pair's layout, or the lane's current layout (R75, R90). -/
def pathParams (s : State) (p : LaneId) : Option PipeParams :=
  if paired s p then (s.pairAt (pairOf p)).layout.map (·.params)
  else (s.lane p).layout.bind (fun y => y.pipe.map (·.params))

/-- The cells of codeword `k` of a half in place order: group numbers k, k + G, k + 2G, … (R91, R93, R104). -/
def codewordCells (s : State) (p : LaneId) (half : Half) (k : Nat) (g : PipeParams) (n : Nat) : List PoolCell :=
  let pages := s.pool.pagesOf p
  let bigG := codewordsPerGroup g
  (List.range n).map (fun q =>
    let num := q * bigG + k
    let f := num / g.cells
    let c := num % g.cells
    s.pool.readAt pages (halfBase g half + f * framePages g + c / 2048) (c % 2048))

/-- The soft bits of one cell, as many as the constellation's bits per cell; a cell of reliability 0 gives erasures
(R104). -/
def softBits (con : Nat) (c : PoolCell) : List SoftBit :=
  (List.range (bitsPerCell con)).map (fun b =>
    ⟨Config.hardDecision con c.re c.im b,
      if c.r = 0 then 0 else min 4095 (Config.softMagnitude con c.re c.im c.r b)⟩)

/-- The decoder's own copy of a codeword (R104). -/
def softCopy (s : State) (p : LaneId) (e : ReadyEntry) : List SoftBit :=
  match pathParams s p with
  | none => List.replicate 15360 ⟨false, 0⟩
  | some g => (codewordCells s p e.half e.k g (cellsPerCodeword e.con)).flatMap (softBits e.con)

/-- The lanes in the order in which a choice looks at them (R103). -/
def lanesFrom (l : LaneId) : List LaneId := [l, l + 1, l + 2, l + 3]

/-- The first lane in that order whose ready list is not empty (R103). -/
def chooseLane (s : State) : Option LaneId :=
  (lanesFrom s.dec.pointer).find? (fun l => decide ((s.lane l).ready ≠ []))

/-- The budget of a take (R105). -/
def takeBudget (s : State) (l : LaneId) : Nat :=
  if s.dec.congested then 2 else min (gradeBudget (offeredGrade s l)) (s.lane l).setup.maxBudget

/-- A take from a lane whose head is `e` (R102 to R105): the budget uses the congestion flag as it stands before the
take; the flag is judged again after it (R101). The grade that the lane offers is recorded (R99) at a take under congestion too,
where the budget does not follow it (DEDUCED, log 50). -/
def takeHead (s : State) (l : LaneId) (e : ReadyEntry) (rest : List ReadyEntry) : State :=
  let cw : Codeword := ⟨l, e.half, e.k, e.con, e.rate, softCopy s l e, offeredGrade s l, s.dec.congested,
    takeBudget s l, false, s.time⟩
  let s := s.modLane l (fun c => { c with ready := rest })
  judgeCongestion { s with dec := { s.dec with inflight := some cw, pointer := l + 1 } }

/-- The decoder makes a take if it is idle and a ready list is not empty (R102). -/
def takeIfIdle (s : State) : State :=
  match s.dec.inflight with
  | some _ => s
  | none =>
    match chooseLane s with
    | none => s
    | some l =>
      match (s.lane l).ready with
      | [] => s
      | e :: rest => takeHead s l e rest

/-! ### The decode (R107) -/

/-- Whether every bit of a copy is an erasure. -/
def allErased (copy : List SoftBit) : Bool := copy.all (fun b => decide (b.mag = 0))

/-- Whether a parity check is satisfied: none of its bits is an erasure and their hard decisions have even parity (R107).
A bit that the copy does not hold counts as an erasure. -/
def checkSatisfied (bits : List SoftBit) (check : List Nat) : Bool :=
  let taken := check.map (fun i => bits.getD i ⟨false, 0⟩)
  taken.all (fun b => decide (b.mag ≠ 0)) && decide ((taken.countP (·.sign)) % 2 = 0)

/-- Whether every check of a rate's codewords is satisfied; none is while every bit is an erasure (R107). -/
def checksSatisfied (rate : Nat) (bits : List SoftBit) : Bool :=
  !allErased bits && (Config.parityChecks rate).all (checkSatisfied bits)

/-- The bits of a copy after `n` iterations; no check can supply a copy that is all erasures with anything (R107). -/
def bitsAfter (rate : Nat) (copy : List SoftBit) (n : Nat) : List SoftBit :=
  if n = 0 ∨ allErased copy = true then copy
  else
    (List.range copy.length).map (fun i =>
      let b := Config.bitAfter rate copy n i
      ⟨b.1, b.2⟩)

/-- How a decode ends (R107): the outcome, with the iterations that a corrected codeword took. -/
inductive DecodeEnd where
  | clean
  | corrected (iterations : Nat)
  | failed
  deriving DecidableEq, Repr

/-- The first iteration, from `n + 1` to `n + left`, at which every check is satisfied. -/
def firstSatisfied (rate : Nat) (copy : List SoftBit) : Nat → Nat → Option Nat
  | _, 0 => none
  | n, left + 1 =>
    if checksSatisfied rate (bitsAfter rate copy (n + 1)) then some (n + 1) else firstSatisfied rate copy (n + 1) left

/-- The end of the decode of a codeword (R107). -/
def decodeEnd (cw : Codeword) : DecodeEnd :=
  if checksSatisfied cw.rate cw.soft then .clean
  else
    match firstSatisfied cw.rate cw.soft 0 cw.budget with
    | some n => .corrected n
    | none => .failed

/-- The iterations a decode runs (R107). -/
def iterationsRun (cw : Codeword) : Nat :=
  match decodeEnd cw with
  | .clean => 0
  | .corrected n => n
  | .failed => cw.budget

/-- The completion comes 108 + 270 × n ticks after the take (R107). -/
def completionTime (cw : Codeword) : Nat := wrapTime (cw.takeTime + (108 + 270 * iterationsRun cw))

/-! ### Completions (R108 to R110) -/

/-- The hard decisions at the end of the decode (R107, R108). -/
def finalBits (cw : Codeword) : List Bool := (bitsAfter cw.rate cw.soft (iterationsRun cw)).map (·.sign)

/-- Eight bits as a byte, the first its most significant (R108). -/
def byteOfBits (bs : List Bool) : Byte :=
  BitVec.ofNat 8 ((bs.take 8).foldl (fun acc b => 2 * acc + (if b then 1 else 0)) 0)

/-- `n` bytes of a bit list (R108). -/
def bytesOfBits : Nat → List Bool → List Byte
  | 0, _ => []
  | n + 1, bs => byteOfBits bs :: bytesOfBits n (bs.drop 8)

/-- Packet `i` of a codeword (R108). -/
def packetOf (failed : Bool) (bits : List Bool) (i : Nat) : Packet :=
  let p := withSync (bytesOfBits 188 (bits.drop (1504 * i)))
  if failed then withError p else p

/-- The packets of a completed codeword in payload order (R108). -/
def packetsOf (cw : Codeword) : List Packet :=
  (List.range (packetsPerCodeword cw.rate)).map (packetOf (decide (decodeEnd cw = .failed)) (finalBits cw))

/-- Saturating 32-bit addition (R110). -/
def satAdd32 (a b : Nat) : Nat := min 4294967295 (a + b)

/-- The owning lane's counters after a counted completion (R109 steps 2 and 3). -/
def countOutcome (r : DecodeEnd) (packets : Nat) (c : LaneCounters) : LaneCounters :=
  let c := { c with emitted := wrap32 (c.emitted + packets) }
  match r with
  | .clean => { c with clean := wrap32 (c.clean + 1) }
  | .corrected _ => { c with corrected := wrap32 (c.corrected + 1) }
  | .failed => { c with failed := wrap32 (c.failed + 1) }

/-- The statistics record of a lane after a counted completion (R110). -/
def countStat (l : LaneId) (iterations : Nat) (d : Decoder) : Decoder :=
  let st := d.stats[l]
  { d with stats := d.stats.set l ⟨satAdd32 st.count 1, satAdd32 st.iterations iterations⟩ }

/-- The average iterations in sixteenths, none for a decode count of 0 (R110). -/
def averageIterations (st : DecodeStat) : Option Nat :=
  if st.count = 0 then none else some (16 * st.iterations / st.count)

end Sys2Proof.Machine
end

