-- ==== Sys2Proof/Machine/Pool.lean ====
section
/-! DEFINITION. The page pool and the groups written in it (Chapter 5): requests, release, settlement, group begin,
abandonment and completion, cell writing, the ready list and overrun. -/

namespace Sys2Proof.Machine

/-- The unmet reservation of a lane were it to own `n` more pages (R87). -/
def Pool.unmetWith (p : Pool) (l : LaneId) (n : Nat) (k : LaneId) : Nat :=
  p.reserved[k] - (p.owned k + (if k = l then n else 0))

/-- Whether the pool grants a lane `n` pages (R87). -/
def Pool.grants (p : Pool) (l : LaneId) (n : Nat) : Bool :=
  decide (n ≤ p.freeCount) &&
  decide (p.unmetWith l n 0 + p.unmetWith l n 1 + p.unmetWith l n 2 + p.unmetWith l n 3 ≤ p.freeCount - n)

/-- The pool with `n` more pages for a lane (R87). -/
def Pool.grant (p : Pool) (l : LaneId) (n : Nat) : Pool := { p with pageMap := grantMap l n p.pageMap }
/-- The pool with a lane's pages released (R88). -/
def Pool.release (p : Pool) (l : LaneId) : Pool := { p with pageMap := releaseMap l p.pageMap }
/-- The pool with a lane shrunk to its `n` lowest-numbered pages (R89). -/
def Pool.shrink (p : Pool) (l : LaneId) (n : Nat) : Pool := { p with pageMap := shrinkMap l n p.pageMap }

/-- Codewords discarded and counted: the dropped counter of the path's lane and its CW_DROPPED occurrences (R41,
R167). -/
def countDropped (p : LaneId) (n : Nat) (s : State) : State :=
  (s.modLane p (fun c => { c with counters := { c.counters with dropped := wrap32 (c.counters.dropped + n) } })).addWork
    (List.replicate n (.occ (.cwDropped p)))

/-- The ready list of a path is emptied, its codewords counted as dropped or not (R88, R34); the congestion flag is
judged for the new total (R100, R101). -/
def emptyReady (p : LaneId) (counted : Bool) (s : State) : State :=
  let n := (s.lane p).ready.length
  let s := s.modLane p (fun c => { c with ready := [] })
  judgeCongestion (if counted then countDropped p n s else s)

/-- The waiting symbols of a path's pair that go with its group (R77): also those that an UNPAIR left to a primary; a single
secondary has none (log 21). -/
def discardWaiting (p : LaneId) (s : State) : State :=
  if paired s p then s.modPair (pairOf p) (fun x => { x with waiting := [], contrib := 0, doneFrame := none })
  else if isPrimary p then s.modPair (pairOf p) (fun x => { x with waiting := [] })
  else s

/-- The group in progress of a path is abandoned (R92), and waiting symbols are discarded (R77). -/
def abandonGroup (p : LaneId) (s : State) : State := discardWaiting p (s.modLane p (fun c => { c with group := none }))

/-- A new group begins on a path in a half, at frame 0, cell 0 (R90). -/
def beginGroup (p : LaneId) (half : Half) (s : State) : State :=
  s.modLane p (fun c => { c with group := some ⟨half, 0, 0⟩, writeHalf := half })

/-- A new group begins in the write half of the abandoned one (R90, R92). -/
def beginAgain (p : LaneId) (s : State) : State := beginGroup p (s.lane p).writeHalf (abandonGroup p s)

/-- A path's pages are released, its group is none and its ready list is emptied (R88). -/
def releasePath (p : LaneId) (counted : Bool) (s : State) : State :=
  let s := abandonGroup p { s with pool := s.pool.release p }
  emptyReady p counted s

/-- A page request in a path's name, granted whole or refused (R87). -/
def requestPages (p : LaneId) (n : Nat) (s : State) : Bool × State :=
  if s.pool.grants p n then (true, { s with pool := s.pool.grant p n }) else (false, s)

/-- Settlement at a layout change (R89): shrink, granted growth, or refused growth with everything released. -/
def settlePages (p : LaneId) (need : Nat) (s : State) : Bool × State :=
  let own := s.pool.owned p
  if need ≤ own then (true, { s with pool := s.pool.shrink p need })
  else
    let (granted, s) := requestPages p (need - own) s
    if granted then (true, s) else (false, releasePath p true s)

/-! ### Writing (R90, R91) -/

/-- Write cells in order from cell `c` of frame `f` of a half (R91). -/
def writeCells (pages : List Nat) (g : PipeParams) (half : Half) (f : Nat) : Nat → List PoolCell → Pool → Pool
  | _, [], p => p
  | c, v :: vs, p =>
    writeCells pages g half f (c + 1) vs
      (p.writeAt pages (halfBase g half + f * framePages g + c / 2048) (c % 2048) v)

/-- A symbol's cells are placed at the write position of a path (R90); nothing where the group state is none. Once the
frame's last cell is written the next cell stands at the number of cells per frame, which R90's range leaves out, until the
frame completion sets it to 0 (DESIGN CHOICE, log 45). -/
def placeCells (p : LaneId) (cells : List PoolCell) (s : State) : State :=
  match (s.lane p).group, pathParams s p with
  | some pos, some g =>
    let pool := writeCells (s.pool.pagesOf p) g pos.half pos.frame pos.cell cells s.pool
    ({ s with pool := pool }).modLane p
      (fun c => { c with group := some { pos with cell := pos.cell + cells.length } })
  | _, _ => s

/-! ### Group completion (R93, R94) -/

/-- The ready list of a completed group (R93). -/
def groupEntries (g : PipeParams) (half : Half) : List ReadyEntry :=
  (List.range (codewordsPerGroup g)).map (fun k => ⟨half, k, g.con, g.rate⟩)

/-- Group completion (R93): overruns dropped and reported (R94), the ready list replaced, the next group begun in the
other half; then the congestion flag is judged and an idle decoder takes (R101, R102). -/
def completeGroup (p : LaneId) (g : PipeParams) (half : Half) (s : State) : State :=
  let n := (s.lane p).ready.length
  let s := if n = 0 then s else report (srcLane p) .overrun n (countDropped p n s)
  let s := s.modLane p (fun c => { c with ready := groupEntries g half })
  takeIfIdle (judgeCongestion (beginGroup p (otherHalf half) s))

/-- Group accounting at a frame completion of a path (R93): the next frame, or group completion. -/
def frameAccounting (p : LaneId) (s : State) : State :=
  match (s.lane p).group, pathParams s p with
  | some pos, some g =>
    if pos.frame + 1 < g.depth then
      s.modLane p (fun c => { c with group := some { pos with frame := pos.frame + 1, cell := 0 } })
    else completeGroup p g pos.half s
  | _, _ => s

end Sys2Proof.Machine
end

