-- ==== Sys2Proof/Machine/Quality.lean ====
section
/-! DEFINITION. Equalization, signal quality and combining (4.1, 4.2, R78): the channel estimate, pilot powers, pilot
correlation, equalized cells, MER, Q and grades. Values are exact until the rule rounds them. -/

namespace Sys2Proof.Machine

/-- The estimate formed from a symbol's pilot cells: received over reference (R61). -/
def formEstimate (pilots : List PilotRx) : List PilotGain := pilots.map (fun p => ⟨p.carrier, pilotRatio p⟩)

/-- The gain at a carrier: a pilot's own, a straight line between the two nearest pilots, or the edge pilot's beyond
the last pilot at either edge (R61). `before` is the nearest pilot at or below the carrier met so far. -/
def gainFrom (before : Option PilotGain) (c : Nat) : List PilotGain → Cplx
  | [] => match before with | none => Cplx.zero | some b => b.gain
  | g :: gs =>
    if c < g.carrier then
      match before with
      | none => g.gain
      | some b =>
        let t : Rat := ((c - b.carrier : Nat) : Rat) / ((g.carrier - b.carrier : Nat) : Rat)
        Cplx.add b.gain (Cplx.scale t (Cplx.sub g.gain b.gain))
    else gainFrom (some g) c gs

/-- The gain of a channel estimate at a carrier; 0 without an estimate. -/
def gainAt (est : Option (List PilotGain)) (c : Nat) : Cplx :=
  match est with
  | none => Cplx.zero
  | some l => gainFrom none c l

/-- The mean of a list of exact values floored to a whole number (R63); 0 for an empty list (log 37). -/
def floorMean (xs : List Rat) : Nat := if xs = [] then 0 else (xs.sum / (xs.length : Rat)).floor.toNat

/-- The pilot error power e (R63). -/
def pilotError (held : Option (List PilotGain)) (pilots : List PilotRx) : Nat :=
  min 4294967295 (floorMean (pilots.map (fun p =>
    Cplx.normSq (Cplx.sub p.rx (Cplx.mul (gainAt held p.carrier) p.ref)))))

/-- The pilot signal power s (R63). -/
def pilotSignal (held : Option (List PilotGain)) (pilots : List PilotRx) : Nat :=
  floorMean (pilots.map (fun p => Cplx.normSq (Cplx.mul (gainAt held p.carrier) p.ref)))

/-- The pilot correlation π: the form of R5 over received pilots and reference values times the held estimate
(R30). -/
def pilotCorrelation (held : Option (List PilotGain)) (pilots : List PilotRx) : Nat :=
  let pairs := pilots.map (fun p => (p.rx, Cplx.mul (gainAt held p.carrier) p.ref))
  let sum := pairs.foldl (fun acc x => Cplx.add acc (Cplx.mul x.1 (Cplx.conj x.2))) Cplx.zero
  let e : Rat := (pairs.map (fun x => Cplx.normSq x.1 + Cplx.normSq x.2)).sum
  if e = 0 then 0
  else greatest12 (fun k => decide ((k : Rat) * k * (e * e) ≤ 67076100 * Cplx.normSq sum))

/-- The impulse test (R64). -/
def isBlanked (noise : Option Nat) (j e : Nat) : Bool :=
  match noise with
  | none => false
  | some v => decide (v * 2 ^ j < e)

/-- The noise estimate after a data symbol in LOCK whose preamble test gives NOT_FOUND (R63). -/
def noiseAfter (noise : Option Nat) (blanked : Bool) (e : Nat) : Option Nat :=
  match noise with
  | none => some (max 1 e)
  | some v => if blanked then some v else some (max 1 (smoothToward v e 16).toNat)

/-- A component of an equalized value in units of 1/1024, rounded and clamped (R62). -/
def toUnits (x : Rat) : Int := max (-32767) (min 32767 (roundHalfAway (1024 * x)))

/-- One cell equalized: z = y × conj(ĥ) ÷ |ĥ|² and r = min(4095, floor(256 × |ĥ|² ÷ σ²)); value 0 and reliability 0
where |ĥ|² = 0 (R62). -/
def equalize (noise : Nat) (h y : Cplx) : PoolCell :=
  let p := Cplx.normSq h
  if p = 0 then PoolCell.erased
  else
    let z := Cplx.div y h
    ⟨toUnits z.re, toUnits z.im, min 4095 (256 * p / (noise : Rat)).floor.toNat⟩

/-- The pipe's cells that data symbol `idx` of a frame of D symbols carries, as places within the symbol; then, at the
frame's last data symbol, the number of cells beyond the frame's data capacity (R6, R13; log 17). -/
def pipePlaces (dc d idx first cells : Nat) : List Nat × Nat :=
  let base := (idx - 1) * dc
  let lo := max first base
  let hi := min (first + cells) (base + dc)
  let erased := if idx = d then (first + cells) - max first (d * dc) else 0
  (List.range' (lo - base) (hi - lo), erased)

/-- The cells of the selected pipe that a data symbol writes, equalized (R62, R13): every cell 0 with reliability 0 for
a blanked symbol and while σ² is not set. -/
def symbolCells (dc d idx : Nat) (pipe : PipeSel) (est : Option (List PilotGain)) (noise : Option Nat) (blanked : Bool)
    (cells : List CellRx) : List PoolCell :=
  let (places, erased) := pipePlaces dc d idx pipe.first pipe.params.cells
  places.map (fun k =>
    match noise, cells[k]? with
    | some v, some c => if blanked then PoolCell.erased else equalize v (gainAt est c.carrier) c.y
    | _, _ => PoolCell.erased) ++ List.replicate erased PoolCell.erased

/-! ### MER, Q, grade (R66 to R68) -/

/-- round(100 × log10(S ÷ E)) clamped to 0 to 400: the number of m in 1 to 400 with (S ÷ E)^200 at least 10^(2m − 1),
the m-th rounding boundary; 400 for E = 0, 0 for S = 0 (R66). -/
def merOf (s e : Nat) : Nat :=
  if e = 0 then 400
  else
    let s200 := s ^ 200
    let e200 := e ^ 200
    ((List.range 400).filter (fun i => decide (10 ^ (2 * i + 1) * e200 ≤ s200))).length

/-- Q after a frame completion that gives an MER (R67). -/
def qAfter (q : Option Nat) (k m : Nat) : Nat :=
  match q with
  | none => min 400 m
  | some v => min 400 (smoothToward v m (2 ^ k)).toNat

/-- The grade of a Q against thresholds (R68). -/
def gradeAt (tg tf tp q : Nat) : Grade :=
  if tg ≤ q then .good else if tf ≤ q then .fair else if tp ≤ q then .poor else .bad

/-- The order of grades, NONE apart (R68). -/
def gradeRank : Grade → Nat
  | .none => 0
  | .bad => 1
  | .poor => 2
  | .fair => 3
  | .good => 4

/-- The grade judged from Q with hysteresis (R68). -/
def judgeGrade (st : Setup) (present : Grade) (q : Nat) : Grade :=
  let plain := gradeAt st.tg st.tf st.tp q
  let rising := gradeAt (st.tg + st.gradeHyst) (st.tf + st.gradeHyst) (st.tp + st.gradeHyst) q
  if present = .none then plain
  else if gradeRank plain < gradeRank present then plain
  else if gradeRank present < gradeRank rising then rising
  else present

/-- The quality part after a frame completion (R66 to R68); unchanged if no symbol of the frame qualified. -/
def frameQuality (st : Setup) (f : FramePos) (x : Quality) : Quality :=
  if f.merN = 0 then x
  else
    let m := merOf f.merS f.merE
    let q := qAfter x.q st.k m
    { x with lastMer := some m, q := some q, grade := judgeGrade st x.grade q }

/-! ### Combining (R78) -/

/-- One component combined: (r0 × z0 + r1 × z1) ÷ (r0 + r1), rounded to nearest, halves away from zero (R78). -/
def combineComponent (z0 : Int) (r0 : Nat) (z1 : Int) (r1 : Nat) : Int :=
  roundHalfAway ((((r0 : Int) * z0 + (r1 : Int) * z1 : Int) : Rat) / ((r0 + r1 : Nat) : Rat))

/-- One cell of a combined symbol (R78). -/
def combineCell (x y : PoolCell) : PoolCell :=
  if x.r + y.r = 0 then PoolCell.erased
  else ⟨combineComponent x.re x.r y.re y.r, combineComponent x.im x.r y.im y.r, min 4095 (x.r + y.r)⟩

/-- The cells of a combined symbol; a reference cell without a partner cell stands as it is (R78). -/
def combineCells : List PoolCell → List PoolCell → List PoolCell
  | [], _ => []
  | x :: xs, [] => x :: xs
  | x :: xs, y :: ys => combineCell x y :: combineCells xs ys

end Sys2Proof.Machine
end

