-- ==== Sys2Proof/Machine/Tracking.lean ====
section
/-! DEFINITION. The echo profile and window placement (Chapter 3): the observation, the update stages in order, the window
metric and the placement. -/

namespace Sys2Proof.Machine

/-- A peak of an observation: a delay and an observed power (R48). -/
structure EchoPeak where
  delay : Int
  power : Nat
  deriving DecidableEq, Repr

/-! ### Observation (R48) -/

/-- The impulse response of a symbol over the detection window of its mode and pattern, from the low limit up. -/
def impulseResponse (m : Mode) (pat : Pattern) (pilots : List PilotRx) : List Nat :=
  let ratios := pilots.map (fun p => (p.carrier, pilotRatio p))
  (List.range (windowHigh m pat - windowLow m pat + 1).toNat).map (fun i =>
    Config.impulsePower (sizeN m) (pilotSpacing pat) ratios (windowLow m pat + i))

/-- The peaks of an impulse response whose first value stands at delay `d`: greater than the value before, at least
the value after; the window's ends have one neighbour. -/
def rawPeaks (before : Option Nat) : Int → List Nat → List EchoPeak
  | _, [] => []
  | d, v :: vs =>
    let left := match before with | none => true | some b => decide (b < v)
    let right := match vs with | [] => true | a :: _ => decide (a ≤ v)
    if left && right then ⟨d, v⟩ :: rawPeaks (some v) (d + 1) vs else rawPeaks (some v) (d + 1) vs

/-- The largest value of a list of peaks. -/
def largestPeak (ps : List EchoPeak) : Nat := ps.foldl (fun m p => max m p.power) 0

/-- The observation: the peaks of an impulse response whose first value stands at delay `low`, scaled to 4096, and those
below the detection floor dropped (R48). -/
def observe (low : Int) (floorF : Nat) (impulse : List Nat) : List EchoPeak :=
  let ps := rawPeaks none low impulse
  let m := largestPeak ps
  if m = 0 then []
  else ((ps.map (fun p => { p with power := 4096 * p.power / m })).filter (fun p => decide (floorF ≤ p.power)))

/-! ### Match (R49) -/

/-- The place of the record nearest to a delay among those within 2 samples; the earlier of two equally near (R49). -/
def nearestRecord (d : Int) : List Echo → Nat → Option (Nat × Nat) → Option (Nat × Nat)
  | [], _, best => best
  | r :: rs, i, best =>
    let dist := (r.delay - d).natAbs
    let best := if 2 < dist then best else
      match best with
      | none => some (i, dist)
      | some (j, e) => if dist < e then some (i, dist) else some (j, e)
    nearestRecord d rs (i + 1) best

/-- The place of the record a peak is offered to (R49). -/
def offeredTo (profile : List Echo) (p : EchoPeak) : Option Nat := (nearestRecord p.delay profile 0 none).map (·.1)

/-- The winner of the peaks offered to one record: greatest power, then earlier delay (R49). -/
def winner : List EchoPeak → Option EchoPeak
  | [] => none
  | p :: ps =>
    match winner ps with
    | none => some p
    | some q => if p.power < q.power ∨ (p.power = q.power ∧ q.delay < p.delay) then some q else some p

/-- Each record with its matched peak, if any (R49). -/
def matchRecords (profile : List Echo) (peaks : List EchoPeak) : List (Echo × Option EchoPeak) :=
  (profile.zipIdx).map (fun x => (x.1, winner (peaks.filter (fun p => decide (offeredTo profile p = some x.2)))))

/-- The peaks that no record took (R49). -/
def unmatchedPeaks (matched : List (Echo × Option EchoPeak)) (peaks : List EchoPeak) : List EchoPeak :=
  peaks.filter (fun p => !matched.any (fun x => decide (x.2 = some p)))

/-! ### Smooth and age, merge, insert, retire (R50 to R53) -/

/-- A record smoothed toward its target and aged (R50). -/
def smoothRecord (a : Nat) (x : Echo × Option EchoPeak) : Echo :=
  match x.2 with
  | some p => ⟨p.delay, (smoothToward x.1.power p.power (2 ^ a)).toNat, 0⟩
  | none => ⟨x.1.delay, (smoothToward x.1.power 0 (2 ^ a)).toNat, min 255 (x.1.age + 1)⟩

/-- Two neighbours merged: the stronger's delay and power (the earlier's where equal), the smaller age (R51). -/
def mergeTwo (x y : Echo) : Echo :=
  let s := if x.power < y.power then y else x
  ⟨s.delay, s.power, min x.age y.age⟩

/-- The smallest separation of neighbours that is at most 2, if any (R51). -/
def smallestGap : List Echo → Option Nat
  | [] => none
  | [_] => none
  | x :: y :: rest =>
    let d := (y.delay - x.delay).natAbs
    let m := smallestGap (y :: rest)
    if 2 < d then m else match m with | none => some d | some e => some (min d e)

/-- Merge the earliest pair of neighbours at a separation (R51). -/
def mergeAt (gap : Nat) : List Echo → List Echo
  | [] => []
  | [x] => [x]
  | x :: y :: rest =>
    if (y.delay - x.delay).natAbs = gap then mergeTwo x y :: rest else x :: mergeAt gap (y :: rest)

/-- The merge stage: each merge shortens the list by one, so as many rounds as records are enough (R51). -/
def mergeStage : Nat → List Echo → List Echo
  | 0, l => l
  | n + 1, l =>
    match smallestGap l with
    | none => l
    | some g => mergeStage n (mergeAt g l)

/-- Insertion in delay order. -/
def insertEcho (e : Echo) (l : List Echo) : List Echo := insertBy (fun x y => decide (x.delay < y.delay)) e l

/-- The weakest record; among equals the one with the latest delay (R52). -/
def weakest : List Echo → Option Echo
  | [] => none
  | x :: xs =>
    match weakest xs with
    | none => some x
    | some y => if x.power < y.power then some x else some y

/-- One unmatched peak against the list as it stands (R52). -/
def insertPeak (l : List Echo) (p : EchoPeak) : List Echo :=
  if l.any (fun e => decide ((e.delay - p.delay).natAbs ≤ 2)) then l
  else if l.length < 8 then insertEcho ⟨p.delay, p.power, 0⟩ l
  else
    match weakest l with
    | none => l
    | some wk => if wk.power < p.power then insertEcho ⟨p.delay, p.power, 0⟩ (l.erase wk) else l

/-- The insert stage: unmatched peaks by descending power, then ascending delay (R52). -/
def insertStage (l : List Echo) (peaks : List EchoPeak) : List Echo :=
  (sortBy (fun x y => decide (y.power < x.power ∨ (x.power = y.power ∧ x.delay < y.delay))) peaks).foldl insertPeak l

/-- The retire stage (R53). -/
def retireStage (retireAge : Nat) (l : List Echo) : List Echo := l.filter (fun e => decide (e.age < retireAge))

/-! ### Re-anchor (R54) -/

/-- The strongest record; among equals the one with the earliest delay (R54). -/
def strongest : List Echo → Option Echo
  | [] => none
  | x :: xs =>
    match strongest xs with
    | none => some x
    | some y => if x.power < y.power then some y else some x

/-- A signed 32-bit count that wraps (R44). -/
def wrapSigned32 (x : Int) : Int := (x + 2147483648) % 4294967296 - 2147483648

/-- A profile with its window start and timing reference offset. -/
structure Anchored where
  profile : List Echo
  w : Int
  offset : Int
  deriving DecidableEq, Repr

/-- The re-anchor stage and the removal of records outside the detection window (R54). -/
def reAnchor (low high : Int) (x : Anchored) : Anchored :=
  match strongest x.profile with
  | none => x
  | some e =>
    let s := e.delay
    ⟨(x.profile.map (fun r => { r with delay := r.delay - s })).filter
        (fun r => decide (low ≤ r.delay ∧ r.delay ≤ high)),
      x.w - s, wrapSigned32 (x.offset + s)⟩

/-- The whole update of a profile from an observation: match, smooth and age, merge, insert, retire, re-anchor
(R47). -/
def updateProfile (st : Setup) (low high : Int) (peaks : List EchoPeak) (x : Anchored) : Anchored :=
  let matched := matchRecords x.profile peaks
  let smoothed := matched.map (smoothRecord st.smoothA)
  let merged := mergeStage smoothed.length smoothed
  let inserted := insertStage merged (unmatchedPeaks matched peaks)
  reAnchor low high { x with profile := retireStage st.retireAge inserted }

/-! ### Window metric and placement (R55, R56) -/

/-- The contribution of one record to the window metric (R55). -/
def contribution (n lg : Nat) (w : Int) (e : Echo) : Int :=
  if w < e.delay then (e.power : Int) * (n - 2 * (e.delay - w))
  else if w - e.delay ≤ lg then (e.power : Int) * n
  else (e.power : Int) * (n - 2 * (w - e.delay - lg))

/-- The window metric M(w) (R55). -/
def metric (n lg : Nat) (profile : List Echo) (w : Int) : Int :=
  profile.foldl (fun acc e => acc + contribution n lg w e) 0

/-- The candidate points: every delay and every delay + Lg (R55). -/
def candidatePoints (lg : Nat) (profile : List Echo) : List Int :=
  profile.map (fun e => e.delay) ++ profile.map (fun e => e.delay + (lg : Int))

/-- The better of a best point so far and another: greater M, then smaller w (R55). -/
def betterPoint (n lg : Nat) (profile : List Echo) (best : Option Int) (w : Int) : Option Int :=
  match best with
  | none => some w
  | some b =>
    let mb := metric n lg profile b
    let mw := metric n lg profile w
    if mb < mw ∨ (mb = mw ∧ w < b) then some w else some b

/-- The best point; none for an empty profile (R55). -/
def bestPoint (n lg : Nat) (profile : List Echo) : Option Int :=
  (candidatePoints lg profile).foldl (betterPoint n lg profile) none

/-- The placement after an update: the new window start and open-placement flag (R56). -/
def placeWindow (n lg h : Nat) (low high : Int) (profile : List Echo) (w : Int) (openPl : Bool) : Int × Bool :=
  match bestPoint n lg profile with
  | none => (w, openPl)
  | some b =>
    if openPl then (b, false)
    else if w < low ∨ high + lg < w then (b, false)
    else
      let mc := metric n lg profile w
      let mb := metric n lg profile b
      if 0 < mc then (if mc * (256 + h) < mb * 256 then (b, false) else (w, false))
      else (if mc < mb then (b, false) else (w, false))

end Sys2Proof.Machine
end

