-- ==== Sys2Proof/Machine/DataPath.lean ====
section
/-! DEFINITION. What lanes and pairs do to their data path: entering and leaving lane states (R45, R65), the departure of
a lane (R38, R73, R74), layout changes (R34, R76), and the combining of a pair's symbols (R77 to R80). -/

namespace Sys2Proof.Machine

/-! ### Lane states: what each entry clears (R45, R65) -/

/-- Entry to SEARCH at a sweep position, from any state (R20, R23, R38, R45, R65). -/
def Lane.toSearch (c : Lane) (pos : Int) : Lane :=
  { c with
    state := .search, sweepPos := pos, attempt := 0, samples := [], candidate := none, confirm := 0
    noPreamble := 0, preFail := 0, layout := none, frame := FramePos.none, lossRun := 0, goodRun := 0
    deadline := none, profile := [], w := 0, toGo := 0, offset := 0, openPl := false
    quality := Quality.cleared }

/-- Entry to OFF (R21, R45, R65): reason, sweep position, setup record and counters are kept. -/
def Lane.toOff (c : Lane) : Lane := { c.toSearch c.sweepPos with state := .off }

/-- Entry to SYNC from LOCK or FADE with a reason (R34, R76, R45, R65): symbol timing, w and offset are kept. -/
def Lane.toSync (c : Lane) (r : Reason) : Lane :=
  { c with
    state := .sync, reason := r, noPreamble := 0, preFail := 0, layout := none, frame := FramePos.none
    lossRun := 0, goodRun := 0, deadline := none, profile := [], openPl := false
    quality := Quality.cleared }

/-- The pair state becomes NONE at an event that leaves neither lane in LOCK; a change raises PAIR_CHANGE (R79). -/
def setPairState (p : PairId) (v : PairState) (s : State) : State :=
  if (s.pairAt p).pstate = v then s
  else raise (evPairChange p) (s.modPair p (fun x => { x with pstate := v }))

/-- One pair's state against its lanes' states (R79). -/
def followPair (s : State) (p : PairId) : State :=
  if (s.pairAt p).formed = true ∧ (s.lane (primaryOf p)).state ≠ .lock ∧ (s.lane (secondaryOf p)).state ≠ .lock then
    setPairState p .none s
  else s

/-- Both pairs' states against their lanes' states. -/
def followPairs (s : State) : State := followPair (followPair s 0) 1

/-- A lane that ceases to drive its data path: the path's group is abandoned if the lane drove it (R74). -/
def abandonIfDriving (l : LaneId) (s : State) : State :=
  if drivesPath s l then abandonGroup (pathOf s l) s else s

/-- A pair's reference becomes none. -/
def dropRef (l : LaneId) (s : State) : State :=
  if paired s l then s.modPair (pairOf l) (fun x => { x with ref := .none }) else s

/-- What a lane that leaves LOCK and FADE does to its data path (R38 steps 1 and 2, R73, R74): a path that keeps
another lane in LOCK or FADE keeps its pages and ready list; otherwise they are released, the codewords counted. -/
def departPath (l : LaneId) (s : State) : State :=
  if paired s l && inLockOrFade s (partnerOf l) then
    if drivesPath s l then dropRef l (abandonGroup (pathOf s l) s) else s
  else dropRef l (releasePath (pathOf s l) true s)

/-- Holdoff expiry's work (R38), taken also by RESEARCH (R40): the path, RELEASED, and SEARCH at position 0. The reason
is left as it stood. -/
def releaseToSearch (l : LaneId) (s : State) : State :=
  let s := raise (evReleased l) (departPath l s)
  follow (s.modLane l (fun c => c.toSearch 0))

/-- The RESEARCH action (R40): taken in LOCK and in FADE, ignored elsewhere. -/
def research (l : LaneId) (s : State) : State :=
  if inLockOrFade s l then releaseToSearch l s else s

/-- Entry to FADE with a reason (R35). -/
def enterFade (l : LaneId) (r : Reason) (s : State) : State :=
  let s := (raise (evFaded l) s).addWork [.occ (.faded l)]
  let s := abandonIfDriving l s
  follow (s.modLane l (fun c =>
    { c with
      state := .fade, reason := r, goodRun := 0
      deadline := some (wrapTime (s.time + c.setup.holdoff * 27000)) }))

/-! ### Layout changes (R33, R34, R76) -/

/-- Whether a record, for a pipe id, is a layout change that removes the pipe or alters its parameters, against the
parameters held (R33, R34; log 18). -/
def altersPipe (cur : Option PipeParams) (pipeId : Nat) (r : FrameRecord) : Bool :=
  match cur, selectPipe pipeId r with
  | some p, some x => decide (x.params ≠ p)
  | _, _ => true

/-- The data path takes a record's version and the selected pipe's parameters as its layout (R34 step 2, R75). -/
def setPathLayout (l : LaneId) (r : FrameRecord) (s : State) : State :=
  if paired s l then
    s.modPair (pairOf l) (fun x =>
      { x with layout := (selectPipe (selectId s l) r).map (fun p => ⟨r.version, p.params⟩) })
  else s

/-- The lanes of a data path go to SYNC with a reason: the lane whose preamble it was, and its partner in a pair if
that is in LOCK or FADE (R34, R76). -/
def pathToSync (l : LaneId) (reason : Reason) (s : State) : State :=
  let both := paired s l && inLockOrFade s (partnerOf l)
  let s := dropRef l s
  let s := s.modLane l (fun c => c.toSync reason)
  follow (if both then s.modLane (partnerOf l) (fun c => c.toSync reason) else s)

/-- A layout change that removes the selected pipe or alters its parameters, on the data path of lane `l` (R34). -/
def layoutChange (l : LaneId) (r : FrameRecord) (s : State) : State :=
  let p := pathOf s l
  let s := emptyReady p true (abandonGroup p s)
  let s := raise (evLayout l) s
  let s := s.modLane l (fun c => { c with layout := some (layoutOf (selectId s l) r) })
  let s := setPathLayout l r s
  match selectPipe (selectId s l) r with
  | none => pathToSync l .pipeAbsent (releasePath p true s)
  | some x =>
    let need := pageNeed x.params
    let (kept, s) := settlePages p need s
    if kept then beginGroup p .a s
    else report (srcLane l) .poolShort need (pathToSync l .poolShort s)

/-! ### The pair's symbols (R77 to R80) -/

/-- Whether the partner's current layout lets its symbols contribute: the data path's version, and the pair's pipe
(R77). It is asked when the two symbols of a match meet, and not again while one waits (DESIGN CHOICE, log 41). -/
def partnerFits (s : State) (p : PairId) (partner : LaneId) : Bool :=
  match (s.lane partner).layout, (s.pairAt p).layout with
  | some y, some z => decide (y.version = z.version) && y.pipe.isSome
  | _, _ => false

/-- The reference lane of a pair, if there is one (R75). -/
def refLane (s : State) (p : PairId) : Option LaneId :=
  match (s.pairAt p).ref with
  | .none => none
  | .primary => some (primaryOf p)
  | .secondary => some (secondaryOf p)

/-- The pair state that a reference frame of `d` data symbols sets (R79). -/
def frameState (ref : RefLane) (d contrib : Nat) : PairState :=
  if d ≤ 2 * contrib then .dual else if ref = .secondary then .singleS else .singleP

/-- Data-path completion of the frame whose last symbol is `x` (R79, R80), then group accounting (R93). The info of
PAIR_MISALIGNED takes the partner's last frame counter as it stands now (log 40). PAIR_MISALIGNED is reported before the
OVERRUN that the accounting may report; R203 lets the two be taken in either order (DESIGN CHOICE, log 44). -/
def pathCompletion (p : PairId) (x : WaitingSymbol) (s : State) : State :=
  let pr := s.pairAt p
  let partner := if pr.ref = .secondary then primaryOf p else secondaryOf p
  let s := setPairState p (frameState pr.ref x.d pr.contrib) s
  let s :=
    if x.partnerLock && decide ((s.lane partner).state = .lock) && decide (pr.contrib = 0) then
      let last := match (s.lane partner).layout with | some y => y.lastFrame | none => 0
      report (srcPair p) .pairMisaligned ((last + 256 - x.counter % 256) % 256) s
    else s
  let s := s.modPair p (fun y => { y with contrib := 0, doneFrame := some x.counter })
  frameAccounting (primaryOf p) s

/-- Write the decided symbols at the head of the waiting list, in reference order (R77); the one that ends its frame
completes it (R79). -/
def flushWaiting (p : PairId) : List WaitingSymbol → State → State
  | [], s => s.modPair p (fun y => { y with waiting := [] })
  | x :: xs, s =>
    if x.decided then
      let s := placeCells (primaryOf p) x.cells s
      let s := s.modPair p (fun y => { y with contrib := y.contrib + (if x.contributed then 1 else 0) })
      flushWaiting p xs (if x.index = x.d then pathCompletion p x s else s)
    else s.modPair p (fun y => { y with waiting := x :: xs })

/-- Write what has been decided. -/
def flush (p : PairId) (s : State) : State := flushWaiting p (s.pairAt p).waiting s

/-- A reference symbol event of any kind: each waiting symbol counts it, and at the second is taken single (R77). -/
def ageWaiting (p : PairId) (s : State) : State :=
  flush p (s.modPair p (fun y => { y with waiting := y.waiting.map (fun x =>
    { x with since := x.since + 1, decided := x.decided || decide (2 ≤ x.since + 1) }) }))

/-- Every waiting symbol is decided at once as single and written (R76 step 1). -/
def decideAll (p : PairId) (s : State) : State :=
  flush p (s.modPair p (fun y => { y with waiting := y.waiting.map (fun x => { x with decided := true }) }))

/-- Waiting symbols are written as single in their order by a lane in no pair, each that ends its frame accounting for
it. -/
def writeLeft (l : LaneId) : List WaitingSymbol → State → State
  | [], s => s
  | x :: xs, s =>
    let s := placeCells l x.cells s
    writeLeft l xs (if x.index = x.d then frameAccounting l s else s)

/-- The symbols that an UNPAIR left waiting at its primary are written (R72: "the group continues"; log 21). -/
def takeLeft (l : LaneId) (s : State) : State :=
  if paired s l = false ∧ isPrimary l = true then
    writeLeft l (s.pairAt (pairOf l)).waiting (s.modPair (pairOf l) (fun x => { x with waiting := [] }))
  else s

/-- A waiting symbol combined with a stored partner symbol of its frame counter and index (R77, R78). -/
def combineWaiting (x : WaitingSymbol) (y : StoredSymbol) : WaitingSymbol :=
  if !x.decided && decide (y.counter = some x.counter) && decide (y.index = x.index) then
    { x with cells := combineCells x.cells y.cells, decided := true, contributed := true }
  else x

/-- A data symbol of the reference (R77): combined at once with a matching stored symbol, else waiting. The partner's
layout is judged as it stands at this event (log 41). -/
def referenceSymbol (p : PairId) (partner : LaneId) (x : WaitingSymbol) (s : State) : State :=
  let fits := partnerFits s p partner
  let found := (s.pairAt p).store.find? (fun y =>
    decide (y.lane = partner) && decide (y.counter = some x.counter) && decide (y.index = x.index))
  let x := match found with
    | some y => if fits then combineWaiting x y else x
    | none => x
  flush p (s.modPair p (fun y => { y with waiting := y.waiting ++ [x] }))

/-- A data symbol of the partner (R77): it joins the store, the oldest leaving when a fourth arrives, and combines with
the waiting symbol it matches. The partner's layout is judged as it stands at this event (log 41). -/
def partnerSymbol (p : PairId) (y : StoredSymbol) (s : State) : State :=
  let fits := partnerFits s p y.lane
  let s := s.modPair p (fun x =>
    { x with
      store := ((x.store ++ [y]).reverse.take 3).reverse
      waiting := if fits then x.waiting.map (fun z => combineWaiting z y) else x.waiting })
  flush p s

end Sys2Proof.Machine
end

