-- ==== Sys2Proof/Machine/Lane.lean ====
section
/-! DEFINITION. Lane acquisition, tracking and loss (Chapter 2): what a sample, a symbol event, a preamble and a link event
do to a lane, with the reference moves of a pair (R75, R76). -/

namespace Sys2Proof.Machine

/-! ### SEARCH (2.3) -/

/-- The lane advances its sweep position into SEARCH; a wrap raises SEARCH_WRAP, counts, and sets the reason (R23). -/
def advanceSweep (l : LaneId) (s : State) : State :=
  let c := s.lane l
  let next := nextSweep c.setup.sweepSpan c.sweepPos
  let s := s.modLane l (fun c => c.toSearch next)
  if next = 0 then
    raise (evSearchWrap l) (s.modLane l (fun c =>
      { c with reason := .noSignal, counters := { c.counters with wraps := min 65535 (c.counters.wraps + 1) } }))
  else s

/-- Samples from a search attempt's end to the first symbol event after it (R5, R24, R45; log 13): symbol events recur
every N + Lg samples from the candidate's position. -/
def firstSymbolIn (total : Nat) (k : Candidate) : Nat :=
  symbolLen k.mode k.guard - (total - k.position) % symbolLen k.mode k.guard

/-- Entry to MODE with a candidate (R24, R45). -/
def enterMode (l : LaneId) (k : Candidate) (s : State) : State :=
  s.modLane l (fun c =>
    { c with
      state := .mode, candidate := some k, confirm := 0, profile := []
      w := guardLen k.mode k.guard, toGo := firstSymbolIn c.attempt k, offset := 0, openPl := false })

/-- The end of a search attempt (R24). -/
def endAttempt (l : LaneId) (s : State) : State :=
  let c := s.lane l
  match bestPeak c.setup.modeSet c.setup.guardSet c.samples.reverse with
  | none => advanceSweep l s
  | some pk =>
    if c.setup.floorF ≤ pk.rho then enterMode l ⟨pk.mode, pk.guard, pk.position⟩ s else advanceSweep l s

/-! ### MODE (2.4) -/

/-- ρ at the guard of the symbol that has just ended, over the lane's latest N + Lg samples (R26). -/
def confirmationRho (c : Lane) (k : Candidate) : Nat :=
  guardCorrelation k.mode k.guard (c.samples.take (symbolLen k.mode k.guard)).reverse

/-- A symbol event in MODE (R26). -/
def modeSymbol (l : LaneId) (s : State) : State :=
  let c := s.lane l
  match c.candidate with
  | none => advanceSweep l s
  | some k =>
    if c.setup.floorF ≤ confirmationRho c k then
      if 4 ≤ c.confirm + 1 then
        s.modLane l (fun c => { c with
          state := .sync, confirm := c.confirm + 1, noPreamble := 0, preFail := 0, samples := [], openPl := false })
      else s.modLane l (fun c => { c with confirm := c.confirm + 1 })
    else advanceSweep l s

/-! ### Entry to LOCK (R29, R37) and the reference lane (R75, R76) -/

/-- The frame of a preamble just taken: symbol 0 of a frame of D data symbols (R6). -/
def startFrame (s : State) (l : LaneId) (d : Nat) (valid : Bool) : FramePos :=
  ⟨0, d, valid, 0, 0, 0, paired s l && decide ((s.lane (partnerOf l)).state = .lock)⟩

/-- Steps 1 to 3 of R29: layout, reason, counts, LOCKED; the frame begins. From SYNC the quality part starts afresh from
the entering preamble (R61, R65); in both cases open placement is set (R45). -/
def lockIn (l : LaneId) (fromSync : Bool) (r : FrameRecord) (pilots : List PilotRx) (s : State) : State :=
  let s := s.modLane l (fun c =>
    { c with
      state := .lock, reason := .none, lossRun := 0, preFail := 0, noPreamble := 0, goodRun := 0, deadline := none
      layout := some (layoutOf (selectId s l) r), frame := startFrame s l r.d true, openPl := true
      profile := if fromSync then [] else c.profile
      quality := if fromSync then { Quality.cleared with estimate := some (formEstimate pilots) } else c.quality })
  follow (raise (evLocked l) s)

/-- The data path takes a preamble that moves the reference from none to lane `l` (R75): with pages granted at this
preamble, the record becomes its layout and a group begins in half A; otherwise the record is compared with its
layout. -/
def takeReference (l : LaneId) (granted : Bool) (r : FrameRecord) (s : State) : State :=
  let p := pairOf l
  let s := s.modPair p (fun x => { x with ref := refName l })
  let s :=
    if granted then beginGroup (pathOf s l) .a (setPathLayout l r (abandonGroup (pathOf s l) s))
    else if altersPipe (pathParams s (pathOf s l)) (selectId s l) r then layoutChange l r s
    else beginAgain (pathOf s l) (setPathLayout l r s)
  s.modPair p (fun x => { x with lastFrame := r.counter })

/-- A switch of the reference from the other lane to lane `l` at a preamble (R76). -/
def switchReference (l : LaneId) (r : FrameRecord) (s : State) : State :=
  let p := pairOf l
  let s := decideAll p s
  let pr := s.pairAt p
  let s := s.modPair p (fun x => { x with ref := refName l })
  let s :=
    if altersPipe (pathParams s (pathOf s l)) (selectId s l) r then layoutChange l r s
    else
      let goesOn := decide (pr.doneFrame = some pr.lastFrame) && decide (r.counter = (pr.lastFrame + 1) % 256)
        && (s.lane (pathOf s l)).group.isSome
      let s := setPathLayout l r s
      if goesOn then s else beginAgain (pathOf s l) s
  s.modPair p (fun x => { x with lastFrame := r.counter })

/-- Step 4 of R29 on a lane's data path: for a single lane a new group, in half A after a pool grant and else in the
remembered half; for a pair, what the reference rules give (R75). -/
def pathAtEntry (l : LaneId) (granted : Bool) (r : FrameRecord) (s : State) : State :=
  if paired s l then
    if (s.pairAt (pairOf l)).ref = .none then takeReference l granted r s
    else s
  else if granted then beginGroup l .a (abandonGroup l s)
  else beginAgain l s

/-- Entry to LOCK from SYNC (R28, R29). -/
def lockFromSync (l : LaneId) (granted : Bool) (r : FrameRecord) (pilots : List PilotRx) (s : State) : State :=
  pathAtEntry l granted r (lockIn l true r pilots s)

/-- A record on the reference lane, or on a single lane, checked for a layout change against the layout held (R33,
R34): an altered pipe is settled; an unchanged one lets the version be taken. -/
def checkLayout (l : LaneId) (cur : Option PipeParams) (r : FrameRecord) (s : State) : State :=
  if altersPipe cur (selectId s l) r then layoutChange l r s else setPathLayout l r s

/-- Return to LOCK from FADE (R37): R29 without a pool request, then the layout check against the layout held since
before the fade. -/
def recover (l : LaneId) (r : FrameRecord) (s : State) : State :=
  let held := pathParams s (pathOf s l)
  let s := lockIn l false r [] s
  if paired s l then
    if (s.pairAt (pairOf l)).ref = .none then takeReference l false r s
    else if drivesPath s l then
      let s := beginAgain (pathOf s l) s
      (checkLayout l held r s).modPair (pairOf l) (fun x => { x with lastFrame := r.counter })
    else s
  else checkLayout l held r (beginAgain l s)

/-! ### SYNC (2.5) -/

/-- A VALID record in SYNC (R28). -/
def syncValid (l : LaneId) (r : FrameRecord) (pilots : List PilotRx) (s : State) : State :=
  match selectPipe (selectId s l) r with
  | none => s.modLane l (fun c => { c with reason := .pipeAbsent })
  | some x =>
    if 0 < s.pool.owned (pathOf s l) then lockFromSync l false r pilots s
    else
      let need := pageNeed x.params
      let (granted, s) := requestPages (pathOf s l) need s
      if granted then lockFromSync l true r pilots s
      else report (srcLane l) .poolShort need (s.modLane l (fun c => { c with reason := .poolShort }))

/-- A preamble failure in SYNC, counted; the third advances the sweep (R27). Where the advance wraps, its NO_SIGNAL (R23)
is set last, over the LAYOUT_BAD of an INVALID: the spec orders the two nowhere (DESIGN CHOICE, log 39). -/
def syncFailure (l : LaneId) (s : State) : State :=
  let n := (s.lane l).preFail + 1
  let s := s.modLane l (fun c => { c with noPreamble := 0, preFail := n })
  if 3 ≤ n then advanceSweep l s else s

/-- A symbol event in SYNC (R27). An INVALID sets LAYOUT_BAD before the failure is counted (log 39). -/
def syncSymbol (l : LaneId) (x : SymbolRx) (s : State) : State :=
  match preambleOutcome (s.lane l).candidate x.preamble with
  | .notFound =>
    let n := (s.lane l).noPreamble + 1
    let s := s.modLane l (fun c => { c with noPreamble := n })
    if 512 ≤ n then advanceSweep l s else s
  | .crcFail => syncFailure l s
  | .invalid k =>
    syncFailure l (report (srcLane l) .layoutBad k (s.modLane l (fun c => { c with reason := .layoutBad })))
  | .valid r => syncValid l r (preamblePilots (s.lane l).candidate x) (s.modLane l (fun c => { c with noPreamble := 0, preFail := 0 }))

/-! ### LOCK (2.6) -/

/-- A symbol blanked by the impulse test is counted, with its occurrence (R64, R167). -/
def countBlanked (l : LaneId) (s : State) : State :=
  (s.modLane l (fun c => { c with counters := { c.counters with blanked := wrap32 (c.counters.blanked + 1) } })).addWork
    [.occ (.blanked l)]

/-- The profile update and the placement at an updated symbol (R47, R56, R57): a moved window alters the length of the
next symbol. -/
def trackEchoes (k : Candidate) (pat : Pattern) (pilots : List PilotRx) (c : Lane) : Lane :=
  let low := windowLow k.mode pat
  let high := windowHigh k.mode pat
  let lg := guardLen k.mode k.guard
  let x := updateProfile c.setup low high (observe low c.setup.floorF (impulseResponse k.mode pat pilots))
    ⟨c.profile, c.w, c.offset⟩
  let y := placeWindow (sizeN k.mode) lg c.setup.windowHyst low high x.profile x.w c.openPl
  { c with
    profile := x.profile, w := y.1, openPl := y.2, offset := x.offset
    toGo := ((c.toGo : Int) + (y.1 - x.w)).toNat }

/-- What a data symbol in LOCK shows of itself, judged on the held estimate: whether a preamble stands at its
position, its pilot powers, and whether it is blanked (R30, R63, R64). -/
structure SymbolFacts where
  found : Bool
  e : Nat
  sig : Nat
  blanked : Bool
  low : Bool
  deriving DecidableEq, Repr

/-- Those facts (R30: a found preamble counts as π below F; a blanked symbol is not measured). -/
def symbolFacts (c : Lane) (preamble : PreambleRx) (pilots : List PilotRx) : SymbolFacts :=
  let found := decide (preamble ≠ .notShown)
  let e := pilotError c.quality.estimate pilots
  let blanked := !found && isBlanked c.quality.noise c.setup.impulseJ e
  ⟨found, e, pilotSignal c.quality.estimate pilots, blanked,
    found || decide (pilotCorrelation c.quality.estimate pilots < c.setup.floorF)⟩

/-- The lane-local work of data symbol `idx` in LOCK, in order: loss run (R30), profile and window (R47), channel estimate
(R61), MER sums (R66), noise estimate (R63); the frame stands at `idx`. -/
def trackSymbol (k : Candidate) (y : Layout) (idx : Nat) (f : SymbolFacts) (pilots : List PilotRx) (c : Lane) : Lane :=
  let c := { c with lossRun := if f.blanked then c.lossRun else if f.low then c.lossRun + 1 else 0 }
  let c := if f.found || f.blanked then c else trackEchoes k y.pattern pilots c
  let q := c.quality
  { c with
    quality := { q with
      estimate := if f.blanked then q.estimate else some (formEstimate pilots)
      noise := if f.found then q.noise else noiseAfter q.noise f.blanked f.e }
    frame := { c.frame with
      pos := idx
      merS := if f.found || f.blanked then c.frame.merS else c.frame.merS + f.sig
      merE := if f.found || f.blanked then c.frame.merE else c.frame.merE + f.e
      merN := if f.found || f.blanked then c.frame.merN else c.frame.merN + 1 } }

/-- The cells a data symbol gives its data path (R62): equalized with the symbol's own estimate, or the held one if
blanked, and with σ² as it stood before the symbol. -/
def cellsOfSymbol (before after : Lane) (k : Candidate) (y : Layout) (idx : Nat) (f : SymbolFacts)
    (cells : List CellRx) : List PoolCell :=
  match y.pipe with
  | none => []
  | some pipe =>
    symbolCells (dataCells k.mode y.pattern) before.frame.d idx pipe after.quality.estimate before.quality.noise f.blanked
      cells

/-- A data symbol's cells reach the lane's data path: written at once by a single lane; for a pair, through combining
(R77). A frame without a record gives its path nothing (R31). A symbol joins the alignment store only where its lane is the
partner of a reference as it takes it: what the lane took of a new frame as the old reference, before the switch, or while there
was no reference, does not contribute after it (DESIGN CHOICE, log 52). -/
def deliverCells (l : LaneId) (y : Layout) (idx : Nat) (cells : List PoolCell) (s : State) : State :=
  let c := s.lane l
  if paired s l then
    let p := pairOf l
    if drivesPath s l then
      if c.frame.valid && (s.lane (pathOf s l)).group.isSome then
        referenceSymbol p (partnerOf l)
          ⟨y.lastFrame, idx, cells, 0, false, false, c.frame.d, c.frame.partnerLock⟩ s
      else s
    else if (s.pairAt p).ref = refName (partnerOf l) then
      partnerSymbol p ⟨l, if c.frame.valid then some y.lastFrame else none, idx, cells⟩ s
    else s
  else placeCells l cells s

/-- Frame completion in LOCK (R6, R41): the frames counter, MER, Q and grade; a single lane's group accounting is taken
here, a pair's at the data-path completion (R79). -/
def completeFrame (l : LaneId) (s : State) : State :=
  let s := s.modLane l (fun c =>
    { c with
      counters := { c.counters with frames := wrap32 (c.counters.frames + 1) }
      quality := frameQuality c.setup c.frame c.quality })
  let s := follow s
  if paired s l then s else frameAccounting l s

/-- A data symbol event in LOCK (2.6). The move to FADE on the loss run is the last effect of the event. For a lane in no
pair the grade of a frame is judged before its group is accounted and the decoder takes; for a reference whose last symbol
is decided at its own event the group comes first, for the cells are delivered before the frame is completed (DESIGN
CHOICE, log 12). -/
def dataSymbol (l : LaneId) (k : Candidate) (y : Layout) (x : SymbolRx) (s : State) : State :=
  let before := s.lane l
  let idx := before.frame.pos + 1
  let pilots := pilotsOf k.mode y.pattern x
  let f := symbolFacts before x.preamble pilots
  let s := if f.blanked then countBlanked l s else s
  let s := s.modLane l (trackSymbol k y idx f pilots)
  let s := deliverCells l y idx (cellsOfSymbol before (s.lane l) k y idx f (cellsOf k.mode y.pattern x)) s
  let s := if idx = before.frame.d ∧ before.frame.valid = true then completeFrame l s else s
  if 8 ≤ (s.lane l).lossRun then enterFade l .noSignal s else s

/-- A VALID expected preamble of a lane that drives its data path: frame continuity (R32), then the layout check (R33,
R34). -/
def drivingPreamble (l : LaneId) (last : Nat) (held : Option PipeParams) (r : FrameRecord) (s : State) : State :=
  let p := pathOf s l
  let goesOn := decide (r.counter = (last + 1) % 256) && (s.lane p).group.isSome
  let s := if goesOn then s else beginAgain p s
  checkLayout l held r s

/-- A VALID expected preamble in LOCK (R31 to R33, R75). The lane's own layout and last frame counter are taken first, so
that at a switch they stand when the pending symbols are decided, and the info of a PAIR_MISALIGNED reported then reckons
with the new counter (R80; DESIGN CHOICE, log 40). -/
def validExpected (l : LaneId) (y : Layout) (r : FrameRecord) (s : State) : State :=
  let held := pathParams s (pathOf s l)
  let frame := startFrame s l r.d true
  let s := s.modLane l (fun c =>
    { c with preFail := 0, layout := some (layoutOf (selectId s l) r), frame := frame })
  if paired s l then
    let p := pairOf l
    let pr := s.pairAt p
    let moves : Bool := match pr.ref with
      | .secondary => isPrimary l
      | .primary => !isPrimary l && decide ((s.lane (primaryOf p)).state ≠ .lock)
      | .none => false
    if pr.ref = .none then takeReference l false r s
    else if moves then switchReference l r s
    else if drivesPath s l then
      (drivingPreamble l pr.lastFrame held r s).modPair p (fun x => { x with lastFrame := r.counter })
    else s
  else drivingPreamble l y.lastFrame held r s

/-- A failure of the expected preamble (R31): the second in a row moves the lane to FADE; the first abandons the group and
leaves a frame without a record, D data symbols long. -/
def failedExpected (l : LaneId) (y : Layout) (wasInvalid : Bool) (s : State) : State :=
  let n := (s.lane l).preFail + 1
  let s := s.modLane l (fun c => { c with preFail := n })
  if 2 ≤ n then enterFade l (if wasInvalid then .layoutBad else .noSignal) s
  else
    let s := abandonIfDriving l s
    s.modLane l (fun c => { c with frame := startFrame s l y.d false })

/-- The expected preamble in LOCK (R31). -/
def expectedPreamble (l : LaneId) (y : Layout) (x : SymbolRx) (s : State) : State :=
  match preambleOutcome (s.lane l).candidate x.preamble with
  | .valid r => validExpected l y r s
  | .notFound => failedExpected l y false s
  | .crcFail => failedExpected l y false s
  | .invalid n => failedExpected l y true (report (srcLane l) .layoutBad n s)

/-- What every symbol event in LOCK begins with: it is counted (R41), and by a pair's waiting symbols if the lane is the
reference (R77); a lane in no pair writes what an UNPAIR left waiting (log 21). -/
def beginLockSymbol (l : LaneId) (s : State) : State :=
  let s := s.modLane l (fun c => { c with counters := { c.counters with symbols := wrap32 (c.counters.symbols + 1) } })
  if paired s l && drivesPath s l then ageWaiting (pairOf l) s else takeLeft l s

/-- A symbol event in LOCK: a data symbol or the expected preamble (R6). -/
def lockSymbol (l : LaneId) (x : SymbolRx) (s : State) : State :=
  let s := beginLockSymbol l s
  match (s.lane l).candidate, (s.lane l).layout with
  | some k, some y =>
    if (s.lane l).frame.pos < (s.lane l).frame.d then dataSymbol l k y x s else expectedPreamble l y x s
  | _, _ => s

/-! ### FADE (2.7) -/

/-- A symbol event in FADE (R36, R37). -/
def fadeSymbol (l : LaneId) (x : SymbolRx) (s : State) : State :=
  let c := s.lane l
  let pilots := pilotsInForce c.candidate c.layout x
  match preambleOutcome c.candidate x.preamble with
  | .notFound =>
    if isBlanked c.quality.noise c.setup.impulseJ (pilotError c.quality.estimate pilots) then countBlanked l s
    else if pilotCorrelation c.quality.estimate pilots < c.setup.floorF then
      s.modLane l (fun c => { c with goodRun := 0 })
    else s.modLane l (fun c => { c with goodRun := min 4 (c.goodRun + 1) })
  | .crcFail => s.modLane l (fun c => { c with goodRun := 0 })
  | .invalid _ => s.modLane l (fun c => { c with goodRun := 0 })
  | .valid r => if 4 ≤ c.goodRun then recover l r s else s

/-! ### Samples, links, holdoff -/

/-- The carrier offset of a lane's sweep position (R23). -/
def carrierOffset (c : Lane) : Int := c.sweepPos * c.setup.sweepStep

/-- A sample as the lane takes it: as it arrived at carrier offset 0, else corrected (R23, R24; log 5). -/
def correctedSample (c : Lane) (i q : Int) : CInt :=
  if carrierOffset c = 0 then ⟨i, q⟩
  else
    let r := Config.carrierCorrect (carrierOffset c) c.samples.length i q
    ⟨r.1, r.2⟩

/-- A symbol event by the lane's state (R5). -/
def symbolEvent (l : LaneId) (x : SymbolRx) (s : State) : State :=
  match (s.lane l).state with
  | .mode => modeSymbol l s
  | .sync => syncSymbol l x s
  | .lock => lockSymbol l x s
  | .fade => fadeSymbol l x s
  | .off => s
  | .search => s

/-- The regular length of the lane's symbols (R5). -/
def symbolLength (c : Lane) : Nat :=
  match c.candidate with
  | some k => symbolLen k.mode k.guard
  | none => 0

/-- A sample counted toward the symbol boundary; the last of a symbol makes the symbol event (R5, R44). -/
def countSample (l : LaneId) (x : SymbolRx) (s : State) : State :=
  let c := s.lane l
  if c.toGo ≤ 1 then symbolEvent l x (s.modLane l (fun c => { c with toGo := symbolLength c }))
  else s.modLane l (fun c => { c with toGo := c.toGo - 1 })

/-- A sample arrives at a lane (R3): nothing on a link that is DOWN or at a lane that is OFF. -/
def takeSample (l : LaneId) (i q : Int) (x : SymbolRx) (s : State) : State :=
  let c := s.lane l
  if s.links[l] = false then s
  else
    match c.state with
    | .off => s
    | .search =>
      let s := s.modLane l (fun c => { c with samples := correctedSample c i q :: c.samples, attempt := c.attempt + 1 })
      if c.setup.searchLength * 16384 ≤ c.attempt + 1 then endAttempt l s else s
    | .mode => countSample l x (s.modLane l (fun c => { c with samples := correctedSample c i q :: c.samples }))
    | .sync => countSample l x s
    | .lock => countSample l x s
    | .fade => countSample l x s

/-- The code of a lane state (R17). -/
def LaneState.code : LaneState → Nat
  | .off => 0
  | .search => 1
  | .mode => 2
  | .sync => 3
  | .lock => 4
  | .fade => 5

/-- A link-down event at a lane (R2, R25, R35, R39). -/
def laneLinkDown (l : LaneId) (s : State) : State :=
  let st := (s.lane l).state
  let reported := fun (s : State) => report (srcLane l) .linkDown st.code s
  let reason := fun (s : State) => s.modLane l (fun c => { c with reason := .linkDown })
  match st with
  | .off => s
  | .search => reported (reason s)
  | .mode => reported (reason (s.modLane l (fun c => c.toSearch c.sweepPos)))
  | .sync => reported (reason (s.modLane l (fun c => c.toSearch c.sweepPos)))
  | .lock => reported (enterFade l .linkDown s)
  | .fade => reported (reason (s.modLane l (fun c => { c with goodRun := 0 })))

/-- A framing line disappears: a change from UP to DOWN is a link-down event (R2). -/
def linkLost (l : LaneId) (s : State) : State :=
  if s.links[l] then laneLinkDown l { s with links := s.links.set l false } else s

/-- A framing line returns: a link-up event changes no lane state (R2, R25, R39). -/
def linkFound (l : LaneId) (s : State) : State := { s with links := s.links.set l true }

/-- The holdoff expires when system time equals the deadline of a lane in FADE (R38). -/
def holdoffExpires (l : LaneId) (s : State) : State :=
  if (s.lane l).state = .fade ∧ (s.lane l).deadline = some s.time then releaseToSearch l s else s

/-- The timing reference of the symbol now being received, in samples from the next sample to arrive; none for a lane in
OFF or SEARCH (R44, R45; log 29). -/
def Lane.timingRef (c : Lane) : Option Int :=
  match c.state, c.candidate with
  | .off, _ => none
  | .search, _ => none
  | _, some k => some (c.toGo - c.w - sizeN k.mode)
  | _, none => none

end Sys2Proof.Machine
end

