-- ==== Sys2Proof/Machine/Timer.lean ====
section
/-! DEFINITION. The timer bank (Chapter 10): ticks, occurrences, expiries and actions, and the timer requests. SPAN timers
follow their conditions in Machine/Flags.lean. -/

namespace Sys2Proof.Machine

/-- The ticks of a prescale code (11.5). -/
def prescaleTicks (code : Nat) : Nat :=
  match code with
  | 0 => 1
  | 1 => 27
  | 2 => 2700
  | _ => 270000

/-! ### Counting time (R166, R168, R170, R171) -/

/-- Whether a timer counts time (R168, R170, R171). -/
def countsTime (s : State) (tm : Timer) : Bool :=
  decide (tm.run = .running) &&
    (match tm.setting.mode with
      | .interval => gateOpen s tm.setting.gate
      | .count => false
      | .oneshot => true
      | .span => tm.measuring)

/-- One count of prescaled time (R168, R170, R171). A count that makes the timer expire leaves it due: the expiry is
the step TIMER_EXPIRY (log 3). -/
def Timer.takeCount (tm : Timer) : Timer :=
  match tm.setting.mode with
  | .interval => if 0 < tm.counter then { tm with counter := tm.counter - 1 } else { tm with due := true }
  | .count => tm
  | .oneshot => if 1 < tm.counter then { tm with counter := tm.counter - 1 } else { tm with due := true }
  | .span => { tm with counter := min 65535 (tm.counter + 1) }

/-- One tick of counted time (R166). -/
def Timer.takeTick (tm : Timer) : Timer :=
  if prescaleTicks tm.setting.prescale ≤ tm.pre + 1 then { tm with pre := 0 }.takeCount
  else { tm with pre := tm.pre + 1 }

/-- One timer at a tick. -/
def tickTimer (s : State) (t : TimerId) : State :=
  if countsTime s (s.timer t) then s.modTimer t (·.takeTick) else s

/-- A tick: system time advances, the address pins stand at a level (R185), and the timers that count time take the tick
(R1, R166). -/
def tickAll (straps : BitVec 5) (s : State) : State :=
  allTimers.foldl tickTimer { s with time := wrapTime (s.time + 1), straps := straps }

/-! ### Occurrences and actions (R169, R170, R172) -/

/-- A ONESHOT count starts or restarts (R170). -/
def Timer.restart (tm : Timer) : Timer :=
  { tm with
    run := .running, counter := if tm.setting.reload = 0 then 1 else tm.setting.reload, pre := 0, due := false }

/-- One timer takes an occurrence of a source (R169, R170). -/
def occurAt (src : Source) (s : State) (t : TimerId) : State :=
  let tm := s.timer t
  if sourceOf tm.setting.source = some src then
    match tm.setting.mode, tm.run with
    | .count, .running =>
      if 0 < tm.counter then s.setTimer t { tm with counter := tm.counter - 1 }
      else expire t (s.setTimer t { tm with counter := tm.setting.reload })
    | .oneshot, .waiting => s.setTimer t tm.restart
    | .oneshot, .running => s.setTimer t tm.restart
    | _, _ => s
  else s

/-- An occurrence reaches every timer (R167), in ascending number, so that the actions of two that expire at it come in that
order (R172 gives none; DESIGN CHOICE, log 43). -/
def occur (src : Source) (s : State) : State := allTimers.foldl (occurAt src) s

/-- The action of an expired timer (R172 step 2). -/
def performAction (t : TimerId) (s : State) : State :=
  let a := (s.timer t).setting.action
  match a.kind with
  | 1 => (match asLane a.index with | some l => research l s | none => s)
  | 2 => (match asMonitor a.index with | some m => armMonitor m s | none => s)
  | _ => s

/-- Hand on one piece of work. -/
def deliver (s : State) (w : Work) : State :=
  match w with
  | .occ src => occur src s
  | .act t => performAction t s

/-! ### Expiry of a timer that counts time (R168, R170, R172) -/

/-- The state a timer that has fallen due takes at its expiry (R168, R170). -/
def Timer.afterExpiry (tm : Timer) : Timer :=
  match tm.setting.mode with
  | .interval => { tm with counter := tm.setting.reload, due := false }
  | .oneshot =>
    { tm with
      counter := 0, due := false
      run := if tm.setting.source.kind = 0 then .stopped else .waiting }
  | .count => { tm with due := false }
  | .span => { tm with due := false }

/-- TIMER_EXPIRY of a timer whose expiring count has fallen due (R172). -/
def timerExpires (t : TimerId) (s : State) : State :=
  if (s.timer t).due then expire t (s.modTimer t (·.afterExpiry)) else s

/-! ### Requests -/

/-- A mode code (11.5). -/
def timerModeOf (n : Nat) : Option TimerMode :=
  match n with
  | 0 => some .interval
  | 1 => some .count
  | 2 => some .oneshot
  | 3 => some .span
  | _ => none

/-- The code of a mode. -/
def TimerMode.code : TimerMode → Nat
  | .interval => 0
  | .count => 1
  | .oneshot => 2
  | .span => 3

/-- The code of a run state (R189). -/
def RunState.code : RunState → Nat
  | .stopped => 0
  | .waiting => 1
  | .running => 2

/-- Whether a source names what it may: a lane, a monitor, a port, or a timer other than `t` (R173 step 2). -/
def sourceOk (t : TimerId) (x : KindIndex) : Bool :=
  match sourceOf x with
  | none => false
  | some src => decide (src ≠ .timerExpiry t)

/-- Whether a SPAN condition names one of the three (R173 step 2). -/
def spanOk (x : KindIndex) : Bool :=
  match x.kind with
  | 8 => (asLane x.index).isSome
  | 9 => true
  | 10 => (asLane x.index).isSome
  | _ => false

/-- Whether a gate is NONE or one of the three gate conditions (R173 step 2). -/
def gateOk (x : KindIndex) : Bool :=
  match x.kind with
  | 0 => true
  | 1 => (asLane x.index).isSome
  | 2 => (asLane x.index).isSome
  | 3 => true
  | _ => false

/-- Whether an action is one of the three (R173 step 2). -/
def actionOk (x : KindIndex) : Bool :=
  match x.kind with
  | 0 => true
  | 1 => (asLane x.index).isSome
  | 2 => (asMonitor x.index).isSome
  | _ => false

/-- The fields that the mode uses are judged (R173 step 2). -/
def timerFormOk (t : TimerId) (mode : TimerMode) (f : TimerForm) : Bool :=
  actionOk f.action &&
    (match mode with
      | .interval => decide (f.prescale ≤ 3) && gateOk f.gate
      | .count => sourceOk t f.source
      | .oneshot => decide (f.prescale ≤ 3) && (decide (f.source.kind = 0) || sourceOk t f.source)
      | .span => decide (f.prescale ≤ 3) && spanOk f.source)

/-- A kind and index with an index that a judged kind does not use held as 0 (11.5: it "is not read"; log 25). -/
def heldPair (used : Nat → Bool) (x : KindIndex) : KindIndex := if used x.kind then x else ⟨x.kind, 0⟩

/-- The setting a form gives. -/
def settingOf (mode : TimerMode) (f : TimerForm) : TimerSetting :=
  ⟨mode, f.prescale, f.reload, heldPair (fun k => decide (k ≠ 0 ∧ k ≠ 3)) f.gate,
    heldPair (fun k => decide (k ≠ 0 ∧ k ≠ 9)) f.source, heldPair (fun k => decide (k ≠ 0)) f.action⟩

/-- Whether the chain of COUNT timers from `u` reaches `t` (R173 step 4). Eight timers, so eight links are enough. -/
def chainReaches (s : State) (t : TimerId) : Nat → TimerId → Bool
  | 0, _ => false
  | n + 1, u =>
    if u = t then true
    else
      match (s.timer u).setting.mode, sourceOf (s.timer u).setting.source with
      | .count, some (.timerExpiry v) => chainReaches s t n v
      | _, _ => false

/-- Whether a new COUNT setting of `t` closes a ring (R173 step 4). -/
def closesRing (s : State) (t : TimerId) (st : TimerSetting) : Bool :=
  match st.mode, sourceOf st.source with
  | .count, some (.timerExpiry u) => chainReaches s t 9 u
  | _, _ => false

/-- TIMER SETUP (R173). -/
def doTimerSetup (timer : Nat) (f : TimerForm) (s : State) : State × Answer :=
  match asTimer timer with
  | none => (s, .now (.refused .noObject))
  | some t =>
    match timerModeOf f.mode with
    | none => (s, .now (.refused .badParam))
    | some mode =>
      if timerFormOk t mode f = false then (s, .now (.refused .badParam))
      else
        let tm := s.timer t
        let st := settingOf mode f
        if tm.run ≠ .stopped ∧ { st with reload := tm.setting.reload } ≠ tm.setting then (s, .now (.refused .busy))
        else if closesRing s t st then (s, .now (.refused .conflict))
        else if tm.run = .stopped then
          (s.setTimer t { tm with setting := st, counter := st.reload }, .now (.done []))
        else (s.setTimer t { tm with setting := st }, .now (.done []))

/-- A timer after TIMER START (R174), with its SPAN condition as it stands. -/
def Timer.started (cond : Bool) (tm : Timer) : Timer :=
  match tm.setting.mode with
  | .interval => if tm.run = .stopped then { tm with run := .running, pre := 0 } else tm
  | .count => if tm.run = .stopped then { tm with run := .running, pre := 0 } else tm
  | .oneshot => tm.restart
  | .span =>
    if tm.run = .stopped then
      { tm with
        run := .running, pre := 0, measuring := cond, counter := if cond then 0 else tm.counter }
    else tm

/-- TIMER START (R174). -/
def doTimerStart (timer : Nat) (s : State) : State × Answer :=
  match asTimer timer with
  | none => (s, .now (.refused .noObject))
  | some t =>
    let tm := s.timer t
    (s.setTimer t (tm.started (spanCondition s tm.setting.source)), .now (.done []))

/-- A timer after TIMER STOP (R175): an expiry that has fallen due and is not taken does not happen. -/
def Timer.stopped (tm : Timer) : Timer := { tm with run := .stopped, pre := 0, measuring := false, due := false }

/-- TIMER STOP (R175). -/
def doTimerStop (timer : Nat) (s : State) : State × Answer :=
  match asTimer timer with
  | none => (s, .now (.refused .noObject))
  | some t => (s.setTimer t (s.timer t).stopped, .now (.done []))

/-- The two bytes of a gate, a source or an action. -/
def kindIndexBytes (x : KindIndex) : List Byte := b1 x.kind ++ b1 x.index

/-- The contents of a TIMER READ reply (R176, R189). -/
def timerBytes (tm : Timer) : List Byte :=
  b1 tm.setting.mode.code ++ b1 tm.setting.prescale ++ b2 tm.setting.reload ++ kindIndexBytes tm.setting.gate ++
    kindIndexBytes tm.setting.source ++ kindIndexBytes tm.setting.action ++ b1 tm.run.code ++ b2 tm.counter ++ b2 tm.lastSpan ++
    b2 tm.maxSpan

/-- TIMER READ (R176). -/
def doTimerRead (timer : Nat) (clear : Bool) (s : State) : State × Answer :=
  match asTimer timer with
  | none => (s, .now (.refused .noObject))
  | some t =>
    let tm := s.timer t
    (if clear then s.setTimer t { tm with lastSpan := 0, maxSpan := 0 } else s, .now (.done (timerBytes tm)))

end Sys2Proof.Machine
end

