-- ==== Sys2Proof/Machine/Settle.lean ====
section
/-! DEFINITION. The end of an event: conditions are followed, occurrences and timer actions are handed on, a notice is
built (R167, R172, R198, R200; log 11). Also how a request is taken and answered (R188 to R190). -/

namespace Sys2Proof.Machine

/-- Conditions, pair states and SPAN timers as the state now stands (R79, R171, R198). -/
def followAll (s : State) : State := follow (followPairs s)

/-- Hand on all the work an event has gathered, in order (R169, R172). -/
def handOn (s : State) : State := s.work.foldl deliver { s with work := [] }

/-- The rest of an event after its main effects: hand on what it caused, round by round, then build the notice that is
due, if one is (R200: "at any event after which" its conditions hold). `n` bounds the rounds (log 11). -/
def settle : Nat → State → State
  | 0, s => s
  | n + 1, s =>
    let s := followAll s
    if s.work ≠ [] then settle n (handOn s)
    else if noticeDue s then settle n (buildNotice s)
    else s

/-- Rounds enough for any chain of expiries and any run of lost notices (log 11). -/
def roundLimit : Nat := 1024

/-- The state after an event whose main effects have led to `s`. -/
def afterEvent (s : State) : State := settle roundLimit s

/-- A packet passed on before the effects of a request addressed to all parts (R186, R190; log 27). -/
def relayFirst (h : ReqHdr) (s : State) : State :=
  match h.relay with
  | none => s
  | some pkt => forward pkt s

/-- A judged request: its reply, if it has one now, is placed after its effects (R188, R190). -/
def placeReply (tag code : Nat) (x : State × Answer) : State :=
  match x.2 with
  | .now r => sendReply tag code r x.1
  | .later => x.1

/-- A request's forwarded packet, its judging and effects, and its reply (R188 to R190). -/
def answerRequest (h : ReqHdr) (code : Nat) (judge : State → State × Answer) (s : State) : State :=
  placeReply h.tag code (judge (relayFirst h s))

/-- A request taken whole, with the rest of its event. -/
def takeRequest (h : ReqHdr) (code : Nat) (judge : State → State × Answer) (s : State) : State :=
  afterEvent (answerRequest h code judge s)

end Sys2Proof.Machine
end

