-- ==== Sys2Proof/Machine/Events.lean ====
section
/-! DEFINITION. The rows that are events: at the links, the samples, the holdoff, the decoder, the slots, the CO hold line,
the timers and the clock. An event that has a due time takes effect only when its time stands (log 2). -/

namespace Sys2Proof.Machine

/-- LINK_DOWN (R2, R25, R35, R39). -/
def execLinkDown (l : LaneId) (s : State) : Out := .next (afterEvent (linkLost l s))

/-- LINK_UP (R2, R25, R39). -/
def execLinkUp (l : LaneId) (s : State) : Out := .next (afterEvent (linkFound l s))

/-- SAMPLE_ARRIVAL (R3). -/
def execSampleArrival (l : LaneId) (i q : Int) (x : SymbolRx) (s : State) : Out :=
  .next (afterEvent (takeSample l i q x s))

/-- HOLDOFF_EXPIRY (R38). -/
def execHoldoffExpiry (l : LaneId) (s : State) : Out := .next (afterEvent (holdoffExpires l s))

/-- The end of a completion: the decoder is idle and takes the next codeword (R109 step 5, R111). -/
def nextTake (s : State) : State := takeIfIdle { s with dec := { s.dec with inflight := none } }

/-- A completion that is not marked (R109): packets, lane counters, statistics, occurrence. -/
def countCompletion (cw : Codeword) (s : State) : State :=
  let packets := packetsOf cw
  let s := packets.foldl (fun s p => mapArrival cw.owner.val p s) s
  let s := s.modLane cw.owner (fun c => { c with counters := countOutcome (decodeEnd cw) packets.length c.counters })
  let s := { s with dec := countStat cw.owner (iterationsRun cw) s.dec }
  if decodeEnd cw = .failed then s.addWork [.occ (.cwFailed cw.owner)] else s

/-- A decode completes when system time has reached its completion (R107, R109, R111). -/
def decodeCompletes (s : State) : State :=
  match s.dec.inflight with
  | none => s
  | some cw =>
    if s.time = completionTime cw then nextTake (if cw.marked then s else countCompletion cw s)
    else s

/-- DECODE_COMPLETION (R109). -/
def execDecodeCompletion (_result : Unit) (s : State) : Out := .next (afterEvent (decodeCompletes s))

/-- A slot event when system time has reached the next slot time (R139). -/
def slotWhenDue (p : PortId) (s : State) : State := if s.time = (s.port p).nextSlot then slotEvent p s else s

/-- SLOT_EVENT (R139). -/
def execSlotEvent (p : PortId) (s : State) : Out := .next (afterEvent (slotWhenDue p s))

/-- CO_HOLD_ASSERT (R142). -/
def execCoHoldAssert (s : State) : Out := .next (afterEvent { s with co := { s.co with held := true } })

/-- CO_HOLD_RELEASE (R142). -/
def execCoHoldRelease (s : State) : Out := .next (afterEvent { s with co := { s.co with held := false } })

/-- TIMER_EXPIRY (R172). -/
def execTimerExpiry (t : TimerId) (s : State) : Out := .next (afterEvent (timerExpires t s))

/-- TICK (R1, R166); the straps come to stand at the level given (R185, log 8). -/
def execTick (s : State) (straps : BitVec 5 := 0#5) : Out := .next (afterEvent (tickAll straps s))

end Sys2Proof.Machine
end

