-- ==== Sys2Proof/Machine/BankRequests.lean ====
section
/-! DEFINITION. The rows of the monitor and timer requests; their judging is in Machine/Monitor.lean and
Machine/Timer.lean. -/

namespace Sys2Proof.Machine

/-- MONITOR_SETUP (R162). -/
def execMonitorSetup (h : ReqHdr) (monitor : Nat) (f : MonitorForm) (s : State) : Out :=
  .next (takeRequest h 0x30 (doMonitorSetup monitor f) s)

/-- MONITOR_ARM (R161). -/
def execMonitorArm (h : ReqHdr) (monitor : Nat) (s : State) : Out :=
  .next (takeRequest h 0x31 (doMonitorArm monitor) s)

/-- MONITOR_READ (R163). -/
def execMonitorRead (h : ReqHdr) (monitor part : Nat) (clear : Bool) (s : State) : Out :=
  .next (takeRequest h 0x32 (doMonitorRead monitor part clear) s)

/-- TIMER_SETUP (R173). -/
def execTimerSetup (h : ReqHdr) (timer : Nat) (f : TimerForm) (s : State) : Out :=
  .next (takeRequest h 0x38 (doTimerSetup timer f) s)

/-- TIMER_START (R174). -/
def execTimerStart (h : ReqHdr) (timer : Nat) (s : State) : Out := .next (takeRequest h 0x39 (doTimerStart timer) s)

/-- TIMER_STOP (R175). -/
def execTimerStop (h : ReqHdr) (timer : Nat) (s : State) : Out := .next (takeRequest h 0x3A (doTimerStop timer) s)

/-- TIMER_READ (R176). -/
def execTimerRead (h : ReqHdr) (timer : Nat) (clear : Bool) (s : State) : Out :=
  .next (takeRequest h 0x3B (doTimerRead timer clear) s)

end Sys2Proof.Machine
end

