-- ==== Sys2Proof/Machine/LaneRequests.lean ====
section
/-! DEFINITION. The lane and pair requests (R19 to R22, R58, R70 to R72) and their rows. -/

namespace Sys2Proof.Machine

/-! ### Codes (R17, R189) -/

/-- The code of a reason (R17). -/
def Reason.code : Reason → Nat
  | .none => 0
  | .noSignal => 1
  | .pipeAbsent => 2
  | .layoutBad => 3
  | .poolShort => 4
  | .linkDown => 5

/-- The code of a reference lane (R189). -/
def RefLane.code : RefLane → Nat
  | .none => 0
  | .primary => 1
  | .secondary => 2

/-- The code of a pair state (R189). -/
def PairState.code : PairState → Nat
  | .none => 0
  | .dual => 1
  | .singleP => 2
  | .singleS => 3

/-! ### Judging -/

/-- LANE SETUP (R19, R15). -/
def doLaneSetup (lane : Nat) (f : SetupForm) (s : State) : State × Answer :=
  match asLane lane with
  | none => (s, .now (.refused .noObject))
  | some l =>
    if (s.lane l).state ≠ .off then (s, .now (.refused .busy))
    else
      let r := clampSetup f
      if setupOk r then
        (s.modLane l (fun c => { c with setup := r }), .now (.clampedIf (decide (r ≠ rawSetup f)) []))
      else (s, .now (.refused .badParam))

/-- A lane started (R20). -/
def Lane.start (c : Lane) : Lane := { c.toSearch 0 with reason := .none }

/-- LANE START (R20). -/
def doLaneStart (lane : Nat) (s : State) : State × Answer :=
  match asLane lane with
  | none => (s, .now (.refused .noObject))
  | some l =>
    if isSecondary s l then (s, .now (.refused .paired))
    else if (s.lane l).state ≠ .off then (s, .now (.refused .busy))
    else
      let s' := s.modLane l Lane.start
      (if paired s l then s'.modLane (partnerOf l) Lane.start else s', .now (.done []))

/-- The codeword in flight is marked if it is this lane's (R21 step 3, R111). -/
def markCodeword (l : LaneId) (s : State) : State :=
  match s.dec.inflight with
  | none => s
  | some cw =>
    if cw.owner = l then { s with dec := { s.dec with inflight := some { cw with marked := true } } } else s

/-- A stop of a lane that is not OFF, and of its pair (R21, R73). -/
def stopLane (l : LaneId) (s : State) : State :=
  let both := paired s l
  let s := dropRef l (markCodeword l (releasePath l false s))
  let s := s.modLane l Lane.toOff
  if both then s.modLane (partnerOf l) Lane.toOff else s

/-- LANE STOP (R21). -/
def doLaneStop (lane : Nat) (s : State) : State × Answer :=
  match asLane lane with
  | none => (s, .now (.refused .noObject))
  | some l =>
    if isSecondary s l then (s, .now (.refused .paired))
    else if (s.lane l).state = .off then (s, .now (.done []))
    else (stopLane l s, .now (.done []))

/-! ### LANE READ and PROFILE READ (R22, R70, R58) -/

/-- A setup record in the form of LANE SETUP (R189). -/
def setupBytes (r : Setup) : List Byte :=
  flagBytes 1 r.modeSet.toNat ++ flagBytes 1 r.guardSet.toNat ++ b1 r.sweepSpan ++ b1 r.sweepStep ++
    b1 r.searchLength ++ b1 r.pipeId ++ b2 r.holdoff ++ b1 r.k ++ b2 r.tg ++ b2 r.tf ++ b2 r.tp ++ b1 r.gradeHyst ++
    b1 r.windowHyst ++ b2 r.floorF ++ b1 r.smoothA ++ b1 r.retireAge ++ b1 r.impulseJ ++ b1 r.maxBudget

/-- The nine counters in the order of R41 (R22). -/
def counterBytes (c : LaneCounters) : List Byte :=
  b4 c.symbols ++ b4 c.frames ++ b4 c.blanked ++ b4 c.clean ++ b4 c.corrected ++ b4 c.failed ++ b4 c.dropped ++
    b4 c.emitted ++ b2 c.wraps

/-- The candidate mode and guard, in MODE, SYNC, LOCK and FADE (R22). -/
def candidateItem (c : Lane) : Option (List Byte) :=
  match c.state, c.candidate with
  | .off, _ => none
  | .search, _ => none
  | _, some k => some (b1 (modeNum k.mode) ++ b1 (guardCode k.guard))
  | _, none => none

/-- The layout version and last frame counter, in LOCK and FADE (R22). -/
def layoutItem (c : Lane) : Option (List Byte) :=
  match c.state, c.layout with
  | .lock, some y => some (b1 y.version ++ b1 y.lastFrame)
  | .fade, some y => some (b1 y.version ++ b1 y.lastFrame)
  | _, _ => none

/-- The code of a grade (R189). -/
def gradeCode (g : Grade) : Nat := gradeRank g

/-- The contents of a LANE READ reply: the items of R22, then those of R70 (log 24). -/
def laneReadBytes (s : State) (l : LaneId) : List Byte :=
  let c := s.lane l
  let isP := paired s l && isPrimary l
  let pr := s.pairAt (pairOf l)
  b1 c.state.code ++ b1 c.reason.code ++ bBool s.links[l] ++ bInt 1 c.sweepPos ++ bOpt 2 (candidateItem c) ++
    bOpt 2 (layoutItem c) ++ bBool (paired s l) ++ bBool isP ++ setupBytes c.setup ++ counterBytes c.counters ++
    bOpt 2 (c.quality.q.map b2) ++ b1 (gradeCode c.quality.grade) ++ bOpt 2 (c.quality.lastMer.map b2) ++
    bOpt 4 (c.quality.noise.map b4) ++ b1 (if isP then pr.ref.code else 0) ++ b1 (if isP then pr.pstate.code else 0)

/-- LANE READ (R22, R70). -/
def doLaneRead (lane : Nat) (clear : Bool) (s : State) : State × Answer :=
  match asLane lane with
  | none => (s, .now (.refused .noObject))
  | some l =>
    (if clear then s.modLane l (fun c => { c with counters := LaneCounters.zero }) else s,
      .now (.done (laneReadBytes s l)))

/-- The pilot pattern in force and the limits of its detection window (R58): in LOCK and FADE. -/
def patternItem (c : Lane) : Option (List Byte) :=
  match c.state, c.candidate, c.layout with
  | .lock, some k, some y =>
    some (b1 (patternCode y.pattern) ++ bInt 2 (windowLow k.mode y.pattern) ++ bInt 2 (windowHigh k.mode y.pattern))
  | .fade, some k, some y =>
    some (b1 (patternCode y.pattern) ++ bInt 2 (windowLow k.mode y.pattern) ++ bInt 2 (windowHigh k.mode y.pattern))
  | _, _, _ => none

/-- One echo record of a PROFILE READ reply. -/
def echoBytes (e : Echo) : List Byte := bInt 2 e.delay ++ b2 e.power ++ b1 e.age

/-- The contents of a PROFILE READ reply (R58; log 24). -/
def profileBytes (c : Lane) : List Byte :=
  b1 c.state.code ++ b1 c.profile.length ++ c.profile.flatMap echoBytes ++ bInt 2 c.w ++ bInt 4 c.offset ++
    bBool c.openPl ++ bOpt 5 (patternItem c)

/-- PROFILE READ (R58). -/
def doProfileRead (lane : Nat) (s : State) : State × Answer :=
  match asLane lane with
  | none => (s, .now (.refused .noObject))
  | some l => (s, .now (.done (profileBytes (s.lane l))))

/-! ### PAIR and UNPAIR (R71, R72) -/

/-- A pair just formed (R71). -/
def Pair.fresh : Pair := { Pair.reset with formed := true }

/-- PAIR (R71). -/
def doPair (p : Nat) (s : State) : State × Answer :=
  match asPair p with
  | none => (s, .now (.refused .noObject))
  | some p =>
    if (s.lane (primaryOf p)).state ≠ .off ∨ (s.lane (secondaryOf p)).state ≠ .off then (s, .now (.refused .busy))
    else if (s.pairAt p).formed then (s, .now (.done []))
    else (s.setPair p Pair.fresh, .now (.done []))

/-- The data path's layout becomes the primary's: version and pipe parameters (R72 step 1). The first cell index stays the
primary's own; where its last record did not carry the pair's pipe it has none, and 0 is put there, which nothing reads before
its next VALID preamble (DESIGN CHOICE, log 49). -/
def adoptPathLayout (z : PathLayout) (c : Lane) : Lane :=
  { c with layout := c.layout.map (fun y =>
      { y with
        version := z.version
        pipe := some ⟨z.params, match y.pipe with | some x => x.first | none => 0⟩ }) }

/-- The data path at an UNPAIR (R72 steps 1 and 2): it becomes the primary's own as it stands, with the symbols that wait
(R95: the ready list is unchanged; log 21), or is released. -/
def unpairPath (p : PairId) (s : State) : State :=
  let l := primaryOf p
  if inLockOrFade s l then
    let s := match (s.pairAt p).layout with
      | some z => s.modLane l (adoptPathLayout z)
      | none => s
    if (s.pairAt p).ref = .secondary then abandonGroup l s else s
  else releasePath l true s

/-- A pair just dissolved (R72 step 4): the symbols that wait are the primary's (log 21). -/
def Pair.dissolved (x : Pair) : Pair := { Pair.reset with waiting := x.waiting }

/-- UNPAIR of a formed pair (R72). -/
def unpairNow (p : PairId) (s : State) : State :=
  let s := unpairPath p s
  let s := if (s.lane (secondaryOf p)).state ≠ .off then s.modLane (secondaryOf p) (fun c => c.toSearch 0) else s
  let s := setPairState p .none s
  s.modPair p Pair.dissolved

/-- UNPAIR (R72). -/
def doUnpair (p : Nat) (s : State) : State × Answer :=
  match asPair p with
  | none => (s, .now (.refused .noObject))
  | some p => if (s.pairAt p).formed then (unpairNow p s, .now (.done [])) else (s, .now (.done []))

/-! ### The rows -/

/-- LANE_SETUP (R19, R15). -/
def execLaneSetup (h : ReqHdr) (lane : Nat) (f : SetupForm) (s : State) : Out :=
  .next (takeRequest h 0x10 (doLaneSetup lane f) s)

/-- LANE_START (R20). -/
def execLaneStart (h : ReqHdr) (lane : Nat) (s : State) : Out := .next (takeRequest h 0x11 (doLaneStart lane) s)

/-- LANE_STOP (R21). -/
def execLaneStop (h : ReqHdr) (lane : Nat) (s : State) : Out := .next (takeRequest h 0x12 (doLaneStop lane) s)

/-- LANE_READ (R22, R70). -/
def execLaneRead (h : ReqHdr) (lane : Nat) (clear : Bool) (s : State) : Out :=
  .next (takeRequest h 0x13 (doLaneRead lane clear) s)

/-- PROFILE_READ (R58). -/
def execProfileRead (h : ReqHdr) (lane : Nat) (s : State) : Out := .next (takeRequest h 0x14 (doProfileRead lane) s)

/-- PAIR (R71). -/
def execPair (h : ReqHdr) (p : Nat) (s : State) : Out := .next (takeRequest h 0x15 (doPair p) s)

/-- UNPAIR (R72). -/
def execUnpair (h : ReqHdr) (p : Nat) (s : State) : Out := .next (takeRequest h 0x16 (doUnpair p) s)

end Sys2Proof.Machine
end

