-- ==== Sys2Proof/Machine/MapRequests.lean ====
section
/-! DEFINITION. The rows of the map and origin requests; their judging is in Machine/StreamMap.lean. MAP EDIT is one
request of code 22h whose operation names one of three rows. -/

namespace Sys2Proof.Machine

/-- MAP_LOAD (R131 to R134). -/
def execMapLoad (h : ReqHdr) (g : SegmentForm) (s : State) : Out := .next (takeRequest h 0x20 (doMapLoad g) s)

/-- MAP_ABORT (R135). -/
def execMapAbort (h : ReqHdr) (s : State) : Out := .next (takeRequest h 0x21 doMapAbort s)

/-- MAP_EDIT_ADD (R128). -/
def execMapEditAdd (h : ReqHdr) (e : EntryForm) (s : State) : Out := .next (takeRequest h 0x22 (doMapEditAdd e) s)

/-- MAP_EDIT_REPLACE (R129). -/
def execMapEditReplace (h : ReqHdr) (e : EntryForm) (s : State) : Out :=
  .next (takeRequest h 0x22 (doMapEditReplace e) s)

/-- MAP_EDIT_REMOVE (R129). -/
def execMapEditRemove (h : ReqHdr) (e : EntryForm) (s : State) : Out :=
  .next (takeRequest h 0x22 (doMapEditRemove e) s)

/-- MAP_READ (R130). -/
def execMapRead (h : ReqHdr) (first count : Nat) (clear : Bool) (s : State) : Out :=
  .next (takeRequest h 0x23 (doMapRead first count clear) s)

/-- MAP_INVALIDATE (R127). -/
def execMapInvalidate (h : ReqHdr) (granularity origin id m : Nat) (s : State) : Out :=
  .next (takeRequest h 0x24 (doMapInvalidate granularity origin id m) s)

/-- ORIGIN_SETUP (R117). -/
def execOriginSetup (h : ReqHdr) (origin : Nat) (f : OriginForm) (s : State) : Out :=
  .next (takeRequest h 0x25 (doOriginSetup origin f) s)

/-- ORIGIN_READ (R118). -/
def execOriginRead (h : ReqHdr) (s : State) : Out := .next (takeRequest h 0x26 doOriginRead s)

end Sys2Proof.Machine
end

