-- ==== Sys2Proof/Machine/PartRequests.lean ====
section
/-! DEFINITION. The part, event and fault requests (R194 to R196, R201, R202, R204), the two resets (R42, R46, R65, R81,
R98, R115, R136, R154, R164, R177, R193, R205), and their rows. -/

namespace Sys2Proof.Machine

/-! ### IDENT and PART SETUP (R194, R195) -/

/-- The contents of an IDENT reply (R194). -/
def identBytes (s : State) : List Byte :=
  b1 4 ++ b1 1 ++ b1 s.mgmt.addr ++ b2 s.mgmt.id ++ bBool s.mgmt.notices ++
    allLanes.flatMap (fun l => b1 (s.lane l).state.code ++ b1 (s.lane l).reason.code)

/-- IDENT (R194). -/
def doIdent (s : State) : State × Answer := (s, .now (.done (identBytes s)))

/-- PART SETUP (R195). -/
def doPartSetup (id : Nat) (notices : Bool) (s : State) : State × Answer :=
  if 8190 < id then (s, .now (.refused .badParam))
  else if idInUse s.smap.slots id then (s, .now (.refused .conflict))
  else ({ s with mgmt := { s.mgmt with id := id, notices := notices } }, .now (.done []))

/-! ### Resets -/

/-- The state after a power-up reset with the address pins at a level: the values of `State.reset`; the inputs keep
their levels (R2, R142), page contents are not cleared (R98), and the queue is not the part's. -/
def powerUp (straps : BitVec 5) (s : State) : State :=
  { State.reset with
    straps := straps, mgmt := Mgmt.reset straps, links := s.links, co := ChainOut.reset s.co.held
    pool := { Pool.reset with cells := s.pool.cells }, pending := s.pending }

/-- The event unit after a soft reset: the flag of a condition follows it, and is not pending (R205). -/
def softEvents (overflow : Bool) : EventUnit := if overflow then raiseIn EventUnit.reset 1 else EventUnit.reset

/-- The state after the soft reset (R196): fault log, system time, inputs, page contents and the packets on the wires are
kept (R1, R98, R154, R205). -/
def softReset (s : State) : State :=
  { State.reset with
    time := s.time, links := s.links, straps := s.straps, log := s.log
    co := ChainOut.reset s.co.held, pool := { Pool.reset with cells := s.pool.cells }
    ports := #v[Port.reset s.time 675 (s.port 0).wire, Port.reset s.time 1080 (s.port 1).wire,
      Port.reset s.time 1080 (s.port 2).wire]
    mgmt := Mgmt.reset s.straps, ev := softEvents s.log.overflow, pending := s.pending }

/-- PART RESET (R196): the reset, its reply, and then the packet passed on. -/
def answerPartReset (h : ReqHdr) (s : State) : State :=
  relayFirst h (sendReply h.tag 0x03 (.done []) (softReset s))

/-! ### Event requests (R201, R202) -/

/-- EVENT ENABLE (R201). -/
def doEventEnable (enables : BitVec 51) (s : State) : State × Answer :=
  let e := s.ev
  let joined := e.flags &&& enables &&& ~~~e.enables
  ({ s with ev := { e with enables := enables, pending := (e.pending &&& enables) ||| joined } }, .now (.done []))

/-- EVENT READ (R202). -/
def doEventRead (s : State) : State × Answer :=
  (s, .now (.done (flagBytes 7 s.ev.flags.toNat ++ flagBytes 7 s.ev.enables.toNat ++ flagBytes 7 s.ev.pending.toNat ++
    bBool s.ev.outstanding)))

/-- The event unit after the named latched flags are made low (R202). -/
def clearLatched (named : BitVec 51) (e : EventUnit) : EventUnit :=
  let gone := named &&& ~~~conditionEvents
  { e with flags := e.flags &&& ~~~gone, pending := e.pending &&& ~~~gone }

/-- EVENT CLEAR (R202). -/
def doEventClear (named : BitVec 51) (s : State) : State × Answer :=
  let e := clearLatched named s.ev
  ({ s with ev := e }, .now (.done (flagBytes 7 e.flags.toNat)))

/-! ### Fault requests (R204) -/

/-- The bytes of a fault record (R203, R204). -/
def faultBytes (r : FaultRecord) : List Byte :=
  b1 r.source ++ b1 r.reason ++ b2 r.info ++ b1 r.count ++ b6 r.first ++ b6 r.last

/-- FAULT READ (R204). -/
def doFaultRead (s : State) : State × Answer :=
  (s, .now (.done (b1 s.log.records.length ++ s.log.records.flatMap faultBytes ++ bBool s.log.overflow)))

/-- The records that stay, from place `k` on (R204). -/
def keepRecords (all : Bool) (places : BitVec 8) : Nat → List FaultRecord → List FaultRecord
  | _, [] => []
  | k, r :: rs =>
    if all || places.getLsbD k then keepRecords all places (k + 1) rs else r :: keepRecords all places (k + 1) rs

/-- FAULT CLEAR (R204). -/
def doFaultClear (all : Bool) (places : BitVec 8) (s : State) : State × Answer :=
  let kept := keepRecords all places 0 s.log.records
  (setCondition 1 false { s with log := ⟨kept, false⟩ }, .now (.done (b1 (s.log.records.length - kept.length))))

/-! ### The rows -/

/-- POWER_UP_RESET (R42). -/
def execPowerUpReset (straps : BitVec 5) (s : State) : Out := .next (powerUp straps s)

/-- IDENT (R194). -/
def execIdent (h : ReqHdr) (s : State) : Out := .next (takeRequest h 0x01 doIdent s)

/-- PART_SETUP (R195). -/
def execPartSetup (h : ReqHdr) (id : Nat) (notices : Bool) (s : State) : Out :=
  .next (takeRequest h 0x02 (doPartSetup id notices) s)

/-- PART_RESET (R196). -/
def execPartReset (h : ReqHdr) (s : State) : Out := .next (afterEvent (answerPartReset h s))

/-- EVENT_ENABLE (R201). -/
def execEventEnable (h : ReqHdr) (enables : BitVec 51) (s : State) : Out :=
  .next (takeRequest h 0x40 (doEventEnable enables) s)

/-- EVENT_READ (R202). -/
def execEventRead (h : ReqHdr) (s : State) : Out := .next (takeRequest h 0x41 doEventRead s)

/-- EVENT_CLEAR (R202). -/
def execEventClear (h : ReqHdr) (named : BitVec 51) (s : State) : Out :=
  .next (takeRequest h 0x42 (doEventClear named) s)

/-- FAULT_READ (R204). -/
def execFaultRead (h : ReqHdr) (s : State) : Out := .next (takeRequest h 0x44 doFaultRead s)

/-- FAULT_CLEAR (R204). -/
def execFaultClear (h : ReqHdr) (all : Bool) (places : BitVec 8) (s : State) : Out :=
  .next (takeRequest h 0x45 (doFaultClear all places) s)

end Sys2Proof.Machine
end

