-- ==== Sys2Proof/Machine/PoolRequests.lean ====
section
/-! DEFINITION. The pool and decoder requests (R86, R97, R113, R114) and their rows. -/

namespace Sys2Proof.Machine

/-! ### POOL SETUP (R86) -/

/-- The reservations after step 1 of R86. -/
def clampReservations (r0 r1 r2 r3 : Nat) : Vector Nat 4 := #v[min r0 1024, min r1 1024, min r2 1024, min r3 1024]

/-- Whether step 1 of R86 changed a value. -/
def reservationsClamped (r0 r1 r2 r3 : Nat) : Bool :=
  decide (1024 < r0) || decide (1024 < r1) || decide (1024 < r2) || decide (1024 < r3)

/-- POOL SETUP (R86). -/
def doPoolSetup (r0 r1 r2 r3 : Nat) (s : State) : State × Answer :=
  let v := clampReservations r0 r1 r2 r3
  let pool : Pool := { s.pool with reserved := v }
  if 1024 < v[0] + v[1] + v[2] + v[3] then (s, .now (.refused .capacity))
  else if pool.freeCount < pool.unmetSum then (s, .now (.refused .capacity))
  else ({ s with pool := pool }, .now (.clampedIf (reservationsClamped r0 r1 r2 r3) []))

/-! ### POOL READ (R97) -/

/-- A page run: its first page, its number of pages and its owner (R97). -/
structure PageRun where
  first : Nat
  pages : Nat
  owner : LaneId
  deriving DecidableEq, Repr

/-- The page runs of a map from page number `k` on (R97): a page joins the run after it if that begins at the next
page with the same owner. -/
def runsFrom : Nat → List (Option LaneId) → List PageRun
  | _, [] => []
  | k, none :: m => runsFrom (k + 1) m
  | k, some l :: m =>
    match runsFrom (k + 1) m with
    | [] => [⟨k, 1, l⟩]
    | r :: rs => if r.first = k + 1 ∧ r.owner = l then ⟨k, r.pages + 1, l⟩ :: rs else ⟨k, 1, l⟩ :: r :: rs

/-- The bytes of a run. -/
def runBytes (r : PageRun) : List Byte := b2 r.first ++ b2 r.pages ++ b1 r.owner.val

/-- A lane's holdings in a POOL READ reply. -/
def holdingBytes (s : State) (l : LaneId) : List Byte :=
  b2 (s.pool.owned l) ++ b2 s.pool.reserved[l] ++ b2 (s.lane l).ready.length

/-- The contents of a POOL READ reply (R97). -/
def poolReadBytes (s : State) (start : Nat) : List Byte :=
  let runs := runsFrom start (s.pool.pageMap.drop start)
  b2 s.pool.freeCount ++ allLanes.flatMap (holdingBytes s) ++ b1 (min 29 runs.length) ++
    (runs.take 29).flatMap runBytes ++ bBool (decide (29 < runs.length))

/-- POOL READ (R97). -/
def doPoolRead (start : Nat) (s : State) : State × Answer :=
  if 1023 < start then (s, .now (.refused .badParam)) else (s, .now (.done (poolReadBytes s start)))

/-! ### DECODER SETUP and DECODER READ (R113, R114) -/

/-- The marks after steps 2 and 3, given the clamped high mark (R113). -/
def lowMarkBelow (high low : Nat) : Nat := if high ≤ low then high - 1 else low

/-- DECODER SETUP (R113). -/
def doDecoderSetup (high low : Nat) (s : State) : State × Answer :=
  let hi := clamp 2 1023 high
  let lo := lowMarkBelow hi (clamp 0 1022 low)
  (judgeCongestion { s with dec := { s.dec with high := hi, low := lo } },
    .now (.clampedIf (decide (hi ≠ high ∨ lo ≠ low)) []))

/-- The codeword in flight as DECODER READ gives it; zeros when the decoder is idle (R114, R189). -/
def inflightBytes (d : Decoder) : List Byte :=
  match d.inflight with
  | none => bBool false ++ List.replicate 16 0
  | some cw =>
    bBool true ++ b1 cw.owner.val ++ b1 (match cw.half with | .a => 0 | .b => 1) ++ b2 cw.k ++ b1 cw.con ++ b1 cw.rate ++
      b1 (gradeRank cw.grade) ++ bBool cw.congested ++ b1 cw.budget ++ bBool cw.marked ++ b6 cw.takeTime

/-- A lane's part of a DECODER READ reply (R114, R110). -/
def statBytes (s : State) (l : LaneId) : List Byte :=
  let st := s.dec.stats[l]
  b2 (s.lane l).ready.length ++ b4 st.count ++ b4 st.iterations ++ bOpt 2 ((averageIterations st).map b2)

/-- The contents of a DECODER READ reply (R114). -/
def decoderReadBytes (s : State) : List Byte :=
  bBool s.dec.congested ++ b2 (readyTotal s) ++ b2 s.dec.high ++ b2 s.dec.low ++ b1 s.dec.pointer.val ++
    inflightBytes s.dec ++ allLanes.flatMap (statBytes s)

/-- DECODER READ (R114). -/
def doDecoderRead (clear : Bool) (s : State) : State × Answer :=
  (if clear then { s with dec := { s.dec with stats := Vector.replicate 4 ⟨0, 0⟩ } } else s,
    .now (.done (decoderReadBytes s)))

/-! ### The rows -/

/-- POOL_SETUP (R86). -/
def execPoolSetup (h : ReqHdr) (r0 r1 r2 r3 : Nat) (s : State) : Out :=
  .next (takeRequest h 0x18 (doPoolSetup r0 r1 r2 r3) s)

/-- POOL_READ (R97). -/
def execPoolRead (h : ReqHdr) (start : Nat) (s : State) : Out := .next (takeRequest h 0x19 (doPoolRead start) s)

/-- DECODER_SETUP (R113). -/
def execDecoderSetup (h : ReqHdr) (high low : Nat) (s : State) : Out :=
  .next (takeRequest h 0x1A (doDecoderSetup high low) s)

/-- DECODER_READ (R114). -/
def execDecoderRead (h : ReqHdr) (clear : Bool) (s : State) : Out :=
  .next (takeRequest h 0x1B (doDecoderRead clear) s)

end Sys2Proof.Machine
end

