-- ==== Sys2Proof/Machine/PortRequests.lean ====
section
/-! DEFINITION. The port requests (R146 to R150) and their rows. -/

namespace Sys2Proof.Machine

/-- PORT STOP (R146): deferred from RUNNING. -/
def doPortStop (port tag : Nat) (s : State) : State × Answer :=
  match asPort port with
  | none => (s, .now (.refused .noObject))
  | some p =>
    match (s.port p).pstate with
    | .running => (s.modPort p (fun q => { q with pstate := .stopping, pendingStop := some tag }), .later)
    | .stopping => (s, .now (.refused .busy))
    | .stopped => (s, .now (.done []))

/-- The answer to an overtaken PORT STOP (R147, R190). -/
def answerOvertaken (stop : Option Nat) (s : State) : State :=
  match stop with
  | none => s
  | some tag => sendReply tag 0x29 (.refused .busy) s

/-- PORT START (R147). -/
def doPortStart (port : Nat) (s : State) : State × Answer :=
  match asPort port with
  | none => (s, .now (.refused .noObject))
  | some p =>
    match (s.port p).pstate with
    | .running => (s, .now (.done []))
    | .stopped => (s.modPort p (fun q => { q with pstate := .running }), .now (.done []))
    | .stopping =>
      (answerOvertaken (s.port p).pendingStop
        (s.modPort p (fun q => { q with pstate := .running, pendingStop := none })), .now (.done []))

/-- PORT FLUSH (R148). -/
def doPortFlush (port : Nat) (s : State) : State × Answer :=
  match asPort port with
  | none => (s, .now (.refused .noObject))
  | some p =>
    if (s.port p).pstate = .stopped then
      (judgeHoldAt p (s.modPort p (fun q => { q with q1 := [], q2 := [] })),
        .now (.done (b1 (s.port p).streamDepth)))
    else (s, .now (.refused .notStopped))

/-- The hold low mark of R149 step 2, given the clamped high mark. -/
def holdLowMark (high low : Nat) : Nat := if high ≤ clamp 0 87 low then high - 1 else clamp 0 87 low

/-- PORT SETUP (R149). -/
def doPortSetup (port interval high low limit : Nat) (s : State) : State × Answer :=
  match asPort port with
  | none => (s, .now (.refused .noObject))
  | some p =>
    let i := clamp 500 65535 interval
    let s := s.modPort p (fun q => { q with interval := i })
    if p = portCO then
      let hi := clamp 1 88 high
      let lo := holdLowMark hi low
      let lim := clamp 1 255 limit
      (judgeHold { s with co := { s.co with high := hi, low := lo, limit := lim } },
        .now (.clampedIf (decide (i ≠ interval ∨ hi ≠ high ∨ lo ≠ low ∨ lim ≠ limit)) []))
    else (s, .now (.clampedIf (decide (i ≠ interval)) []))

/-- The code of a port state (R145). -/
def PortState.code : PortState → Nat
  | .running => 0
  | .stopping => 1
  | .stopped => 2

/-- The code of a hold state (R189). -/
def HoldState.code : HoldState → Nat
  | .idle => 0
  | .holding => 1
  | .paused => 2

/-- What a PORT READ reply carries for every port (R150). -/
def portBytes (q : Port) : List Byte :=
  b1 q.pstate.code ++ bBool q.pendingStop.isSome ++ b2 q.interval ++ b1 q.q0.length ++ b1 q.q1.length ++
    b1 q.q2.length ++ b4 q.drop0 ++ b4 q.drop1 ++ b4 q.drop2 ++ b4 q.skipped

/-- What a PORT READ reply carries for CO besides (R150; log 24). -/
def coBytes (s : State) : List Byte :=
  b4 s.co.heldSlots ++ bBool s.co.held ++ b1 s.co.high ++ b1 s.co.low ++ b1 s.co.limit ++ b1 s.co.hold.code ++
    b1 s.co.holdCount ++ bBool s.ci.up

/-- The counts of a port set to 0 (R150). -/
def clearPortCounts (p : PortId) (s : State) : State :=
  let s := s.modPort p (fun q => { q with drop0 := 0, drop1 := 0, drop2 := 0, skipped := 0 })
  if p = portCO then { s with co := { s.co with heldSlots := 0 } } else s

/-- PORT READ (R150). -/
def doPortRead (port : Nat) (clear : Bool) (s : State) : State × Answer :=
  match asPort port with
  | none => (s, .now (.refused .noObject))
  | some p =>
    (if clear then clearPortCounts p s else s,
      .now (.done (portBytes (s.port p) ++ (if p = portCO then coBytes s else []))))

/-! ### The rows -/

/-- PORT_SETUP (R149). -/
def execPortSetup (h : ReqHdr) (port interval high low limit : Nat) (s : State) : Out :=
  .next (takeRequest h 0x28 (doPortSetup port interval high low limit) s)

/-- PORT_STOP (R146). -/
def execPortStop (h : ReqHdr) (port : Nat) (s : State) : Out := .next (takeRequest h 0x29 (doPortStop port h.tag) s)

/-- PORT_START (R147). -/
def execPortStart (h : ReqHdr) (port : Nat) (s : State) : Out := .next (takeRequest h 0x2A (doPortStart port) s)

/-- PORT_FLUSH (R148). -/
def execPortFlush (h : ReqHdr) (port : Nat) (s : State) : Out := .next (takeRequest h 0x2B (doPortFlush port) s)

/-- PORT_READ (R150). -/
def execPortRead (h : ReqHdr) (port : Nat) (clear : Bool) (s : State) : Out :=
  .next (takeRequest h 0x2C (doPortRead port clear) s)

end Sys2Proof.Machine
end

