-- ==== Sys2Proof/Machine/Wire.lean ====
section
/-! DEFINITION. The chain input (R151, R152) and the chain management unit (R186 to R188): the framing of units, the
sorting of management arrivals, and the reading of request parameters by the dictionary of 11.5. -/

namespace Sys2Proof.Machine

/-! ### Reading parameters (R178, R183, 11.5) -/

/-- A one-byte number at a place. -/
def num1 (ps : List Byte) (i : Nat) : Nat := (byteAt ps i).toNat
/-- A two-byte number at a place. -/
def num2 (ps : List Byte) (i : Nat) : Nat := beNat (bytesAt ps i 2)
/-- A yes-no parameter at a place. -/
def flag1 (ps : List Byte) (i : Nat) : Bool := yesNo (byteAt ps i)
/-- A flag set of `k` bytes at a place. -/
def flagSet (ps : List Byte) (i k : Nat) : Nat := leNat (bytesAt ps i k)

/-- A LANE SETUP record after the lane. -/
def readSetup (ps : List Byte) : SetupForm where
  modeSet := BitVec.ofNat 4 (num1 ps 1)
  guardSet := BitVec.ofNat 4 (num1 ps 2)
  sweepSpan := num1 ps 3
  sweepStep := num1 ps 4
  searchLength := num1 ps 5
  pipeId := num1 ps 6
  holdoff := num2 ps 7
  k := num1 ps 9
  tg := num2 ps 10
  tf := num2 ps 12
  tp := num2 ps 14
  gradeHyst := num1 ps 16
  windowHyst := num1 ps 17
  floorF := num2 ps 18
  smoothA := num1 ps 20
  retireAge := num1 ps 21
  impulseJ := num1 ps 22
  maxBudget := num1 ps 23

/-- A map entry at a place (R183). -/
def readEntry (ps : List Byte) (i : Nat) : EntryForm where
  origin := num1 ps i
  inId := num2 ps (i + 1)
  action := num1 ps (i + 3) % 4
  cls := num1 ps (i + 3) / 4 % 4
  restamp := (byteAt ps (i + 3)).getLsbD 4
  outId := num2 ps (i + 4)
  dests := byteAt ps (i + 6)

/-- A MAP LOAD segment (R183). -/
def readSegment (ps : List Byte) : SegmentForm where
  tag := num1 ps 0
  first := (byteAt ps 1).getLsbD 0
  last := (byteAt ps 1).getLsbD 1
  total := num2 ps 2
  offset := num2 ps 4
  count := num1 ps 6
  entries := (List.range (num1 ps 6)).map (fun i => readEntry ps (7 + 8 * i))

/-- An ORIGIN SETUP record after the origin. -/
def readOrigin (ps : List Byte) : OriginForm :=
  ⟨num1 ps 1, byteAt ps 2, num1 ps 3, flag1 ps 4, BitVec.ofNat 64 (flagSet ps 5 8)⟩

/-- A MONITOR SETUP record after the monitor. -/
def readMonitor (ps : List Byte) : MonitorForm where
  enabled := flag1 ps 1
  origin := num1 ps 2
  id := num2 ps 3
  startOnly := flag1 ps 5
  offset := num1 ps 6
  mask := BitVec.ofNat 64 (flagSet ps 7 8)
  kind := num1 ps 15
  expected := num2 ps 16
  once := flag1 ps 18
  arm := flag1 ps 19

/-- A kind byte and an index byte at a place. -/
def readPair (ps : List Byte) (i : Nat) : KindIndex := ⟨num1 ps i, num1 ps (i + 1)⟩

/-- A TIMER SETUP record after the timer. -/
def readTimer (ps : List Byte) : TimerForm :=
  ⟨num1 ps 1, num1 ps 2, num2 ps 3, readPair ps 5, readPair ps 7, readPair ps 9⟩

/-- An operation of MAP EDIT other than the three (R128): BUSY while a load is open, else BAD_PARAM. -/
def doMapEditUnknown (s : State) : State × Answer :=
  (s, .now (.refused (if s.smap.staging.isSome then .busy else .badParam)))

/-- MAP EDIT by its operation (11.5). -/
def judgeMapEdit (ps : List Byte) (s : State) : State × Answer :=
  match num1 ps 0 with
  | 0 => doMapEditAdd (readEntry ps 1) s
  | 1 => doMapEditReplace (readEntry ps 1) s
  | 2 => doMapEditRemove (readEntry ps 1) s
  | _ => doMapEditUnknown s

/-- MAP LOAD by its parameter length (R131, R188 step 2). -/
def judgeMapLoad (len : Nat) (ps : List Byte) (s : State) : State × Answer :=
  if 7 ≤ len ∧ len = 7 + 8 * num1 ps 6 then doMapLoad (readSegment ps) s else failLoad 9 .badParam s

/-! ### The request dictionary (11.5) -/

/-- The parameter length of each request but MAP LOAD; none for a code that is not listed (11.5). -/
def paramLength (code : Nat) : Option Nat :=
  match code with
  | 0x01 => some 0
  | 0x02 => some 3
  | 0x03 => some 0
  | 0x10 => some 24
  | 0x11 => some 1
  | 0x12 => some 1
  | 0x13 => some 2
  | 0x14 => some 1
  | 0x15 => some 1
  | 0x16 => some 1
  | 0x18 => some 8
  | 0x19 => some 2
  | 0x1A => some 4
  | 0x1B => some 1
  | 0x21 => some 0
  | 0x22 => some 9
  | 0x23 => some 4
  | 0x24 => some 5
  | 0x25 => some 13
  | 0x26 => some 0
  | 0x28 => some 6
  | 0x29 => some 1
  | 0x2A => some 1
  | 0x2B => some 1
  | 0x2C => some 2
  | 0x30 => some 20
  | 0x31 => some 1
  | 0x32 => some 3
  | 0x38 => some 11
  | 0x39 => some 1
  | 0x3A => some 1
  | 0x3B => some 2
  | 0x40 => some 7
  | 0x41 => some 0
  | 0x42 => some 7
  | 0x44 => some 0
  | 0x45 => some 2
  | _ => none

/-- A request of a listed code and the right length, judged by its owning rule (R188 step 3). PART RESET and MAP LOAD are
taken apart. -/
def judgeParams (tag code : Nat) (ps : List Byte) (s : State) : State × Answer :=
  match code with
  | 0x01 => doIdent s
  | 0x02 => doPartSetup (num2 ps 0) (flag1 ps 2) s
  | 0x10 => doLaneSetup (num1 ps 0) (readSetup ps) s
  | 0x11 => doLaneStart (num1 ps 0) s
  | 0x12 => doLaneStop (num1 ps 0) s
  | 0x13 => doLaneRead (num1 ps 0) (flag1 ps 1) s
  | 0x14 => doProfileRead (num1 ps 0) s
  | 0x15 => doPair (num1 ps 0) s
  | 0x16 => doUnpair (num1 ps 0) s
  | 0x18 => doPoolSetup (num2 ps 0) (num2 ps 2) (num2 ps 4) (num2 ps 6) s
  | 0x19 => doPoolRead (num2 ps 0) s
  | 0x1A => doDecoderSetup (num2 ps 0) (num2 ps 2) s
  | 0x1B => doDecoderRead (flag1 ps 0) s
  | 0x21 => doMapAbort s
  | 0x22 => judgeMapEdit ps s
  | 0x23 => doMapRead (num2 ps 0) (num1 ps 2) (flag1 ps 3) s
  | 0x24 => doMapInvalidate (num1 ps 0) (num1 ps 1) (num2 ps 2) (num1 ps 4) s
  | 0x25 => doOriginSetup (num1 ps 0) (readOrigin ps) s
  | 0x26 => doOriginRead s
  | 0x28 => doPortSetup (num1 ps 0) (num2 ps 1) (num1 ps 3) (num1 ps 4) (num1 ps 5) s
  | 0x29 => doPortStop (num1 ps 0) tag s
  | 0x2A => doPortStart (num1 ps 0) s
  | 0x2B => doPortFlush (num1 ps 0) s
  | 0x2C => doPortRead (num1 ps 0) (flag1 ps 1) s
  | 0x30 => doMonitorSetup (num1 ps 0) (readMonitor ps) s
  | 0x31 => doMonitorArm (num1 ps 0) s
  | 0x32 => doMonitorRead (num1 ps 0) (num1 ps 1) (flag1 ps 2) s
  | 0x38 => doTimerSetup (num1 ps 0) (readTimer ps) s
  | 0x39 => doTimerStart (num1 ps 0) s
  | 0x3A => doTimerStop (num1 ps 0) s
  | 0x3B => doTimerRead (num1 ps 0) (flag1 ps 1) s
  | 0x40 => doEventEnable (BitVec.ofNat 51 (flagSet ps 0 7)) s
  | 0x41 => doEventRead s
  | 0x42 => doEventClear (BitVec.ofNat 51 (flagSet ps 0 7)) s
  | 0x44 => doFaultRead s
  | 0x45 => doFaultClear (flag1 ps 0) (byteAt ps 1) s
  | _ => (s, .now (.refused .unknown))

/-- The reply parameters of a request refused for its length: a refusal of MAP INVALIDATE gives the granularity NONE and
the number 0 (R127, R189). -/
def lengthRefusal (code : Nat) : Reply :=
  if code = 0x24 then ⟨.refused, RefuseReason.badParam.code, b1 0 ++ b1 0⟩ else .refused .badParam

/-- A request judged in the order of R188. -/
def judgeRequest (tag code len : Nat) (ps : List Byte) (s : State) : State × Answer :=
  if code = 0x20 then judgeMapLoad len ps s
  else
    match paramLength code with
    | none => (s, .now (.refused .unknown))
    | some n => if len = n then judgeParams tag code ps s else (s, .now (lengthRefusal code))

/-! ### Management arrivals (R186) -/

/-- A request is taken (R188, R190, R196). -/
def takeWireRequest (relay : Option Packet) (p : Packet) (s : State) : State :=
  let h : ReqHdr := ⟨mgmtTag p, relay⟩
  if mgmtCode p = 0x03 ∧ mgmtLen p = 0 then answerPartReset h s
  else answerRequest h (mgmtCode p) (judgeRequest (mgmtTag p) (mgmtCode p) (mgmtLen p) (mgmtParams p)) s

/-- A management arrival sorted by its kind and address (R186). -/
def mgmtArrival (p : Packet) (s : State) : State :=
  if pktError p = true ∨ pktAdapt p ≠ 1 ∨ mgmtKind p ≠ 1 then forward p s
  else if mgmtAddr p = 31 then takeWireRequest (some p) p s
  else if mgmtAddr p = s.mgmt.addr then takeWireRequest none p s
  else forward p s

/-! ### The chain input (R151, R152) -/

/-- A CI unit handed to the stream map (R121, R151). -/
def handUnit (u : Packet) (s : State) : State := if toManagement s 4 u then mgmtArrival u s else mapArrival 4 u s

/-- A PAUSED hold is renewed by any arriving unit (R152, R153; log 42). -/
def renewHold (s : State) : State :=
  if s.co.hold = .paused then { s with co := { s.co with hold := .holding, holdCount := 0 } } else s

/-- A unit judged for framing (R151). -/
def frameUnit (u : Packet) (s : State) : State :=
  let good := decide (byteAt u 0 = 0x47#8)
  if s.ci.up then
    if good then handUnit u { s with ci := ⟨true, 0⟩ }
    else if 3 ≤ s.ci.run + 1 then report srcCI .ciFramingLost (byteAt u 0).toNat { s with ci := ⟨false, 0⟩ }
    else { s with ci := ⟨true, s.ci.run + 1⟩ }
  else if good then
    if 5 ≤ s.ci.run + 1 then handUnit u { s with ci := ⟨true, 0⟩ } else { s with ci := ⟨false, s.ci.run + 1⟩ }
  else { s with ci := ⟨false, 0⟩ }

/-- CI_UNIT_ARRIVAL (R151). A PAUSED hold is renewed before the unit has any effect of its own (R152 gives no order; DESIGN
CHOICE, log 42). -/
def execCiUnitArrival (u : Packet) (s : State) : Out := .next (afterEvent (frameUnit u (renewHold s)))

end Sys2Proof.Machine
end

