-- ==== Sys2Proof/Machine/Dispatch.lean ====
section
/-! DEFINITION. One arm per command: each calls that command's meaning. -/

namespace Sys2Proof.Machine

def exec (i : Instr) (s : State) : Host.Outcome State Fault Refusal :=
  match i with
  | .powerUpReset straps => Sys2Proof.Machine.execPowerUpReset straps s
  | .linkDown lane => Sys2Proof.Machine.execLinkDown lane s
  | .linkUp lane => Sys2Proof.Machine.execLinkUp lane s
  | .sampleArrival lane re im rx => Sys2Proof.Machine.execSampleArrival lane re im rx s
  | .holdoffExpiry lane => Sys2Proof.Machine.execHoldoffExpiry lane s
  | .decodeCompletion result => Sys2Proof.Machine.execDecodeCompletion result s
  | .slotEvent port => Sys2Proof.Machine.execSlotEvent port s
  | .coHoldAssert => Sys2Proof.Machine.execCoHoldAssert s
  | .coHoldRelease => Sys2Proof.Machine.execCoHoldRelease s
  | .ciUnitArrival unit => Sys2Proof.Machine.execCiUnitArrival unit s
  | .timerExpiry timer => Sys2Proof.Machine.execTimerExpiry timer s
  | .ident h => Sys2Proof.Machine.execIdent h s
  | .partSetup h id notices => Sys2Proof.Machine.execPartSetup h id notices s
  | .partReset h => Sys2Proof.Machine.execPartReset h s
  | .laneSetup h lane f => Sys2Proof.Machine.execLaneSetup h lane f s
  | .laneStart h lane => Sys2Proof.Machine.execLaneStart h lane s
  | .laneStop h lane => Sys2Proof.Machine.execLaneStop h lane s
  | .laneRead h lane clear => Sys2Proof.Machine.execLaneRead h lane clear s
  | .profileRead h lane => Sys2Proof.Machine.execProfileRead h lane s
  | .pair h p => Sys2Proof.Machine.execPair h p s
  | .unpair h p => Sys2Proof.Machine.execUnpair h p s
  | .poolSetup h r0 r1 r2 r3 => Sys2Proof.Machine.execPoolSetup h r0 r1 r2 r3 s
  | .poolRead h start => Sys2Proof.Machine.execPoolRead h start s
  | .decoderSetup h high low => Sys2Proof.Machine.execDecoderSetup h high low s
  | .decoderRead h clear => Sys2Proof.Machine.execDecoderRead h clear s
  | .mapLoad h seg => Sys2Proof.Machine.execMapLoad h seg s
  | .mapAbort h => Sys2Proof.Machine.execMapAbort h s
  | .mapEditAdd h e => Sys2Proof.Machine.execMapEditAdd h e s
  | .mapEditReplace h e => Sys2Proof.Machine.execMapEditReplace h e s
  | .mapEditRemove h e => Sys2Proof.Machine.execMapEditRemove h e s
  | .mapRead h first count clear => Sys2Proof.Machine.execMapRead h first count clear s
  | .mapInvalidate h granularity origin id m => Sys2Proof.Machine.execMapInvalidate h granularity origin id m s
  | .originSetup h origin f => Sys2Proof.Machine.execOriginSetup h origin f s
  | .originRead h => Sys2Proof.Machine.execOriginRead h s
  | .portSetup h port interval high low limit => Sys2Proof.Machine.execPortSetup h port interval high low limit s
  | .portStop h port => Sys2Proof.Machine.execPortStop h port s
  | .portStart h port => Sys2Proof.Machine.execPortStart h port s
  | .portFlush h port => Sys2Proof.Machine.execPortFlush h port s
  | .portRead h port clear => Sys2Proof.Machine.execPortRead h port clear s
  | .monitorSetup h monitor f => Sys2Proof.Machine.execMonitorSetup h monitor f s
  | .monitorArm h monitor => Sys2Proof.Machine.execMonitorArm h monitor s
  | .monitorRead h monitor part clear => Sys2Proof.Machine.execMonitorRead h monitor part clear s
  | .timerSetup h timer f => Sys2Proof.Machine.execTimerSetup h timer f s
  | .timerStart h timer => Sys2Proof.Machine.execTimerStart h timer s
  | .timerStop h timer => Sys2Proof.Machine.execTimerStop h timer s
  | .timerRead h timer clear => Sys2Proof.Machine.execTimerRead h timer clear s
  | .eventEnable h enables => Sys2Proof.Machine.execEventEnable h enables s
  | .eventRead h => Sys2Proof.Machine.execEventRead h s
  | .eventClear h named => Sys2Proof.Machine.execEventClear h named s
  | .faultRead h => Sys2Proof.Machine.execFaultRead h s
  | .faultClear h all places => Sys2Proof.Machine.execFaultClear h all places s
  | .tick straps => Sys2Proof.Machine.execTick s straps

end Sys2Proof.Machine
end

