-- ==== Sys2Proof/Machine/Encode.lean ====
section
/-! DEFINITION. The request rows as bytes on the chain (R178, R181, R183, 11.5): the request code and the parameters of
each request command, and the packet that carries them. The reading of these bytes is in Machine/Wire.lean. -/

namespace Sys2Proof.Machine

/-- The 8 bytes of a map entry (R183). -/
def wireEntry (e : EntryForm) : List Byte :=
  b1 e.origin ++ b2 e.inId ++ b1 (e.action + 4 * e.cls + (if e.restamp then 16 else 0)) ++ b2 e.outId ++ [e.dests] ++ b1 0

/-- The parameters of LANE SETUP after the lane (11.5). -/
def wireSetup (f : SetupForm) : List Byte :=
  flagBytes 1 f.modeSet.toNat ++ flagBytes 1 f.guardSet.toNat ++ b1 f.sweepSpan ++ b1 f.sweepStep ++ b1 f.searchLength ++
    b1 f.pipeId ++ b2 f.holdoff ++ b1 f.k ++ b2 f.tg ++ b2 f.tf ++ b2 f.tp ++ b1 f.gradeHyst ++ b1 f.windowHyst ++
    b2 f.floorF ++ b1 f.smoothA ++ b1 f.retireAge ++ b1 f.impulseJ ++ b1 f.maxBudget

/-- A MAP LOAD segment (R183). -/
def wireSegment (g : SegmentForm) : List Byte :=
  b1 g.tag ++ b1 ((if g.first then 1 else 0) + (if g.last then 2 else 0)) ++ b2 g.total ++ b2 g.offset ++ b1 g.count ++
    g.entries.flatMap wireEntry

/-- The parameters of ORIGIN SETUP after the origin (11.5). -/
def wireOrigin (f : OriginForm) : List Byte :=
  b1 f.mode ++ [f.dests] ++ b1 f.cls ++ bBool f.forwardErrored ++ flagBytes 8 f.hash.toNat

/-- The parameters of MONITOR SETUP after the monitor (11.5). -/
def wireMonitor (f : MonitorForm) : List Byte :=
  bBool f.enabled ++ b1 f.origin ++ b2 f.id ++ bBool f.startOnly ++ b1 f.offset ++ flagBytes 8 f.mask.toNat ++ b1 f.kind ++
    b2 f.expected ++ bBool f.once ++ bBool f.arm

/-- A kind byte and an index byte (11.5). -/
def wirePair (x : KindIndex) : List Byte := b1 x.kind ++ b1 x.index

/-- The parameters of TIMER SETUP after the timer (11.5). -/
def wireTimer (f : TimerForm) : List Byte :=
  b1 f.mode ++ b1 f.prescale ++ b2 f.reload ++ wirePair f.gate ++ wirePair f.source ++ wirePair f.action

/-- The header, request code and parameters of a request command (11.5); none for the commands that are events. -/
def wireForm (c : Instr) : Option (ReqHdr × Nat × List Byte) :=
  match c with
  | .powerUpReset _ => none
  | .linkDown _ => none
  | .linkUp _ => none
  | .sampleArrival _ _ _ _ => none
  | .holdoffExpiry _ => none
  | .decodeCompletion _ => none
  | .slotEvent _ => none
  | .coHoldAssert => none
  | .coHoldRelease => none
  | .ciUnitArrival _ => none
  | .timerExpiry _ => none
  | .ident h => some (h, 0x01, [])
  | .partSetup h id notices => some (h, 0x02, b2 id ++ bBool notices)
  | .partReset h => some (h, 0x03, [])
  | .laneSetup h lane f => some (h, 0x10, b1 lane ++ wireSetup f)
  | .laneStart h lane => some (h, 0x11, b1 lane)
  | .laneStop h lane => some (h, 0x12, b1 lane)
  | .laneRead h lane clear => some (h, 0x13, b1 lane ++ bBool clear)
  | .profileRead h lane => some (h, 0x14, b1 lane)
  | .pair h p => some (h, 0x15, b1 p)
  | .unpair h p => some (h, 0x16, b1 p)
  | .poolSetup h r0 r1 r2 r3 => some (h, 0x18, b2 r0 ++ b2 r1 ++ b2 r2 ++ b2 r3)
  | .poolRead h start => some (h, 0x19, b2 start)
  | .decoderSetup h high low => some (h, 0x1A, b2 high ++ b2 low)
  | .decoderRead h clear => some (h, 0x1B, bBool clear)
  | .mapLoad h seg => some (h, 0x20, wireSegment seg)
  | .mapAbort h => some (h, 0x21, [])
  | .mapEditAdd h e => some (h, 0x22, b1 0 ++ wireEntry e)
  | .mapEditReplace h e => some (h, 0x22, b1 1 ++ wireEntry e)
  | .mapEditRemove h e => some (h, 0x22, b1 2 ++ wireEntry e)
  | .mapRead h first count clear => some (h, 0x23, b2 first ++ b1 count ++ bBool clear)
  | .mapInvalidate h g origin id m => some (h, 0x24, b1 g ++ b1 origin ++ b2 id ++ b1 m)
  | .originSetup h origin f => some (h, 0x25, b1 origin ++ wireOrigin f)
  | .originRead h => some (h, 0x26, [])
  | .portSetup h port interval high low limit =>
    some (h, 0x28, b1 port ++ b2 interval ++ b1 high ++ b1 low ++ b1 limit)
  | .portStop h port => some (h, 0x29, b1 port)
  | .portStart h port => some (h, 0x2A, b1 port)
  | .portFlush h port => some (h, 0x2B, b1 port)
  | .portRead h port clear => some (h, 0x2C, b1 port ++ bBool clear)
  | .monitorSetup h monitor f => some (h, 0x30, b1 monitor ++ wireMonitor f)
  | .monitorArm h monitor => some (h, 0x31, b1 monitor)
  | .monitorRead h monitor part clear => some (h, 0x32, b1 monitor ++ b1 part ++ bBool clear)
  | .timerSetup h timer f => some (h, 0x38, b1 timer ++ wireTimer f)
  | .timerStart h timer => some (h, 0x39, b1 timer)
  | .timerStop h timer => some (h, 0x3A, b1 timer)
  | .timerRead h timer clear => some (h, 0x3B, b1 timer ++ bBool clear)
  | .eventEnable h enables => some (h, 0x40, flagBytes 7 enables.toNat)
  | .eventRead h => some (h, 0x41, [])
  | .eventClear h named => some (h, 0x42, flagBytes 7 named.toNat)
  | .faultRead h => some (h, 0x44, [])
  | .faultClear h all places => some (h, 0x45, bBool all ++ [places])
  | .tick _ => none

/-- The same command with another packet to pass on; an event has none. -/
def withRelay (r : Option Packet) (c : Instr) : Instr :=
  match c with
  | .powerUpReset straps => .powerUpReset straps
  | .linkDown lane => .linkDown lane
  | .linkUp lane => .linkUp lane
  | .sampleArrival lane i q rx => .sampleArrival lane i q rx
  | .holdoffExpiry lane => .holdoffExpiry lane
  | .decodeCompletion result => .decodeCompletion result
  | .slotEvent port => .slotEvent port
  | .coHoldAssert => .coHoldAssert
  | .coHoldRelease => .coHoldRelease
  | .ciUnitArrival unit => .ciUnitArrival unit
  | .timerExpiry timer => .timerExpiry timer
  | .ident h => .ident { h with relay := r }
  | .partSetup h id notices => .partSetup { h with relay := r } id notices
  | .partReset h => .partReset { h with relay := r }
  | .laneSetup h lane f => .laneSetup { h with relay := r } lane f
  | .laneStart h lane => .laneStart { h with relay := r } lane
  | .laneStop h lane => .laneStop { h with relay := r } lane
  | .laneRead h lane clear => .laneRead { h with relay := r } lane clear
  | .profileRead h lane => .profileRead { h with relay := r } lane
  | .pair h p => .pair { h with relay := r } p
  | .unpair h p => .unpair { h with relay := r } p
  | .poolSetup h r0 r1 r2 r3 => .poolSetup { h with relay := r } r0 r1 r2 r3
  | .poolRead h start => .poolRead { h with relay := r } start
  | .decoderSetup h high low => .decoderSetup { h with relay := r } high low
  | .decoderRead h clear => .decoderRead { h with relay := r } clear
  | .mapLoad h seg => .mapLoad { h with relay := r } seg
  | .mapAbort h => .mapAbort { h with relay := r }
  | .mapEditAdd h e => .mapEditAdd { h with relay := r } e
  | .mapEditReplace h e => .mapEditReplace { h with relay := r } e
  | .mapEditRemove h e => .mapEditRemove { h with relay := r } e
  | .mapRead h first count clear => .mapRead { h with relay := r } first count clear
  | .mapInvalidate h granularity origin id m => .mapInvalidate { h with relay := r } granularity origin id m
  | .originSetup h origin f => .originSetup { h with relay := r } origin f
  | .originRead h => .originRead { h with relay := r }
  | .portSetup h port interval high low limit => .portSetup { h with relay := r } port interval high low limit
  | .portStop h port => .portStop { h with relay := r } port
  | .portStart h port => .portStart { h with relay := r } port
  | .portFlush h port => .portFlush { h with relay := r } port
  | .portRead h port clear => .portRead { h with relay := r } port clear
  | .monitorSetup h monitor f => .monitorSetup { h with relay := r } monitor f
  | .monitorArm h monitor => .monitorArm { h with relay := r } monitor
  | .monitorRead h monitor part clear => .monitorRead { h with relay := r } monitor part clear
  | .timerSetup h timer f => .timerSetup { h with relay := r } timer f
  | .timerStart h timer => .timerStart { h with relay := r } timer
  | .timerStop h timer => .timerStop { h with relay := r } timer
  | .timerRead h timer clear => .timerRead { h with relay := r } timer clear
  | .eventEnable h enables => .eventEnable { h with relay := r } enables
  | .eventRead h => .eventRead { h with relay := r }
  | .eventClear h named => .eventClear { h with relay := r } named
  | .faultRead h => .faultRead { h with relay := r }
  | .faultClear h all places => .faultClear { h with relay := r } all places
  | .tick straps => .tick straps

/-- A management packet of kind REQUEST (R181). -/
def requestPacket (id addr tag code : Nat) (params : List Byte) : Packet := ownPacket id 0 1 addr tag code 0 0 params

end Sys2Proof.Machine
end

