-- ==== Sys2Proof/WellFormed.lean ====
section
/-! DEFINITION. Which operands the outside world can present: the ranges of the bytes that carry them, the range of a
sample, the length of a unit. `exec` is total on ill-formed commands too; statements that need a range take
`Instr.wf` as a premise. -/

namespace Sys2Proof

/-- A value that fits one byte. -/
def fits8 (n : Nat) : Bool := n < 256
/-- A value that fits two bytes. -/
def fits16 (n : Nat) : Bool := n < 65536

/-- A unit or packet of 188 bytes (R179, R151). -/
def Packet.wf (p : Packet) : Bool := p.length = 188

/-- A tag of one byte, and a packet to pass on of 188 bytes. -/
def ReqHdr.wf (h : ReqHdr) : Bool :=
  fits8 h.tag && (match h.relay with | none => true | some p => Packet.wf p)

/-- Pipe record codes within their coded ranges (1.4). -/
def PipeRecord.wf (p : PipeRecord) : Bool :=
  p.pipeId < 64 && p.con < 8 && p.rate < 8 && p.cells < 1048576 && p.depth < 8 && p.first < 16777216

/-- A record within its coded ranges, with as many pipe records as its pipe count says (R8). -/
def FrameRecord.wf (r : FrameRecord) : Bool :=
  r.version < 16 && r.counter < 256 && r.d < 256 && r.pipeCount < 32 && r.pipes.length = r.pipeCount &&
    r.pipes.all PipeRecord.wf

/-- A received CRC of 16 bits and a record within its coded ranges. -/
def PreambleRx.wf : PreambleRx → Bool
  | .notShown => true
  | .shown crc rec => fits16 crc && rec.wf

/-- At most the 13,824 active carriers of mode 4 (R10), with non-zero reference values. That a data symbol has all the carriers
of its mode is a rule of the lane that takes it (`wholeSymbol` of Safety.lean). -/
def SymbolRx.wf (x : SymbolRx) : Bool :=
  x.preamble.wf && x.carriers.length ≤ 13824 && x.carriers.all (fun c => c.ref ≠ Cplx.zero)

/-- LANE SETUP parameters within their bytes. -/
def SetupForm.wf (f : SetupForm) : Bool :=
  [f.sweepSpan, f.sweepStep, f.searchLength, f.pipeId, f.k, f.gradeHyst, f.windowHyst, f.smoothA, f.retireAge,
    f.impulseJ, f.maxBudget].all fits8 && [f.holdoff, f.tg, f.tf, f.tp, f.floorF].all fits16

/-- Map entry fields within their bits (R183). -/
def EntryForm.wf (e : EntryForm) : Bool :=
  fits8 e.origin && fits16 e.inId && e.action < 4 && e.cls < 4 && fits16 e.outId

/-- Segment header fields within their bytes (R183). -/
def SegmentForm.wf (g : SegmentForm) : Bool :=
  fits8 g.tag && fits16 g.total && fits16 g.offset && fits8 g.count && g.entries.all EntryForm.wf

/-- ORIGIN SETUP parameters within their bytes. -/
def OriginForm.wf (f : OriginForm) : Bool := fits8 f.mode && fits8 f.cls

/-- MONITOR SETUP parameters within their bytes. -/
def MonitorForm.wf (f : MonitorForm) : Bool :=
  fits8 f.origin && fits16 f.id && fits8 f.offset && fits8 f.kind && fits16 f.expected

/-- A kind byte and an index byte. -/
def KindIndex.wf (x : KindIndex) : Bool := fits8 x.kind && fits8 x.index

/-- TIMER SETUP parameters within their bytes. -/
def TimerForm.wf (f : TimerForm) : Bool :=
  fits8 f.mode && fits8 f.prescale && fits16 f.reload && f.gate.wf && f.source.wf && f.action.wf

/-- A 12-bit two's-complement component (R3). -/
def sampleFits (x : Int) : Bool := -2048 ≤ x && x ≤ 2047

/-- The commands the outside world can present. -/
def Instr.wf : Instr → Bool
  | .powerUpReset _ => true
  | .linkDown _ => true
  | .linkUp _ => true
  | .sampleArrival _ i q rx => sampleFits i && sampleFits q && rx.wf
  | .holdoffExpiry _ => true
  | .decodeCompletion _ => true
  | .slotEvent _ => true
  | .coHoldAssert => true
  | .coHoldRelease => true
  | .ciUnitArrival u => Packet.wf u
  | .timerExpiry _ => true
  | .ident h => h.wf
  | .partSetup h id _ => h.wf && fits16 id
  | .partReset h => h.wf
  | .laneSetup h l f => h.wf && fits8 l && f.wf
  | .laneStart h l => h.wf && fits8 l
  | .laneStop h l => h.wf && fits8 l
  | .laneRead h l _ => h.wf && fits8 l
  | .profileRead h l => h.wf && fits8 l
  | .pair h p => h.wf && fits8 p
  | .unpair h p => h.wf && fits8 p
  | .poolSetup h a b c d => h.wf && [a, b, c, d].all fits16
  | .poolRead h s => h.wf && fits16 s
  | .decoderSetup h a b => h.wf && fits16 a && fits16 b
  | .decoderRead h _ => h.wf
  | .mapLoad h g => h.wf && g.wf
  | .mapAbort h => h.wf
  | .mapEditAdd h e => h.wf && e.wf
  | .mapEditReplace h e => h.wf && e.wf
  | .mapEditRemove h e => h.wf && e.wf
  | .mapRead h a n _ => h.wf && fits16 a && fits8 n
  | .mapInvalidate h g o i m => h.wf && fits8 g && fits8 o && fits16 i && fits8 m
  | .originSetup h o f => h.wf && fits8 o && f.wf
  | .originRead h => h.wf
  | .portSetup h p i a b c => h.wf && fits8 p && fits16 i && fits8 a && fits8 b && fits8 c
  | .portStop h p => h.wf && fits8 p
  | .portStart h p => h.wf && fits8 p
  | .portFlush h p => h.wf && fits8 p
  | .portRead h p _ => h.wf && fits8 p
  | .monitorSetup h m f => h.wf && fits8 m && f.wf
  | .monitorArm h m => h.wf && fits8 m
  | .monitorRead h m p _ => h.wf && fits8 m && fits8 p
  | .timerSetup h t f => h.wf && fits8 t && f.wf
  | .timerStart h t => h.wf && fits8 t
  | .timerStop h t => h.wf && fits8 t
  | .timerRead h t _ => h.wf && fits8 t
  | .eventEnable h _ => h.wf
  | .eventRead h => h.wf
  | .eventClear h _ => h.wf
  | .faultRead h => h.wf
  | .faultClear h _ _ => h.wf
  | .tick _ => true

end Sys2Proof
end

