-- ==== Sys2Proof/Safety.lean ====
section
/-! DEFINITION. What counts as a safe run: which states stand between two events, which commands may come next, and the
rules the spec states of the whole part at every moment. -/

namespace Sys2Proof.Machine

/-! ### Between two events -/

/-- A state between two events: conditions followed, nothing left to hand on, no notice due (R200; log 11). -/
def quiet (s : State) : Bool := decide (followAll s = s) && decide (s.work = []) && !noticeDue s

/-- Every timer is STOPPED (R165). -/
def timersIdle (s : State) : Bool := allTimers.all (fun t => decide ((s.timer t).run = .stopped))

/-- An event is due at this system time: a slot (R139), a holdoff (R38), a timer's expiry (R172), or the end of a decode
(R107). -/
def dueNow (s : State) : Bool :=
  [portCO, portF0, portF1].any (fun p => decide ((s.port p).nextSlot = s.time)) ||
  allLanes.any (fun l => decide ((s.lane l).state = .fade ∧ (s.lane l).deadline = some s.time)) ||
  allTimers.any (fun t => (s.timer t).due) ||
  (match s.dec.inflight with
    | none => false
    | some cw => decide (s.time = completionTime cw))

/-- Whether a symbol is whole for the lane whose sample ends it: where that lane has a mode, and the symbol shows no preamble, it
has the Ka active carriers of that mode (R10). -/
def wholeSymbol (l : LaneId) (x : SymbolRx) (s : State) : Bool :=
  match (s.lane l).candidate with
  | none => true
  | some k => decide ((s.lane l).toGo ≤ 1 → x.preamble = .notShown → x.carriers.length = activeCarriers k.mode)

/-- A command the outside world can bring about in a state: well formed, no tick while an event is due (log 2), and a symbol
with all its carriers (log 37). -/
def legal (c : Instr) (s : State) : Bool :=
  c.wf && (match c with
    | .tick _ => !dueNow s
    | .sampleArrival l _ _ x => wholeSymbol l x s
    | _ => true)

/-! ### Rules of the whole part -/

/-- No two records of the same source and reason (R203). -/
def recordsDistinct : List FaultRecord → Bool
  | [] => true
  | r :: rs => rs.all (fun x => decide (x.source ≠ r.source ∨ x.reason ≠ r.reason)) && recordsDistinct rs

/-- The fault log: at most 8 records, distinct, with counts 1 to 255 (R203). -/
def logOk (x : FaultLog) : Bool :=
  decide (x.records.length ≤ 8) && recordsDistinct x.records &&
    x.records.all (fun r => decide (1 ≤ r.count ∧ r.count ≤ 255))

/-- The pending set: only events raised and enabled (R199). -/
def pendingOk (e : EventUnit) : Bool := decide (e.pending &&& ~~~(e.flags &&& e.enables) = 0#51)

/-- The free-page law (R85), over a page map of 1024 entries (R82). -/
def poolLaw (p : Pool) : Bool := decide (p.pageMap.length = 1024) && decide (p.unmetSum ≤ p.freeCount)

/-- The queue limits of R137: 8 places in class 0, a partition for classes 1 and 2. -/
def queueOk (p : PortId) (q : Port) : Bool :=
  decide (q.q0.length ≤ 8) && decide (q.streamDepth ≤ partitionSize p)

/-- All three queues. -/
def queuesOk (s : State) : Bool := [portCO, portF0, portF1].all (fun p => queueOk p (s.port p))

/-- The entries of a map table in slot order. -/
def entriesIn (slots : List (Option MapSlot)) : List MapEntry := slots.filterMap (fun o => o.map (·.entry))

/-- The conditions of R119 on a map of 1024 slots, with a management id; staged entries have passed the structure test
(R133). -/
def mapOk (mgmtId : Nat) (m : MapUnit) : Bool :=
  decide (m.slots.length = 1024) && keysDistinct (entriesIn m.slots) && !imageConflicts mgmtId (entriesIn m.slots) &&
    (entriesIn m.slots).all (fun e => decide (e.route.outId ≤ 8190)) &&
    (match m.staging with
      | none => true
      | some st => st.entries.all (fun e => decide (e.route.outId ≤ 8190)))

/-- The lookup cache: at most 32 results, no two for the same key (R125). -/
def cacheOk (cache : List CacheResult) : Bool :=
  decide (cache.length ≤ 32) && decide ((cache.map (·.key)).Nodup)

/-- For each port at most one origin in a passing mode has it among its default destinations (R116). -/
def originsOk (m : MapUnit) : Bool :=
  [0, 1, 2, 3, 4].all (fun i => [0, 1, 2, 3, 4].all (fun j =>
    decide (i = j) || !(originSetting m i).clashes (originSetting m j)))

/-- Echo records in ascending delay, neighbours at least 3 samples apart (R43). -/
def spaced : List Echo → Bool
  | [] => true
  | [_] => true
  | x :: y :: rest => decide (x.delay + 3 ≤ y.delay) && spaced (y :: rest)

/-- The strongest record stands at delay 0 (R43, R54). -/
def anchored (profile : List Echo) : Bool :=
  match strongest profile with
  | none => true
  | some e => decide (e.delay = 0)

/-- The rules of an echo profile: at most 8 records, spaced, powers 0 to 4096, ages 0 to 255, anchored (R43). -/
def profileOk (profile : List Echo) : Bool :=
  decide (profile.length ≤ 8) && spaced profile && profile.all (fun e => decide (e.power ≤ 4096 ∧ e.age ≤ 255)) &&
    anchored profile

/-- Those rules of every lane's profile. -/
def profilesOk (s : State) : Bool := allLanes.all (fun l => profileOk (s.lane l).profile)

/-- The lanes of a formed pair are OFF together (R20, R21). -/
def pairsOk (s : State) : Bool :=
  [0, 1].all (fun p => !(s.pairAt p).formed ||
    decide ((s.lane (primaryOf p)).state = .off ↔ (s.lane (secondaryOf p)).state = .off))

/-- Whether a lane may own pages (R83). -/
def mayOwn (s : State) (l : LaneId) : Bool :=
  if paired s l then isPrimary l && (inLockOrFade s l || inLockOrFade s (partnerOf l)) else inLockOrFade s l

/-- Pages are owned only by lanes that may own them (R83). -/
def ownersOk (s : State) : Bool := allLanes.all (fun l => decide (s.pool.owned l = 0) || mayOwn s l)

/-! ### What the rest of an event leaves

After its main effects an event hands on occurrences and timer actions, follows conditions and builds notices (log 11).
`Kept` says what that leaves in every state, `KeptIdle` what it leaves while every timer is STOPPED. -/

/-- What the rest of an event leaves of a lane: only a RESEARCH action can move a lane, from LOCK or FADE to SEARCH
(R40); besides that, a path's group, ready list and dropped counter can change. -/
structure LaneKept (c d : Lane) : Prop where
  setup : d.setup = c.setup
  reason : d.reason = c.reason
  counters : d.counters = { c.counters with dropped := d.counters.dropped }
  state : d.state = c.state ∨ ((c.state = .lock ∨ c.state = .fade) ∧ d.state = .search)
  rest : d.state = c.state → d = { c with ready := d.ready, group := d.group, counters := d.counters }

/-- What the rest of an event leaves of a timer: its setting, a STOPPED timer and an INTERVAL timer whole, and whether it
is RUNNING. -/
structure TimerKept (a b : Timer) : Prop where
  setting : b.setting = a.setting
  stopped : a.run = .stopped → b = a
  interval : a.setting.mode = .interval → b = a
  running : a.run = .running → b.run = .running

/-- What stands in a fault record from its first report on (R203). -/
def FaultRecord.stamp (r : FaultRecord) : Nat × Nat × Nat × Nat := (r.source, r.reason, r.info, r.first)

/-- What a later report leaves of a fault log: every record at its place, and a set overflow flag (R203). -/
structure LogKept (a b : FaultLog) : Prop where
  records : a.records.map FaultRecord.stamp <+: b.records.map FaultRecord.stamp
  overflow : a.overflow = true → b.overflow = true

/-- What the rest of an event leaves of a state. Class 0 of CO can only grow, by own packets. -/
structure Kept (s t : State) : Prop where
  time : t.time = s.time
  links : t.links = s.links
  straps : t.straps = s.straps
  smap : t.smap = s.smap
  co : t.co = s.co
  ci : t.ci = s.ci
  pending : t.pending = s.pending
  mgmtId : t.mgmt.id = s.mgmt.id
  mgmtAddr : t.mgmt.addr = s.mgmt.addr
  mgmtNotices : t.mgmt.notices = s.mgmt.notices
  reserved : t.pool.reserved = s.pool.reserved
  cells : t.pool.cells = s.pool.cells
  inflight : t.dec.inflight = s.dec.inflight
  pointer : t.dec.pointer = s.dec.pointer
  high : t.dec.high = s.dec.high
  low : t.dec.low = s.dec.low
  stats : t.dec.stats = s.dec.stats
  feed : ∀ p : PortId, p ≠ portCO → t.port p = s.port p
  portCo : ∃ own, t.port portCO =
    { s.port portCO with q0 := (s.port portCO).q0 ++ own, drop0 := (t.port portCO).drop0 }
  monitors : ∀ m, t.monitor m = { s.monitor m with armed := (t.monitor m).armed } ∧
    ((s.monitor m).armed = true → (t.monitor m).armed = true)
  timers : ∀ i, TimerKept (s.timer i) (t.timer i)
  lanes : ∀ l, LaneKept (s.lane l) (t.lane l)
  formed : ∀ p, (t.pairAt p).formed = (s.pairAt p).formed
  enables : t.ev.enables = s.ev.enables
  log : LogKept s.log t.log
  latched : ∀ n, conditionEvents.getLsbD n = false → s.ev.flags.getLsbD n = true → t.ev.flags.getLsbD n = true

/-- Only occurrences are to be handed on, no timer action. -/
def onlyOccurrences (w : List Work) : Bool := w.all (fun x => match x with | .occ _ => true | .act _ => false)

/-- What the rest of an event leaves while every timer is STOPPED. -/
structure KeptIdle (s t : State) : Prop where
  kept : Kept s t
  lanes : t.lanes = s.lanes
  pool : t.pool = s.pool
  dec : t.dec = s.dec
  timers : t.timers = s.timers
  monitors : t.monitors = s.monitors
  pairs : ∀ p, t.pairAt p = { s.pairAt p with pstate := (t.pairAt p).pstate }
  work : onlyOccurrences s.work = true → onlyOccurrences t.work = true

/-- The state `t` that an event leaves whose main effects give `a`: exactly what the rest of an event makes of `a` (log 11),
so `a` itself where nothing is left to do. -/
structure Happened (a t : State) : Prop where
  kept : Kept a t
  idle : timersIdle a = true → onlyOccurrences a.work = true → KeptIdle a t
  rest : t = afterEvent a
  still : quiet a = true → t = a

/-- The reply packet that a part builds in a state (R182, R189). -/
def replyPacket (s : State) (tag code : Nat) (r : Reply) : Packet :=
  ownPacket s.mgmt.id s.mgmt.cc 2 s.mgmt.addr tag code r.status.code r.reason r.params

/-- The state `t` that a request of a tag and code leaves whose effects give `a` and whose reply is `r`: what an event
leaves whose main effects give `a` with the reply sent; the reply stands in CO class 0 behind what is there if there is room
(R189), and a part whose address is 31 places no own packet (R192). -/
structure Answered (tag code : Nat) (r : Reply) (a t : State) : Prop where
  kept : Kept a t
  idle : timersIdle a = true → onlyOccurrences a.work = true → KeptIdle a t
  sent : Happened (sendReply tag code r a) t
  reply : a.mgmt.addr ≠ 31 → (a.port portCO).q0.length < 8 →
    ∃ more, (t.port portCO).q0 = (a.port portCO).q0 ++ ⟨replyPacket a tag code r, 0, false, true, a.time⟩ :: more
  silent : a.mgmt.addr = 31 → t.port portCO = a.port portCO ∧ t.mgmt.cc = a.mgmt.cc

/-! ### Reset -/

/-- What both resets leave in every block, the chain output's class 0 and the next slot times apart (R42, R46, R65, R81,
R98, R115, R136, R154, R164, R177). The remembered write half A and the data path's counts of a dissolved pair are the
model's choice (log 34), and that every lane's samples, frame position and MER sums are cleared is its reading (log 14). -/
def blocksReset (t : State) : Prop :=
  (∀ l, t.lane l =
    { state := .off, reason := .none, sweepPos := 0, attempt := 0, samples := [], candidate := none, confirm := 0
      noPreamble := 0, preFail := 0, layout := none, frame := ⟨0, 0, false, 0, 0, 0, false⟩, lossRun := 0, goodRun := 0
      deadline := none
      setup := ⟨15#4, 15#4, 2, 4, 8, 0, 500, 3, 280, 220, 160, 10, 8, 64, 2, 32, 4, 24⟩
      counters := ⟨0, 0, 0, 0, 0, 0, 0, 0, 0⟩, profile := [], w := 0, toGo := 0, offset := 0, openPl := false
      quality := ⟨none, none, none, none, .none⟩, group := none, writeHalf := .a, ready := [] }) ∧
  (∀ p, t.pairAt p = ⟨false, .none, .none, [], [], none, 0, 0, none⟩) ∧
  (t.pool.pageMap = List.replicate 1024 none ∧ ∀ l : LaneId, t.pool.reserved[l] = 0) ∧
  (t.dec.inflight = none ∧ t.dec.pointer = 0 ∧ t.dec.congested = false ∧ t.dec.high = 96 ∧ t.dec.low = 48 ∧
    ∀ l : LaneId, t.dec.stats[l] = ⟨0, 0⟩) ∧
  (t.smap.slots = List.replicate 1024 none ∧ t.smap.cache = [] ∧ t.smap.staging = none ∧
    (∀ o, o < 4 → originSetting t.smap o = ⟨.drop, ⟨true, false, false⟩, 2, true, 0#64⟩) ∧
    originSetting t.smap 4 = ⟨.pass, ⟨true, false, false⟩, 1, true, 0#64⟩) ∧
  (∀ p, (t.port p).pstate = .running ∧ (t.port p).pendingStop = none ∧
    (t.port p).interval = (if p = portCO then 675 else 1080) ∧ (t.port p).q1 = [] ∧ (t.port p).q2 = [] ∧
    (t.port p).drop0 = 0 ∧ (t.port p).drop1 = 0 ∧ (t.port p).drop2 = 0 ∧ (t.port p).skipped = 0) ∧
  (t.co.heldSlots = 0 ∧ t.co.high = 64 ∧ t.co.low = 32 ∧ t.co.limit = 16 ∧ t.co.hold = .idle ∧ t.co.holdCount = 0) ∧
  t.ci = ⟨false, 0⟩ ∧
  (∀ m, t.monitor m = ⟨false, 0, 0, false, 0, 0#64, .pattern, 0, false, false, 0, false, none, 0⟩) ∧
  (∀ i, t.timer i = ⟨⟨.interval, 0, 0, ⟨0, 0⟩, ⟨0, 0⟩, ⟨0, 0⟩⟩, .stopped, 0, 0, 0, 0, false, false⟩) ∧
  (t.ev.enables = 0#51 ∧ t.ev.pending = 0#51 ∧ t.ev.outstanding = false)

end Sys2Proof.Machine
end

