-- ==== Sys2Proof/Certificates/Slice0/Obligations.lean ====
section
/-! DEFINITION. The statements for the provers, each a Prop about the model. `Happened a t` and `Answered tag code r a t`
(Safety.lean) say that `t` is exactly what an event leaves whose main effects give `a`, with the reply `r` placed; where
nothing is left to do it is that state itself. -/

open Sys2Proof Sys2Proof.Machine

/-! ### The whole part -/

/-- A step carries out the command at the front of the queue on the state with the queue's rest; on an empty queue the
part idles; every command answers a next state and leaves the queue as it found it (the model's choice, log 1). Only TICK
and POWER_UP_RESET move the system time, by 1 modulo 2^48 and to 0 (R1), and only they bring a level of the address straps,
to which no other command listens but a reset (R185; that TICK brings it is the model's choice, log 8). -/
def Obligations.StepTakesFrontCommand : Prop :=
  (∀ (c : Instr) (rest : List Instr) (s : State), step { s with pending := c :: rest } = exec c { s with pending := rest }) ∧
  (∀ s : State, s.pending = [] → step s = .next s) ∧
  (∀ (c : Instr) (s : State), ∃ t, exec c s = .next t ∧ t.pending = s.pending ∧
    t.time = (match c with
      | .tick _ => (s.time + 1) % 281474976710656
      | .powerUpReset _ => 0
      | _ => s.time) ∧
    t.straps = (match c with
      | .tick straps => straps
      | .powerUpReset straps => straps
      | _ => s.straps))

/-- The power-up reset (R42, R46, R65, R81, R98, R115, R136, R154, R164, R177, R193, R205): every block at its reset
values, system time 0, the address from the straps, an empty fault log; links, the CO hold line and page contents as they
were. That nothing is on the wires (log 10), and the remembered write half A with the data path's last frame counter 0,
contribution count 0 and last completed frame none (log 34), are the model's choice; that every lane's samples, frame position
and MER sums, which no rule lists, are cleared is its reading (log 14). -/
def Obligations.PowerUpReset : Prop :=
  ∀ (straps : BitVec 5) (s : State), ∃ t, exec (.powerUpReset straps) s = .next t ∧ blocksReset t ∧ t.time = 0 ∧ t.straps = straps ∧
    t.mgmt = ⟨8064, straps.toNat, false, 0⟩ ∧ t.ev.flags = 0#51 ∧ t.log = ⟨[], false⟩ ∧
    (∀ p, (t.port p).q0 = [] ∧ (t.port p).nextSlot = (t.port p).interval ∧ (t.port p).wire = none) ∧
    t.links = s.links ∧ t.co.held = s.co.held ∧ t.pool.cells = s.pool.cells ∧ t.pending = s.pending

/-- PART RESET (R196): every block at its reset values, the address read again; system time, fault log, inputs, page
contents and the packets on the wires kept; FAULT_OVERFLOW follows a kept overflow flag. The reply, with count 0, is the
first packet in CO class 0, and a packet to be passed on follows it; a part strapped at 31 builds no reply. The remembered
write half A and the data path's last frame counter 0, contribution count 0 and last completed frame none are the model's
choice (log 34); that every lane's samples, frame position and MER sums, which no rule lists, are cleared is its reading
(log 14). -/
def Obligations.PartReset : Prop :=
  ∀ (h : ReqHdr) (s : State), ∃ t, exec (.partReset h) s = .next t ∧ blocksReset t ∧ t.time = s.time ∧ t.straps = s.straps ∧
    t.mgmt = ⟨8064, s.straps.toNat, false, if s.straps = 31#5 then 0 else 1⟩ ∧
    t.ev.flags = (if s.log.overflow then 2#51 else 0#51) ∧ t.log = s.log ∧
    (∀ p, (t.port p).nextSlot = (s.time + (t.port p).interval) % 281474976710656 ∧ (t.port p).wire = (s.port p).wire ∧
      (p ≠ portCO → (t.port p).q0 = [])) ∧
    (t.port portCO).q0 =
      (if s.straps = 31#5 then []
        else [⟨ownPacket 8064 0 2 s.straps.toNat h.tag 3 0 0 [], 0, false, true, s.time⟩]) ++
      (match h.relay with
        | none => []
        | some pkt => [⟨pkt, 0, false, false, s.time⟩]) ∧
    t.links = s.links ∧ t.co.held = s.co.held ∧ t.pool.cells = s.pool.cells ∧ t.pending = s.pending

/-- The rules of the whole part hold at `State.reset`. -/
def Obligations.RulesHoldAtReset : Prop :=
  cellsWf State.reset.pool.cells = true ∧ logOk State.reset.log = true ∧ queuesOk State.reset = true ∧
  poolLaw State.reset.pool = true ∧ mapOk State.reset.mgmt.id State.reset.smap = true ∧
  cacheOk State.reset.smap.cache = true ∧ originsOk State.reset.smap = true ∧ pendingOk State.reset.ev = true ∧
  profilesOk State.reset = true ∧ pairsOk State.reset = true ∧ ownersOk State.reset = true

/-- Every step keeps the canonical form of the page contents (R82, R91). Every step keeps the free-page law (R85): the
free pages are never fewer than the sum of the unmet reservations, over a map of 1024 pages (R82). Every step keeps the
rule of R83: pages are owned only by a lane in no pair that is in LOCK or FADE, and by the primary of a pair one of whose
lanes is; it rests on the rule, kept too, that the lanes of a formed pair are OFF together (R20, R21). -/
def Obligations.PoolRulesHold : Prop :=
  (∀ s t : State, cellsWf s.pool.cells = true → step s = .next t → cellsWf t.pool.cells = true) ∧
  (∀ s t : State, poolLaw s.pool = true → step s = .next t → poolLaw t.pool = true) ∧
  (∀ s t : State, pairsOk s = true → step s = .next t → pairsOk t = true) ∧
  (∀ s t : State, pairsOk s = true → ownersOk s = true → step s = .next t → ownersOk t = true)

/-- Every step keeps each port's queue within its places, 8 in class 0 and 88 or 96 in classes 1 and 2 (R137); the pending
set within the events that are raised and enabled (R199); and the fault log within 8 records, no two of one source and
reason, counts 1 to 255 (R203). -/
def Obligations.QueueEventAndFaultRulesHold : Prop :=
  (∀ s t : State, queuesOk s = true → step s = .next t → queuesOk t = true) ∧
  (∀ s t : State, pendingOk s.ev = true → step s = .next t → pendingOk t.ev = true) ∧
  (∀ s t : State, logOk s.log = true → step s = .next t → logOk t.log = true)

/-- Every step keeps the rules of R119 on the map: no two entries of one key, no outgoing id given twice to a port by ROUTE
entries, no entry on the management id, outgoing ids up to 8190. -/
def Obligations.MapRulesHold : Prop :=
  ∀ s t : State, mapOk s.mgmt.id s.smap = true → step s = .next t → mapOk t.mgmt.id t.smap = true

/-- Every step keeps the lookup cache within 32 results, no two of one key (R125), and keeps every port the default
destination of at most one passing origin (R116). -/
def Obligations.CacheAndOriginRulesHold : Prop :=
  (∀ s t : State, cacheOk s.smap.cache = true → step s = .next t → cacheOk t.smap.cache = true) ∧
  (∀ s t : State, originsOk s.smap = true → step s = .next t → originsOk t.smap = true)

/-- Every step keeps every lane's echo profile within R43: at most 8 records in ascending delay, neighbours at least 3
samples apart, powers up to 4096 and ages up to 255, the strongest at delay 0. An update leaves every delay within the
detection window of its symbol (R54), and keeps those rules for whatever impulse response the symbol gives. -/
def Obligations.ProfileRulesHold : Prop :=
  (∀ s t : State, profilesOk s = true → step s = .next t → profilesOk t = true) ∧
  (∀ (st : Setup) (m : Mode) (pat : Pattern) (floorF : Nat) (impulse : List Nat) (x : Anchored),
    let y := updateProfile st (windowLow m pat) (windowHigh m pat) (observe (windowLow m pat) floorF impulse) x
    profileOk x.profile = true → profileOk y.profile = true ∧
      ∀ e ∈ y.profile, windowLow m pat ≤ e.delay ∧ e.delay ≤ windowHigh m pat)

/-! ### Requests on the chain (Chapter 11) -/

/-- A request packet that reaches a CI that is UP does exactly what the request's row does once the unit has been framed:
run count 0 and a PAUSED hold renewed (R151, R152; the hold first is the model's choice, log 42) (R178, R181, R183, R186,
R188, 11.5). Addressed to the part, it is the row with no packet to pass on; addressed to 31, the row that passes it on
first. A MAP LOAD row whose entries exceed the 176 bytes of a packet's parameters can come in no packet. -/
def Obligations.RequestPacketActsAsItsRow : Prop :=
  ∀ (c : Instr) (h : ReqHdr) (code : Nat) (ps : List Byte) (s : State), c.wf = true → wireForm c = some (h, code, ps) →
    ps.length ≤ 176 → s.ci.up = true → s.mgmt.id < 8192 →
    let b : State := { s with
      ci := ⟨true, 0⟩, co := if s.co.hold = .paused then { s.co with hold := .holding, holdCount := 0 } else s.co }
    (s.mgmt.addr < 31 → h.relay = none →
      exec (.ciUnitArrival (requestPacket s.mgmt.id s.mgmt.addr h.tag code ps)) s = exec c b) ∧
    (h.relay = some (requestPacket s.mgmt.id 31 h.tag code ps) →
      exec (.ciUnitArrival (requestPacket s.mgmt.id 31 h.tag code ps)) s = exec c b)

/-- A request that is passed on acts on the state in which its packet stands in CO class 0 already (R187, R190), PART RESET
apart. Passing on before the effects is the model's choice (log 27). -/
def Obligations.RelayedPacketGoesFirst : Prop :=
  ∀ (c : Instr) (pkt : Packet) (s : State), (wireForm c).isSome = true → (∀ h, c ≠ .partReset h) →
    exec (withRelay (some pkt) c) s = exec (withRelay none c) (portArrive portCO 0 false false pkt s)

/-- A management arrival that no rule lets the part take goes to CO class 0 as it arrived, or is a queue drop there
(R186, R187). A request taken, whether addressed to the part or to 31 (which passes its packet on first, log 27): an
unlisted code is refused UNKNOWN, a listed one of a wrong parameter length BAD_PARAM, and neither changes anything (R188
steps 1 and 2); the refusal of a MAP INVALIDATE gives granularity NONE and the number 0 (R189). A MAP LOAD shorter than 7
bytes, longer than a packet's parameters, or of another length than its count gives fails as a segment: staging CLOSED,
MAP_LOAD_ERROR, LOAD_ERROR with code 9, BAD_PARAM (R131, R133). -/
def Obligations.ManagementPacketsAreSorted : Prop :=
  (∀ (u : Packet) (s : State), s.ci = ⟨true, 0⟩ → s.co.hold ≠ .paused → byteAt u 0 = 0x47#8 → pktId u = s.mgmt.id →
      (pktError u = true ∨ pktAdapt u ≠ 1 ∨ mgmtKind u ≠ 1 ∨ (mgmtAddr u ≠ 31 ∧ mgmtAddr u ≠ s.mgmt.addr)) →
      ∃ t, exec (.ciUnitArrival u) s = .next t ∧
        ((s.port portCO).q0.length < 8 →
          Happened (s.setPort portCO
            { s.port portCO with q0 := (s.port portCO).q0 ++ [⟨u, 0, false, false, s.time⟩] }) t) ∧
        (8 ≤ (s.port portCO).q0.length →
          Happened (report 5 .queueDrop 0 ((raise 32 (s.setPort portCO
            { s.port portCO with drop0 := ((s.port portCO).drop0 + 1) % 4294967296 })).addWork [.occ (.portDrop portCO)])) t)) ∧
  (∀ (u : Packet) (s : State), s.ci = ⟨true, 0⟩ → s.co.hold ≠ .paused → byteAt u 0 = 0x47#8 → pktId u = s.mgmt.id →
      pktError u = false → pktAdapt u = 1 → mgmtKind u = 1 → (mgmtAddr u = 31 ∨ mgmtAddr u = s.mgmt.addr) →
      let b : State := if mgmtAddr u = 31 then portArrive portCO 0 false false u s else s
      ∃ t, exec (.ciUnitArrival u) s = .next t ∧
        (mgmtCode u ≠ 0x20 → paramLength (mgmtCode u) = none → Answered (mgmtTag u) (mgmtCode u) (.refused .unknown) b t) ∧
        (∀ n, mgmtCode u ≠ 0x20 → mgmtCode u ≠ 0x24 → paramLength (mgmtCode u) = some n → mgmtLen u ≠ n →
          Answered (mgmtTag u) (mgmtCode u) (.refused .badParam) b t) ∧
        (mgmtCode u = 0x24 → mgmtLen u ≠ 5 → Answered (mgmtTag u) 0x24 ⟨.refused, 3, [0#8, 0#8]⟩ b t) ∧
        (mgmtCode u = 0x20 →
          (mgmtLen u < 7 ∨ 176 < mgmtLen u ∨ mgmtLen u ≠ 7 + 8 * (byteAt u 18).toNat) →
          Answered (mgmtTag u) 0x20 (.refused .badParam)
            (report 8 .loadError 9 (raise 30 { b with smap := { b.smap with staging := none } })) t))

/-! ### Chain input, map, ports (Chapters 7 and 8) -/

/-- The framing of CI (R151), over a hold that any unit renews when it is PAUSED (R152; before any other effect of the unit,
the model's choice, log 42): the run counts, the unit that brings the status UP or DOWN, and which units are handed to the
map. -/
def Obligations.CiFraming : Prop :=
  ∀ (u : Packet) (s : State), ∃ b t, exec (.ciUnitArrival u) s = .next t ∧
    b = (if s.co.hold = .paused then { s with co := { s.co with hold := .holding, holdCount := 0 } } else s) ∧
    (s.ci.up = false → byteAt u 0 = 0x47#8 → s.ci.run + 1 < 5 →
      Happened { b with ci := ⟨false, s.ci.run + 1⟩ } t) ∧
    (s.ci.up = false → byteAt u 0 = 0x47#8 → 5 ≤ s.ci.run + 1 → Happened (handUnit u { b with ci := ⟨true, 0⟩ }) t) ∧
    (s.ci.up = false → byteAt u 0 ≠ 0x47#8 → Happened { b with ci := ⟨false, 0⟩ } t) ∧
    (s.ci.up = true → byteAt u 0 = 0x47#8 → Happened (handUnit u { b with ci := ⟨true, 0⟩ }) t) ∧
    (s.ci.up = true → byteAt u 0 ≠ 0x47#8 → s.ci.run + 1 < 3 →
      Happened { b with ci := ⟨true, s.ci.run + 1⟩ } t) ∧
    (s.ci.up = true → byteAt u 0 ≠ 0x47#8 → 3 ≤ s.ci.run + 1 →
      Happened (report 4 .ciFramingLost (byteAt u 0).toNat { b with ci := ⟨false, 0⟩ }) t)

/-- The four tests of an arrival, in order (R121): a discarded packet is neither shown to the monitors nor looked up.
A packet that passes the tests is offered to the monitors, and then its fate is decided (R122): passed unchanged,
routed under another id, or discarded; a renamed packet carries the new id and keeps its flags and every other byte.
-/
def Obligations.MapHandlesArrival : Prop :=
  ((∀ (u : Packet) (s : State), pktId u = s.mgmt.id → handUnit u s = mgmtArrival u s) ∧
    (∀ (u : Packet) (s : State), pktId u ≠ s.mgmt.id → handUnit u s = mapArrival 4 u s) ∧
    (∀ (o : Nat) (p : Packet) (s : State), pktId p = 8191 → mapArrival o p s = s) ∧
    (∀ (o : Nat) (p : Packet) (s : State), o < 4 → pktId p ≠ 8191 → pktId p = s.mgmt.id →
      mapArrival o p s = report o .mgmtIdFromLane (pktId p) s) ∧
    (∀ (o : Nat) (p : Packet) (s : State), pktId p ≠ 8191 → (o = 4 ∨ pktId p ≠ s.mgmt.id) → pktError p = true →
      (originSetting s.smap o).forwardErrored = false → mapArrival o p s = s)) ∧
  ((∀ (p : Packet) (id : Nat), p.length = 188 → id < 8192 →
      pktId (withId p id) = id ∧ (withId p id).length = 188 ∧
      (byteAt (withId p id) 1).toNat / 32 = (byteAt p 1).toNat / 32 ∧
      ∀ k, k ≠ 1 → k ≠ 2 → byteAt (withId p id) k = byteAt p k) ∧
    (∀ (o : Nat) (p : Packet) (s : State), pktId p ≠ 8191 → (o = 4 ∨ pktId p ≠ s.mgmt.id) →
      (pktError p = false ∨ (originSetting s.smap o).forwardErrored = true) →
      let b := offer o p s
      (∀ m, decideFate b.smap o p = (none, m) → mapArrival o p s = { b with smap := m }) ∧
      (∀ c m, decideFate b.smap o p = (some c, m) → mapArrival o p s = handCopies c { b with smap := m })) ∧
    ∀ (m : MapUnit) (o : Nat) (p : Packet),
      let st := originSetting m o
      (st.mode = .all → decideFate m o p = (some ⟨p, st.dests, st.cls, false, true⟩, m)) ∧
      (st.mode ≠ .all → ∀ r m', lookup m ⟨o, pktId p⟩ = (some r, m') →
        (r.action = .route → decideFate m o p = (some ⟨withId p r.outId, r.dests, r.cls, r.restamp, false⟩, m')) ∧
        (r.action = .drop → decideFate m o p = (none, m'))) ∧
      (st.mode ≠ .all → ∀ m', lookup m ⟨o, pktId p⟩ = (none, m') →
        (st.mode = .drop → decideFate m o p = (none, m')) ∧
        (st.mode = .pass → decideFate m o p = (some ⟨p, st.dests, st.cls, false, true⟩, m')) ∧
        (st.mode = .hash → st.hash.getLsbD (((pktId p ^^^ (pktId p / 64)) ^^^ (pktId p / 4096)) % 64) = true →
          decideFate m o p = (some ⟨p, st.dests, st.cls, false, true⟩, m')) ∧
        (st.mode = .hash → st.hash.getLsbD (((pktId p ^^^ (pktId p / 64)) ^^^ (pktId p / 4096)) % 64) = false →
          decideFate m o p = (none, m'))))

/-- A lookup (R125, R126): a hit is used as it stands and moves to the front; a miss makes a result from the map and puts
it at the front, the last of 32 leaving first; the counter of the slot that the result names moves where that slot still
holds the key, and nothing else of the map.
The clash test of a copy at each port it is for (R124), and the hand-over to the ports in the order CO, F0, F1. -/
def Obligations.LookupAndClashTest : Prop :=
  (∀ (m : MapUnit) (key : Key),
      let counted : Option Nat → Prop := fun named =>
        (∀ (n : Nat) (x : MapSlot), m.slots[n]? = some (some x) → (lookup m key).2.slots[n]? = some (some ⟨x.entry,
          if named = some n ∧ x.entry.key = key then (x.counter + 1) % 4294967296 else x.counter⟩)) ∧
        (∀ n : Nat, m.slots[n]? = some none → (lookup m key).2.slots[n]? = some none)
      (∀ r : CacheResult, m.cache.find? (fun x => decide (x.key = key)) = some r →
        (lookup m key).1 = r.found.map (·.2) ∧
        (lookup m key).2.cache = r :: m.cache.filter (fun x => decide (x.key ≠ key)) ∧ counted (r.found.map (·.1))) ∧
      (m.cache.find? (fun x => decide (x.key = key)) = none →
        (lookup m key).1 = (findKey m.slots key).map (fun x => x.2.entry.route) ∧
        (lookup m key).2.cache =
          ⟨key, (findKey m.slots key).map (fun x => (x.1, x.2.entry.route))⟩ ::
            (if 32 ≤ m.cache.length then m.cache.dropLast else m.cache) ∧
        counted ((findKey m.slots key).map (·.1))) ∧
      (lookup m key).2.staging = m.staging ∧ (lookup m key).2.origins = m.origins) ∧
  ((∀ (c : Copies) (s : State),
      handCopies c s = handCopy c (handCopy c (handCopy c s portCO) portF0) portF1) ∧
    ∀ (c : Copies) (s : State) (p : PortId),
      (c.dests.has p = false → handCopy c s p = s) ∧
      (c.dests.has p = true →
        (pktId c.packet = s.mgmt.id → handCopy c s p = report 8 .idClash (pktId c.packet) s) ∧
        (c.passed = true →
          (∃ (n : Nat) (x : MapSlot), s.smap.slots[n]? = some (some x) ∧ x.entry.route.action = .route ∧
            x.entry.route.outId = pktId c.packet ∧ x.entry.route.dests.has p = true) →
          handCopy c s p = report 8 .idClash (pktId c.packet) s) ∧
        (pktId c.packet ≠ s.mgmt.id →
          (c.passed = false ∨ ∀ (n : Nat) (x : MapSlot), s.smap.slots[n]? = some (some x) → x.entry.route.action = .route →
            x.entry.route.outId = pktId c.packet → x.entry.route.dests.has p = false) →
          handCopy c s p = portArrive p c.cls c.restamp false c.packet s)))

/-- A packet arriving at a port (R138): which class takes it, which packet is dropped, and that a drop is counted, raised
and reported. -/
def Obligations.PortArrival : Prop :=
  ∀ (p : PortId) (restamp own : Bool) (pkt : Packet) (s : State),
    let q := s.port p
    let places := if p = portCO then 88 else 96
    let depth := q.q1.length + q.q2.length
    let drop : Nat → Bool → Packet → State → State := fun cls ow pk x =>
      let y := (raise (32 + p.val) x).addWork [.occ (.portDrop p)]
      if ow then report 9 .replyLost (byteAt pk 4).toNat y else report (5 + p.val) .queueDrop cls y
    (q.q0.length < 8 → portArrive p 0 restamp own pkt s =
      s.setPort p { q with q0 := q.q0 ++ [⟨pkt, 0, restamp, own, s.time⟩] }) ∧
    (8 ≤ q.q0.length → portArrive p 0 restamp own pkt s =
      drop 0 own pkt (s.setPort p { q with drop0 := (q.drop0 + 1) % 4294967296 })) ∧
    (depth < places → portArrive p 1 restamp own pkt s =
      judgeHoldAt p (s.setPort p { q with q1 := q.q1 ++ [⟨pkt, 1, restamp, own, s.time⟩] })) ∧
    (places ≤ depth → q.q2 = [] → portArrive p 1 restamp own pkt s =
      drop 1 own pkt (s.setPort p { q with drop1 := (q.drop1 + 1) % 4294967296 })) ∧
    (∀ rest last, places ≤ depth → q.q2 = rest ++ [last] → portArrive p 1 restamp own pkt s =
      drop 2 last.own last.packet (s.setPort p
        { q with
          q1 := q.q1 ++ [⟨pkt, 1, restamp, own, s.time⟩], q2 := rest, drop2 := (q.drop2 + 1) % 4294967296 })) ∧
    (depth < places → portArrive p 2 restamp own pkt s =
      judgeHoldAt p (s.setPort p { q with q2 := q.q2 ++ [⟨pkt, 2, restamp, own, s.time⟩] })) ∧
    (places ≤ depth → portArrive p 2 restamp own pkt s =
      drop 2 own pkt (s.setPort p { q with drop2 := (q.drop2 + 1) % 4294967296 }))

/-- The slot events (R139, R140, R142, R146, R152): the schedule advances, a STOPPING port becomes STOPPED, a held CO sends
nothing, class 0 goes first, then the lowest class of a RUNNING port, heads on the management id being dropped as queue
drops, each counted, raised and reported (R138), else a null packet; a packet with its restamp flag set goes out as its restamp
gives it, a skip being counted and reported after the drops (R144; R203 allows either order, log 44). The send of this part's
notice clears notice outstanding (R200). A CO slot in HOLDING counts toward the hold limit, where the hold pauses; a fall of
CO's depth to the low mark ends the hold, its count kept (log 26). The reply of a stop that the slot completes is placed
last. A slot event whose time does not stand has no effect (log 2). -/
def Obligations.SlotEvents : Prop :=
  ∀ (p : PortId) (s : State),
    let q := s.port p
    let sent : Queued → Packet := fun e => (restamped p e s).1
    let after : Nat → Nat → Nat := fun d n => if n = 0 then d else (d + n) % 4294967296
    let told : Nat → State → Queued → State := fun cls x e =>
      let y := raise (32 + p.val) x
      if e.own then report 9 .replyLost (byteAt e.packet 4).toNat y else report (5 + p.val) .queueDrop cls y
    let freed : Queued → EventUnit → EventUnit := fun e v =>
      if e.own = true ∧ (byteAt e.packet 4).toNat = 3 then { v with outstanding := false } else v
    (s.time ≠ q.nextSlot → ∃ t, exec (.slotEvent p) s = .next t ∧ Happened s t) ∧
    (s.time = q.nextSlot → ∃ b a t, exec (.slotEvent p) s = .next t ∧ Happened a t ∧
      (q.pstate ≠ .stopping ∨ q.pendingStop = none → a = b) ∧
      (∀ tag, q.pstate = .stopping → q.pendingStop = some tag → a = sendReply tag 0x29 (.done []) b) ∧
      (b.port p).nextSlot = (q.nextSlot + q.interval) % 281474976710656 ∧ (b.port p).interval = q.interval ∧
      (b.port p).pstate = (if q.pstate = .stopping then .stopped else q.pstate) ∧
      (b.port p).pendingStop = (if q.pstate = .stopping then none else q.pendingStop) ∧
      (∀ k, k ≠ p → b.port k = s.port k) ∧ (b.port p).drop0 = q.drop0 ∧
      b = { s with ports := b.ports, co := b.co, ev := b.ev, log := b.log, work := b.work } ∧
      (p = portCO → s.co.held = true →
        b.port p = { b.port p with
          q0 := q.q0, q1 := q.q1, q2 := q.q2, wire := none, drop0 := q.drop0, drop1 := q.drop1
          drop2 := q.drop2, skipped := q.skipped } ∧ b.co.heldSlots = (s.co.heldSlots + 1) % 4294967296 ∧
        b.ev = s.ev ∧ b.log = s.log ∧ b.work = s.work) ∧
      ((p = portCO → s.co.held = false) →
        let follows : EventUnit → EventUnit := fun v =>
          if p ≠ portCO then v else if b.co.hold = .idle then lowerIn v 31 else raiseIn v 31
        let sends : Queued → State → Prop := fun e x =>
          (b.port p).wire = some (sent e) ∧ (b.port p).skipped = ((restamped p e s).2.port p).skipped ∧
          b.log = (restamped p e x).2.log
        b.co.heldSlots = s.co.heldSlots ∧
        (∀ e rest, q.q0 = e :: rest →
          sends e s ∧ b.ev = freed e (restamped p e s).2.ev ∧ (b.port p).q0 = rest ∧ (b.port p).q1 = q.q1 ∧
          (b.port p).q2 = q.q2 ∧ (b.port p).drop1 = q.drop1 ∧ (b.port p).drop2 = q.drop2 ∧ b.work = s.work) ∧
        (q.q0 = [] → q.pstate ≠ .running →
          (b.port p).wire = some nullPacket ∧ (b.port p).q0 = [] ∧ (b.port p).q1 = q.q1 ∧ (b.port p).q2 = q.q2 ∧
          (b.port p).drop1 = q.drop1 ∧ (b.port p).drop2 = q.drop2 ∧ (b.port p).skipped = q.skipped ∧
          b.ev = s.ev ∧ b.log = s.log ∧ b.work = s.work) ∧
        (∀ gone e rest, q.q0 = [] → q.pstate = .running → q.q1 = gone ++ e :: rest →
          (∀ x ∈ gone, pktId x.packet = s.mgmt.id) → pktId e.packet ≠ s.mgmt.id →
          let x := gone.foldl (told 1) s
          sends e x ∧ b.ev = follows (freed e (restamped p e x).2.ev) ∧
          (b.port p).q0 = [] ∧ (b.port p).q1 = rest ∧ (b.port p).q2 = q.q2 ∧
          (b.port p).drop1 = after q.drop1 gone.length ∧ (b.port p).drop2 = q.drop2 ∧
          b.work = s.work ++ List.replicate gone.length (.occ (.portDrop p))) ∧
        (∀ gone e rest, q.q0 = [] → q.pstate = .running → (∀ x ∈ q.q1, pktId x.packet = s.mgmt.id) →
          q.q2 = gone ++ e :: rest → (∀ x ∈ gone, pktId x.packet = s.mgmt.id) → pktId e.packet ≠ s.mgmt.id →
          let x := gone.foldl (told 2) (q.q1.foldl (told 1) s)
          sends e x ∧ b.ev = follows (freed e (restamped p e x).2.ev) ∧
          (b.port p).q0 = [] ∧ (b.port p).q1 = [] ∧ (b.port p).q2 = rest ∧
          (b.port p).drop1 = after q.drop1 q.q1.length ∧ (b.port p).drop2 = after q.drop2 gone.length ∧
          b.work = s.work ++ List.replicate (q.q1.length + gone.length) (.occ (.portDrop p))) ∧
        (q.q0 = [] → q.pstate = .running → (∀ x ∈ q.q1, pktId x.packet = s.mgmt.id) →
          (∀ x ∈ q.q2, pktId x.packet = s.mgmt.id) →
          let x := q.q2.foldl (told 2) (q.q1.foldl (told 1) s)
          (b.port p).wire = some nullPacket ∧ (b.port p).q0 = [] ∧ (b.port p).q1 = [] ∧ (b.port p).q2 = [] ∧
          (b.port p).drop1 = after q.drop1 q.q1.length ∧ (b.port p).drop2 = after q.drop2 q.q2.length ∧
          (b.port p).skipped = q.skipped ∧ b.log = x.log ∧ b.ev = follows x.ev ∧
          b.work = s.work ++ List.replicate (q.q1.length + q.q2.length) (.occ (.portDrop p)))) ∧
      (p ≠ portCO → b.co = s.co) ∧
      (p = portCO →
        b.co = { s.co with hold := b.co.hold, holdCount := b.co.holdCount, heldSlots := b.co.heldSlots } ∧
        let depth := (b.port p).q1.length + (b.port p).q2.length
        let judged := s.co.held = false ∧ q.q0 = [] ∧ q.pstate = .running
        (s.co.hold = .holding → (¬judged ∨ s.co.low < depth) → b.co.holdCount = s.co.holdCount + 1 ∧
          b.co.hold = (if s.co.limit ≤ s.co.holdCount + 1 then .paused else .holding)) ∧
        (s.co.hold ≠ .idle → judged → depth ≤ s.co.low → b.co.hold = .idle ∧ b.co.holdCount = s.co.holdCount) ∧
        (s.co.hold = .paused → (¬judged ∨ s.co.low < depth) →
          b.co.hold = .paused ∧ b.co.holdCount = s.co.holdCount) ∧
        (s.co.hold = .idle → judged → s.co.high ≤ depth → b.co.hold = .holding ∧ b.co.holdCount = 0) ∧
        (s.co.hold = .idle → (¬judged ∨ depth < s.co.high) →
          b.co.hold = .idle ∧ b.co.holdCount = s.co.holdCount)))

/-- The restamp at a send (R143, R144): the clock reference moves on by the residence, modulo 2^33 × 300, every other bit
stays; an extension of 300 or more is left, counted and reported. -/
def Obligations.Restamp : Prop :=
  (∀ (p : Packet) (residence : Nat), p.length = 188 →
    clockBase (correctClock p residence) * 300 + clockExt (correctClock p residence) =
      (clockBase p * 300 + clockExt p + residence) % 2576980377600 ∧
    clockExt (correctClock p residence) < 300 ∧
    clockWord (correctClock p residence) / 512 % 64 = clockWord p / 512 % 64 ∧
    (correctClock p residence).length = 188 ∧
    ∀ k, (k < 6 ∨ 12 ≤ k) → byteAt (correctClock p residence) k = byteAt p k) ∧
  (∀ (p : PortId) (e : Queued) (s : State), s.time < 281474976710656 → e.arrival < 281474976710656 →
    ((e.restamp = false ∨ carriesClock e.packet = false) → restamped p e s = (e.packet, s)) ∧
    (e.restamp = true → carriesClock e.packet = true → clockExt e.packet < 300 →
      restamped p e s = (correctClock e.packet ((s.time + 281474976710656 - e.arrival) % 281474976710656), s)) ∧
    (e.restamp = true → carriesClock e.packet = true → 300 ≤ clockExt e.packet →
      restamped p e s = (e.packet, report (5 + p.val) .restampSkipped (pktId e.packet)
        (s.setPort p { s.port p with skipped := ((s.port p).skipped + 1) % 4294967296 }))))

/-- The chain-input hold judged after a change of CO's stream depth (R152), CI_HOLDING following it: IDLE to HOLDING with a
count of 0 at the high mark, and to IDLE at the low mark, where the model keeps the count, which R152 leaves blank (log 26).
The row of the CO slot events is in `SlotEvents`, that of an arriving unit in `CiFraming`. The two rows of the CO hold line
change only whether CO is held (R142). -/
def Obligations.ChainHold : Prop :=
  (∀ s : State,
    let d := (s.port portCO).q1.length + (s.port portCO).q2.length
    (s.co.hold = .idle → s.co.high ≤ d →
      judgeHold s = raise 31 { s with co := { s.co with hold := .holding, holdCount := 0 } }) ∧
    (s.co.hold = .idle → d < s.co.high → judgeHold s = { s with ev := lowerIn s.ev 31 }) ∧
    (s.co.hold ≠ .idle → d ≤ s.co.low →
      judgeHold s = { s with co := { s.co with hold := .idle }, ev := lowerIn s.ev 31 }) ∧
    (s.co.hold ≠ .idle → s.co.low < d → judgeHold s = raise 31 s)) ∧
  (∀ s : State, ∃ t, exec .coHoldAssert s = .next t ∧ Happened { s with co := { s.co with held := true } } t) ∧
  (∀ s : State, ∃ t, exec .coHoldRelease s = .next t ∧ Happened { s with co := { s.co with held := false } } t)

/-- One monitor and one packet (R156 to R159): the masked bytes in ascending order with those beyond the payload skipped,
and the CRC-16 over them, polynomial 1021h from FFFFh, most significant bit first; which packets the monitor considers,
what counts as a hit, and what a hit does. An arrival is offered to all eight monitors; that they take it in ascending number
is the model's choice (log 46). -/
def Obligations.MonitorTakesPacket : Prop :=
  (∀ (m : Monitor) (p : Packet),
    let shift : BitVec 16 → BitVec 16 := fun r => if r.getLsbD 15 then (r <<< 1) ^^^ 0x1021#16 else r <<< 1
    let taken : BitVec 16 → Byte → BitVec 16 := fun r b =>
      (List.range 8).foldl (fun x _ => shift x) (r ^^^ (b.setWidth 16 <<< 8))
    ∃ places : List Nat, places.Pairwise (· < ·) ∧
      (∀ j, j ∈ places ↔ j < 64 ∧ m.mask.getLsbD j = true ∧ m.offset + j < (payloadSpan p).2) ∧
      maskedCrc m p =
        ((places.map (fun j => byteAt p ((payloadSpan p).1 + (m.offset + j)))).foldl taken 0xFFFF#16).toNat) ∧
  (∀ (origin : Nat) (p : Packet) (s : State),
    offer origin p s = ([0, 1, 2, 3, 4, 5, 6, 7] : List MonitorId).foldl (offerTo origin p) s) ∧
  ∀ (origin : Nat) (p : Packet) (s : State) (i : MonitorId),
    let m := s.monitor i
    let c := maskedCrc m p
    let considered := m.enabled = true ∧ m.armed = true ∧ origin = m.origin ∧ pktId p = m.id ∧ pktError p = false ∧
      (pktStart p = true ∨ m.startOnly = false) ∧ m.offset < (payloadSpan p).2
    let hitBy : Monitor → State := fun x =>
      (raise (35 + i.val) (s.setMonitor i
        { x with
          capture := some ⟨p, s.time, c⟩, hits := if m.hits < 65535 then m.hits + 1 else m.hits
          armed := if m.once then false else m.armed })).addWork [.occ (.monitorHit i)]
    (¬considered → offerTo origin p s i = s) ∧
    (considered → m.kind = .pattern → c = m.expected → offerTo origin p s i = hitBy m) ∧
    (considered → m.kind = .pattern → c ≠ m.expected → offerTo origin p s i = s) ∧
    (considered → m.kind = .change → m.refValid = false →
      offerTo origin p s i = s.setMonitor i { m with refCrc := c, refValid := true }) ∧
    (considered → m.kind = .change → m.refValid = true → c = m.refCrc → offerTo origin p s i = s) ∧
    (considered → m.kind = .change → m.refValid = true → c ≠ m.refCrc →
      offerTo origin p s i = hitBy { m with refCrc := c })

/-! ### Requests that read -/

/-- The reads answer DONE, or CLAMPED for a MAP READ whose slot count lies outside 1 to 12 and is clamped to it (R130), with
the contents their rules list, taken from the state the request finds, and change nothing
(R22, R58, R70, R97, R114, R118, R130, R150, R163, R176, R194, R202, R204). The order of bytes where the spec leaves it is
log 24; that the unused bits of a flag set are 0 is the model's choice (log 51). -/
def Obligations.ReadsChangeNothing : Prop :=
  ∀ (tag : Nat) (s : State),
    (∃ t, exec (.ident ⟨tag, none⟩) s = .next t ∧ Answered tag 0x01 (.done (identBytes s)) s t) ∧
    (∀ l : LaneId, ∃ t, exec (.laneRead ⟨tag, none⟩ l.val false) s = .next t ∧
      Answered tag 0x13 (.done (laneReadBytes s l)) s t) ∧
    (∀ l : LaneId, ∃ t, exec (.profileRead ⟨tag, none⟩ l.val) s = .next t ∧
      Answered tag 0x14 (.done (profileBytes (s.lane l))) s t) ∧
    (∀ start, start ≤ 1023 → ∃ t, exec (.poolRead ⟨tag, none⟩ start) s = .next t ∧
      Answered tag 0x19 (.done (poolReadBytes s start)) s t) ∧
    (∃ t, exec (.decoderRead ⟨tag, none⟩ false) s = .next t ∧ Answered tag 0x1B (.done (decoderReadBytes s)) s t) ∧
    (∀ first count, first ≤ 1023 →
      let n := clamp 1 12 count
      ∃ t, exec (.mapRead ⟨tag, none⟩ first count false) s = .next t ∧
        Answered tag 0x23 ⟨if count < 1 ∨ 12 < count then .clamped else .done, 0,
          b2 (entryCount s.smap.slots) ++ bBool s.smap.staging.isSome ++
            b1 ((s.smap.slots.drop first).take n).length ++ ((s.smap.slots.drop first).take n).flatMap slotBytes⟩ s t) ∧
    (∃ t, exec (.originRead ⟨tag, none⟩) s = .next t ∧
      Answered tag 0x26 (.done ([0, 1, 2, 3, 4].flatMap (fun k => originBytes (originSetting s.smap k)) ++
        [0, 1, 2, 3, 4].flatMap (fun k =>
          b1 (s.smap.cache.filter (fun r => decide (r.key.origin = k))).length))) s t) ∧
    (∀ p : PortId, ∃ t, exec (.portRead ⟨tag, none⟩ p.val false) s = .next t ∧
      Answered tag 0x2C (.done (portBytes (s.port p) ++ (if p = portCO then coBytes s else []))) s t) ∧
    (∀ m : MonitorId,
      (∃ t, exec (.monitorRead ⟨tag, none⟩ m.val 0 false) s = .next t ∧
        Answered tag 0x32 (.done (monitorPart0 (s.monitor m))) s t) ∧
      (∃ t, exec (.monitorRead ⟨tag, none⟩ m.val 1 false) s = .next t ∧
        Answered tag 0x32 (.done (monitorPartBytes (s.monitor m) 0)) s t) ∧
      (∃ t, exec (.monitorRead ⟨tag, none⟩ m.val 2 false) s = .next t ∧
        Answered tag 0x32 (.done (monitorPartBytes (s.monitor m) 94)) s t)) ∧
    (∀ i : TimerId, ∃ t, exec (.timerRead ⟨tag, none⟩ i.val false) s = .next t ∧
      Answered tag 0x3B (.done (timerBytes (s.timer i))) s t) ∧
    (∃ t, exec (.eventRead ⟨tag, none⟩) s = .next t ∧
      Answered tag 0x41 (.done (flagBytes 7 s.ev.flags.toNat ++ flagBytes 7 s.ev.enables.toNat ++
        flagBytes 7 s.ev.pending.toNat ++ bBool s.ev.outstanding)) s t) ∧
    (∃ t, exec (.faultRead ⟨tag, none⟩) s = .next t ∧
      Answered tag 0x44 (.done (b1 s.log.records.length ++ s.log.records.flatMap faultBytes ++ bBool s.log.overflow)) s t)

/-- A read with its clear flag answers the values before clearing and then clears what its rule names (R22, R114, R130,
R150, R163, R176). A MAP READ gives the values of the state it finds, its count clamped to 1 to 12; the order of bytes where
the spec leaves it is log 24. -/
def Obligations.ClearingReads : Prop :=
  ∀ (tag : Nat) (s : State),
    (∀ l : LaneId, ∃ t, exec (.laneRead ⟨tag, none⟩ l.val true) s = .next t ∧
      Answered tag 0x13 (.done (laneReadBytes s l))
        (s.setLane l { s.lane l with counters := ⟨0, 0, 0, 0, 0, 0, 0, 0, 0⟩ }) t) ∧
    (∃ a t, exec (.decoderRead ⟨tag, none⟩ true) s = .next t ∧ Answered tag 0x1B (.done (decoderReadBytes s)) a t ∧
      a = { s with dec := { s.dec with stats := a.dec.stats } } ∧ ∀ l : LaneId, a.dec.stats[l] = ⟨0, 0⟩) ∧
    (∀ first count, first ≤ 1023 → ∃ a t, exec (.mapRead ⟨tag, none⟩ first count true) s = .next t ∧
      Answered tag 0x23 ⟨if count < 1 ∨ 12 < count then .clamped else .done, 0,
        b2 (entryCount s.smap.slots) ++ bBool s.smap.staging.isSome ++
          b1 ((s.smap.slots.drop first).take (clamp 1 12 count)).length ++
          ((s.smap.slots.drop first).take (clamp 1 12 count)).flatMap slotBytes⟩ a t ∧
      a = { s with smap := { s.smap with slots := a.smap.slots } } ∧
      (∀ (n : Nat) (x : MapSlot), s.smap.slots[n]? = some (some x) →
        a.smap.slots[n]? = some (some ⟨x.entry,
          if first ≤ n ∧ n < first + clamp 1 12 count then 0 else x.counter⟩)) ∧
      (∀ n : Nat, s.smap.slots[n]? = some none → a.smap.slots[n]? = some none)) ∧
    (∀ p : PortId, ∃ a t, exec (.portRead ⟨tag, none⟩ p.val true) s = .next t ∧
      Answered tag 0x2C (.done (portBytes (s.port p) ++ (if p = portCO then coBytes s else []))) a t ∧
      a = { s.setPort p { s.port p with drop0 := 0, drop1 := 0, drop2 := 0, skipped := 0 } with
        co := { s.co with heldSlots := if p = portCO then 0 else s.co.heldSlots } }) ∧
    (∀ (m : MonitorId) (part : Nat), part ≤ 2 → ∃ t r, exec (.monitorRead ⟨tag, none⟩ m.val part true) s = .next t ∧
      r = (if part = 0 then monitorPart0 (s.monitor m)
        else if part = 1 then monitorPartBytes (s.monitor m) 0 else monitorPartBytes (s.monitor m) 94) ∧
      Answered tag 0x32 (.done r) (s.setMonitor m { s.monitor m with hits := 0, capture := none }) t) ∧
    (∀ i : TimerId, ∃ t, exec (.timerRead ⟨tag, none⟩ i.val true) s = .next t ∧
      Answered tag 0x3B (.done (timerBytes (s.timer i)))
        (s.setTimer i { s.timer i with lastSpan := 0, maxSpan := 0 }) t)

/-- A lane, pair, origin, port, monitor or timer that does not exist is refused NO_OBJECT; a start page or first slot above
1023 and a part above 2 are refused BAD_PARAM; nothing changes (R19, R20, R21, R71, R97, R117, R130, R146, R163, R173).
That a MONITOR READ with both a monitor and a part that do not exist is refused NO_OBJECT is the model's choice (log 47).
LANE SETUP of a lane that exists (R19, R15): BUSY unless the lane is OFF; then the clamped record is loaded, or refused
whole. -/
def Obligations.LaneSetupAndMissingObjects : Prop :=
  (∀ (tag n : Nat) (s : State),
      (4 ≤ n →
        (∀ f, ∃ t, exec (.laneSetup ⟨tag, none⟩ n f) s = .next t ∧ Answered tag 0x10 (.refused .noObject) s t) ∧
        (∃ t, exec (.laneStart ⟨tag, none⟩ n) s = .next t ∧ Answered tag 0x11 (.refused .noObject) s t) ∧
        (∃ t, exec (.laneStop ⟨tag, none⟩ n) s = .next t ∧ Answered tag 0x12 (.refused .noObject) s t) ∧
        (∀ b, ∃ t, exec (.laneRead ⟨tag, none⟩ n b) s = .next t ∧ Answered tag 0x13 (.refused .noObject) s t) ∧
        (∃ t, exec (.profileRead ⟨tag, none⟩ n) s = .next t ∧ Answered tag 0x14 (.refused .noObject) s t)) ∧
      (2 ≤ n →
        (∃ t, exec (.pair ⟨tag, none⟩ n) s = .next t ∧ Answered tag 0x15 (.refused .noObject) s t) ∧
        (∃ t, exec (.unpair ⟨tag, none⟩ n) s = .next t ∧ Answered tag 0x16 (.refused .noObject) s t)) ∧
      (5 ≤ n → ∀ f, ∃ t, exec (.originSetup ⟨tag, none⟩ n f) s = .next t ∧
        Answered tag 0x25 (.refused .noObject) s t) ∧
      (3 ≤ n →
        (∀ i a b c, ∃ t, exec (.portSetup ⟨tag, none⟩ n i a b c) s = .next t ∧
          Answered tag 0x28 (.refused .noObject) s t) ∧
        (∃ t, exec (.portStop ⟨tag, none⟩ n) s = .next t ∧ Answered tag 0x29 (.refused .noObject) s t) ∧
        (∃ t, exec (.portStart ⟨tag, none⟩ n) s = .next t ∧ Answered tag 0x2A (.refused .noObject) s t) ∧
        (∃ t, exec (.portFlush ⟨tag, none⟩ n) s = .next t ∧ Answered tag 0x2B (.refused .noObject) s t) ∧
        (∀ b, ∃ t, exec (.portRead ⟨tag, none⟩ n b) s = .next t ∧ Answered tag 0x2C (.refused .noObject) s t)) ∧
      (8 ≤ n →
        (∀ f, ∃ t, exec (.monitorSetup ⟨tag, none⟩ n f) s = .next t ∧ Answered tag 0x30 (.refused .noObject) s t) ∧
        (∃ t, exec (.monitorArm ⟨tag, none⟩ n) s = .next t ∧ Answered tag 0x31 (.refused .noObject) s t) ∧
        (∀ part b, ∃ t, exec (.monitorRead ⟨tag, none⟩ n part b) s = .next t ∧
          Answered tag 0x32 (.refused .noObject) s t) ∧
        (∀ f, ∃ t, exec (.timerSetup ⟨tag, none⟩ n f) s = .next t ∧ Answered tag 0x38 (.refused .noObject) s t) ∧
        (∃ t, exec (.timerStart ⟨tag, none⟩ n) s = .next t ∧ Answered tag 0x39 (.refused .noObject) s t) ∧
        (∃ t, exec (.timerStop ⟨tag, none⟩ n) s = .next t ∧ Answered tag 0x3A (.refused .noObject) s t) ∧
        (∀ b, ∃ t, exec (.timerRead ⟨tag, none⟩ n b) s = .next t ∧ Answered tag 0x3B (.refused .noObject) s t)) ∧
      (1023 < n →
        (∃ t, exec (.poolRead ⟨tag, none⟩ n) s = .next t ∧ Answered tag 0x19 (.refused .badParam) s t) ∧
        (∀ k b, ∃ t, exec (.mapRead ⟨tag, none⟩ n k b) s = .next t ∧ Answered tag 0x23 (.refused .badParam) s t)) ∧
      (2 < n → ∀ (m : MonitorId) b, ∃ t, exec (.monitorRead ⟨tag, none⟩ m.val n b) s = .next t ∧
        Answered tag 0x32 (.refused .badParam) s t)) ∧
  (∀ (tag : Nat) (l : LaneId) (f : SetupForm) (s : State),
      ∃ t, exec (.laneSetup ⟨tag, none⟩ l.val f) s = .next t ∧
        ((s.lane l).state ≠ .off → Answered tag 0x10 (.refused .busy) s t) ∧
        ((s.lane l).state = .off → setupOk (clampSetup f) = true →
          Answered tag 0x10 ⟨if clampSetup f = rawSetup f then .done else .clamped, 0, []⟩
            (s.setLane l { s.lane l with setup := clampSetup f }) t) ∧
        ((s.lane l).state = .off → setupOk (clampSetup f) = false → Answered tag 0x10 (.refused .badParam) s t))

/-! ### Lane and pair requests -/

/-- LANE START of a lane that exists (R20): PAIRED for a secondary, BUSY unless the lane is OFF; then the lane, and
with a primary its secondary, goes to SEARCH at position 0 with reason NONE and its counters kept. LANE STOP of a lane
that exists (R21, R73): PAIRED for a secondary; DONE without effect for a lane that is OFF; else the lane, and with a
primary its secondary, goes to OFF, its pages and ready list are gone, its codeword in flight is marked, and reason
and counters stay; no reference is left, and the symbols that wait are discarded (R75, R77). That a single primary's waiting
symbols, left by an UNPAIR, go with its group (log 21), and that the counts of the frame go with a pair's (log 33), are the
model's choice. Entry to SEARCH and entry to OFF leave w and the timing reference offset 0 and open placement clear (R45); that
the samples are cleared is the model's reading (log 14). -/
def Obligations.LaneStartAndStop : Prop :=
  (∀ (tag : Nat) (l : LaneId) (s : State),
      let formed := (s.pairAt (pairOf l)).formed
      ∃ t, exec (.laneStart ⟨tag, none⟩ l.val) s = .next t ∧
        (formed = true → l.val % 2 = 1 → Answered tag 0x11 (.refused .paired) s t) ∧
        ((formed = false ∨ l.val % 2 = 0) → (s.lane l).state ≠ .off → Answered tag 0x11 (.refused .busy) s t) ∧
        ((formed = false ∨ l.val % 2 = 0) → (s.lane l).state = .off →
          ∃ a, Answered tag 0x11 (.done []) a t ∧ a = { s with lanes := a.lanes } ∧
            (∀ k, (k = l ∨ (formed = true ∧ k = partnerOf l)) →
              (a.lane k).state = .search ∧ (a.lane k).reason = .none ∧ (a.lane k).sweepPos = 0 ∧ (a.lane k).attempt = 0 ∧
              (a.lane k).samples = [] ∧ (a.lane k).candidate = none ∧ (a.lane k).layout = none ∧
              (a.lane k).profile = [] ∧ (a.lane k).w = 0 ∧ (a.lane k).offset = 0 ∧ (a.lane k).openPl = false ∧
              (a.lane k).quality = ⟨none, none, none, none, .none⟩ ∧
              (a.lane k).counters = (s.lane k).counters ∧ (a.lane k).setup = (s.lane k).setup ∧
              (a.lane k).group = (s.lane k).group ∧ (a.lane k).ready = (s.lane k).ready) ∧
            (∀ k, k ≠ l → (formed = false ∨ k ≠ partnerOf l) → a.lane k = s.lane k))) ∧
  (∀ (tag : Nat) (l : LaneId) (s : State),
      let formed := (s.pairAt (pairOf l)).formed
      ∃ t, exec (.laneStop ⟨tag, none⟩ l.val) s = .next t ∧
        (formed = true → l.val % 2 = 1 → Answered tag 0x12 (.refused .paired) s t) ∧
        ((formed = false ∨ l.val % 2 = 0) → (s.lane l).state = .off → Answered tag 0x12 (.done []) s t) ∧
        ((formed = false ∨ l.val % 2 = 0) → (s.lane l).state ≠ .off →
          ∃ a, Answered tag 0x12 (.done []) a t ∧
            a = { s with lanes := a.lanes, pairs := a.pairs, pool := a.pool, dec := a.dec, ev := a.ev } ∧
            (∀ k, (k = l ∨ (formed = true ∧ k = partnerOf l)) →
              (a.lane k).state = .off ∧ (a.lane k).reason = (s.lane k).reason ∧
              (a.lane k).counters = (s.lane k).counters ∧ (a.lane k).setup = (s.lane k).setup ∧
              (a.lane k).sweepPos = (s.lane k).sweepPos ∧ (a.lane k).profile = [] ∧ (a.lane k).w = 0 ∧
              (a.lane k).offset = 0 ∧ (a.lane k).openPl = false ∧ (a.lane k).quality = ⟨none, none, none, none, .none⟩ ∧
              (a.lane k).layout = none ∧ (a.lane k).candidate = none ∧ (a.lane k).deadline = none) ∧
            (a.lane l).group = none ∧ (a.lane l).ready = [] ∧
            (∀ k, k ≠ l → (formed = false ∨ k ≠ partnerOf l) → a.lane k = s.lane k) ∧
            a.pool.owned l = 0 ∧ (∀ k, k ≠ l → a.pool.owned k = s.pool.owned k) ∧
            a.pool.reserved = s.pool.reserved ∧ a.pool.cells = s.pool.cells ∧
            a.dec = { s.dec with
              inflight := s.dec.inflight.map (fun cw => if cw.owner = l then { cw with marked := true } else cw)
              congested := a.dec.congested } ∧
            (a.dec.congested = true ↔
              (if s.dec.congested then s.dec.low < readyTotal a else s.dec.high ≤ readyTotal a)) ∧
            a.ev = (if a.dec.congested then raiseIn s.ev 28 else lowerIn s.ev 28) ∧
            (∀ p, p ≠ pairOf l → a.pairAt p = s.pairAt p) ∧
            (formed = true → a.pairAt (pairOf l) =
              { s.pairAt (pairOf l) with ref := .none, waiting := [], contrib := 0, doneFrame := none }) ∧
            (formed = false → l.val % 2 = 0 → a.pairAt (pairOf l) = { s.pairAt (pairOf l) with waiting := [] }) ∧
            (formed = false → l.val % 2 = 1 → a.pairAt (pairOf l) = s.pairAt (pairOf l))))

/-- PAIR and UNPAIR of a pair that exists (R45, R65, R71, R72, R79, R95). UNPAIR with the primary in LOCK or FADE leaves the ready
lists, the pool and the decoder as they stand; the group goes on unless the secondary was the reference, and the symbols
that wait stay with the primary, to be written at its next symbol event in LOCK (the model's choice, log 21). That a pair
just formed or dissolved has last frame counter 0, contribution count 0 and no last completed frame is the model's choice
too (logs 33, 34). The first cell index of a primary whose own record did not carry the pair's pipe is left open here (log 49). -/
def Obligations.PairRequests : Prop :=
  ∀ (tag : Nat) (p : PairId) (s : State),
    let first := primaryOf p
    let second := secondaryOf p
    let serves := (s.lane first).state = .lock ∨ (s.lane first).state = .fade
    (∃ t, exec (.pair ⟨tag, none⟩ p.val) s = .next t ∧
      (((s.lane first).state ≠ .off ∨ (s.lane second).state ≠ .off) → Answered tag 0x15 (.refused .busy) s t) ∧
      ((s.lane first).state = .off → (s.lane second).state = .off → (s.pairAt p).formed = true →
        Answered tag 0x15 (.done []) s t) ∧
      ((s.lane first).state = .off → (s.lane second).state = .off → (s.pairAt p).formed = false →
        Answered tag 0x15 (.done []) (s.setPair p ⟨true, .none, .none, [], [], none, 0, 0, none⟩) t)) ∧
    (∃ t, exec (.unpair ⟨tag, none⟩ p.val) s = .next t ∧
      ((s.pairAt p).formed = false → Answered tag 0x16 (.done []) s t) ∧
      ((s.pairAt p).formed = true → ∃ a, Answered tag 0x16 (.done []) a t ∧
        a.pairAt p = ⟨false, .none, .none, [],
          if serves ∧ (s.pairAt p).ref ≠ .secondary then (s.pairAt p).waiting else [], none, 0, 0, none⟩ ∧
        (∀ q, q ≠ p → a.pairAt q = s.pairAt q) ∧ (∀ k, k ≠ first → k ≠ second → a.lane k = s.lane k) ∧
        ((s.lane second).state = .off → a.lane second = s.lane second) ∧
        ((s.lane second).state ≠ .off →
          (a.lane second).state = .search ∧ (a.lane second).sweepPos = 0 ∧ (a.lane second).attempt = 0 ∧
          (a.lane second).candidate = none ∧ (a.lane second).profile = [] ∧ (a.lane second).w = 0 ∧
          (a.lane second).offset = 0 ∧ (a.lane second).openPl = false ∧
          (a.lane second).quality = ⟨none, none, none, none, .none⟩ ∧
          (a.lane second).reason = (s.lane second).reason ∧ (a.lane second).counters = (s.lane second).counters ∧
          (a.lane second).setup = (s.lane second).setup) ∧
        (serves → a.pool = s.pool ∧ a.dec = s.dec ∧
          ∃ y : Option Layout, a.lane first = { s.lane first with
            layout := y, group := if (s.pairAt p).ref = .secondary then none else (s.lane first).group } ∧
          ((s.pairAt p).layout = none → y = (s.lane first).layout) ∧
          (∀ z v, (s.pairAt p).layout = some z → (s.lane first).layout = some v →
            ∃ cell, y = some { v with version := z.version, pipe := some ⟨z.params, cell⟩ } ∧
              ∀ w, v.pipe = some w → cell = w.first)) ∧
        (¬serves →
          a.pool.owned first = 0 ∧ (∀ k, k ≠ first → a.pool.owned k = s.pool.owned k) ∧ a.pool.cells = s.pool.cells ∧
          a.lane first = { s.lane first with group := none, ready := [], counters := { (s.lane first).counters with
            dropped := ((s.lane first).counters.dropped + (s.lane first).ready.length) % 4294967296 } } ∧
          a.dec = { s.dec with congested := a.dec.congested } ∧
          (a.dec.congested = true ↔
            (if s.dec.congested then s.dec.low < readyTotal a else s.dec.high ≤ readyTotal a))) ∧
        ((s.pairAt p).pstate ≠ .none → a.ev.flags.getLsbD (26 + p.val) = true) ∧
        a.smap = s.smap ∧ a.ports = s.ports ∧ a.co = s.co ∧ a.ci = s.ci ∧ a.monitors = s.monitors ∧ a.timers = s.timers ∧
        a.time = s.time ∧ a.log = s.log ∧ a.pool.reserved = s.pool.reserved))

/-! ### Pool and decoder requests -/

/-- POOL SETUP (R86): clamped to 1024 each, refused CAPACITY when the sum or the free-page law fails, else all four
replaced at once with no page moved. DECODER SETUP (R113, R101): the marks clamped and set apart, and the congestion flag
judged against them at once, with CONGESTED following it. -/
def Obligations.PoolAndDecoderSetup : Prop :=
  (∀ (tag r0 r1 r2 r3 : Nat) (s : State),
      let v : Vector Nat 4 := #v[min r0 1024, min r1 1024, min r2 1024, min r3 1024]
      let unmet : Nat := (v[0] - s.pool.owned 0) + (v[1] - s.pool.owned 1) + (v[2] - s.pool.owned 2) + (v[3] - s.pool.owned 3)
      ∃ t, exec (.poolSetup ⟨tag, none⟩ r0 r1 r2 r3) s = .next t ∧
        (1024 < v[0] + v[1] + v[2] + v[3] → Answered tag 0x18 (.refused .capacity) s t) ∧
        (v[0] + v[1] + v[2] + v[3] ≤ 1024 → s.pool.freeCount < unmet → Answered tag 0x18 (.refused .capacity) s t) ∧
        (v[0] + v[1] + v[2] + v[3] ≤ 1024 → unmet ≤ s.pool.freeCount →
          Answered tag 0x18
            ⟨if 1024 < r0 ∨ 1024 < r1 ∨ 1024 < r2 ∨ 1024 < r3 then .clamped else .done, 0, []⟩
            { s with pool := { s.pool with reserved := v } } t)) ∧
  (∀ (tag high low : Nat) (s : State),
      let hi := clamp 2 1023 high
      let lo := if hi ≤ clamp 0 1022 low then hi - 1 else clamp 0 1022 low
      let total := (s.lane 0).ready.length + (s.lane 1).ready.length + (s.lane 2).ready.length + (s.lane 3).ready.length
      ∃ c t, exec (.decoderSetup ⟨tag, none⟩ high low) s = .next t ∧
        (s.dec.congested = true → (c = true ↔ lo < total)) ∧ (s.dec.congested = false → (c = true ↔ hi ≤ total)) ∧
        Answered tag 0x1A ⟨if hi = high ∧ lo = low then .done else .clamped, 0, []⟩
          { s with
            dec := { s.dec with high := hi, low := lo, congested := c }
            ev := if c then raiseIn s.ev 28 else lowerIn s.ev 28 } t)

/-! ### Map and origin requests -/

/-- MAP LOAD (R131 to R134): a segment that fails a test closes the staging area, raises MAP_LOAD_ERROR and reports
LOAD_ERROR with the test's code; one taken joins the staging area; a last one whose image is good swaps the map, empties
the cache and raises MAP_SWAPPED. -/
def Obligations.MapLoadResult : Prop :=
  ∀ (tag : Nat) (g : SegmentForm) (s : State),
    let failed : Nat → State := fun code =>
      report 8 .loadError code (raise 30 { s with smap := { s.smap with staging := none } })
    let prior : Staging := s.smap.staging.getD ⟨g.tag, g.total, 0, []⟩
    ∃ t, exec (.mapLoad ⟨tag, none⟩ g) s = .next t ∧
      ((21 < g.count ∨ g.entries.length ≠ g.count) → Answered tag 0x20 (.refused .badParam) (failed 9) t) ∧
      (g.count ≤ 21 → g.entries.length = g.count →
        (∀ code, sequenceTest s.smap.staging g = some code → Answered tag 0x20 (.refused .sequence) (failed code) t) ∧
        (sequenceTest s.smap.staging g = none →
          (entriesOf g.entries = none → Answered tag 0x20 (.refused .badParam) (failed 9) t) ∧
          (∀ es, entriesOf g.entries = some es →
            (g.last = false → Answered tag 0x20 (.done [])
              { s with smap := { s.smap with
                staging := some ⟨prior.tag, prior.total, prior.received + g.count, (prior.entries ++ es).take 1024⟩ } } t) ∧
            (g.last = true →
              let image := (prior.entries ++ es).take 1024
              (1024 < g.total → Answered tag 0x20 (.refused .capacity) (failed 10) t) ∧
              (g.total ≤ 1024 → keysDistinct image = false → Answered tag 0x20 (.refused .exists_) (failed 11) t) ∧
              (g.total ≤ 1024 → keysDistinct image = true → imageConflicts s.mgmt.id image = true →
                Answered tag 0x20 (.refused .conflict) (failed 12) t) ∧
              (g.total ≤ 1024 → keysDistinct image = true → imageConflicts s.mgmt.id image = false →
                Answered tag 0x20 (.done [])
                  (raise 29 { s with smap := { s.smap with
                    slots := image.map (fun e => some ⟨e, 0⟩) ++ List.replicate (1024 - image.length) none
                    cache := [], staging := none } }) t)))))

/-- MAP EDIT (R128, R129): BUSY while a load is open; ADD judged by structure, key, room and claims and placed in the
lowest empty slot with counter 0; REPLACE and REMOVE judged on the slot of the key, the others and the cache untouched. -/
def Obligations.MapEditResult : Prop :=
  ∀ (tag : Nat) (f : EntryForm) (s : State),
    let slots := s.smap.slots
    let held : Key → Nat → MapSlot → Prop := fun key n x =>
      slots[n]? = some (some x) ∧ x.entry.key = key ∧
        ∀ (k : Nat) (y : MapSlot), k < n → slots[k]? = some (some y) → y.entry.key ≠ key
    let conflicts : Option Nat → MapEntry → Prop := fun except e =>
      e.route.outId = s.mgmt.id ∨ (e.key.origin = 4 ∧ e.key.id = s.mgmt.id) ∨
        (e.route.action = .route ∧ ∃ (n : Nat) (x : MapSlot), except ≠ some n ∧ slots[n]? = some (some x) ∧
          x.entry.route.action = .route ∧ x.entry.route.outId = e.route.outId ∧
          x.entry.route.dests.meets e.route.dests = true)
    let put : Nat → Option MapSlot → State := fun n x => { s with smap := { s.smap with slots := slots.set n x } }
    (∃ t, exec (.mapEditAdd ⟨tag, none⟩ f) s = .next t ∧
      (s.smap.staging ≠ none → Answered tag 0x22 (.refused .busy) s t) ∧
      (s.smap.staging = none →
        (entryOf f = none → Answered tag 0x22 (.refused .badParam) s t) ∧
        (∀ e, entryOf f = some e →
          (∀ n x, held e.key n x → Answered tag 0x22 (.refused .exists_) s t) ∧
          ((∀ n x, ¬held e.key n x) →
            ((∀ n : Nat, slots[n]? ≠ some none) → Answered tag 0x22 (.refused .capacity) s t) ∧
            (∀ n : Nat, slots[n]? = some none → (∀ k : Nat, k < n → slots[k]? ≠ some none) →
              (conflicts none e → Answered tag 0x22 (.refused .conflict) s t) ∧
              (¬conflicts none e → Answered tag 0x22 (.done (b2 n)) (put n (some ⟨e, 0⟩)) t)))))) ∧
    (∃ t, exec (.mapEditReplace ⟨tag, none⟩ f) s = .next t ∧
      (s.smap.staging ≠ none → Answered tag 0x22 (.refused .busy) s t) ∧
      (s.smap.staging = none →
        ((4 < f.origin ∨ 8190 < f.inId) → Answered tag 0x22 (.refused .badParam) s t) ∧
        (f.origin ≤ 4 → f.inId ≤ 8190 →
          ((∀ n x, ¬held ⟨f.origin, f.inId⟩ n x) → Answered tag 0x22 (.refused .absent) s t) ∧
          (∀ n x, held ⟨f.origin, f.inId⟩ n x →
            (entryOf f = none → Answered tag 0x22 (.refused .badParam) s t) ∧
            (∀ e, entryOf f = some e →
              (conflicts (some n) e → Answered tag 0x22 (.refused .conflict) s t) ∧
              (¬conflicts (some n) e → Answered tag 0x22 (.done (b2 n)) (put n (some ⟨e, x.counter⟩)) t)))))) ∧
    (∃ t, exec (.mapEditRemove ⟨tag, none⟩ f) s = .next t ∧
      (s.smap.staging ≠ none → Answered tag 0x22 (.refused .busy) s t) ∧
      (s.smap.staging = none →
        ((4 < f.origin ∨ 8190 < f.inId) → Answered tag 0x22 (.refused .badParam) s t) ∧
        (f.origin ≤ 4 → f.inId ≤ 8190 →
          ((∀ n x, ¬held ⟨f.origin, f.inId⟩ n x) → Answered tag 0x22 (.refused .absent) s t) ∧
          (∀ n x, held ⟨f.origin, f.inId⟩ n x → Answered tag 0x22 (.done (b2 n)) (put n none) t))))

/-- MAP ABORT (R135): the staging area is CLOSED, the reply DONE, no event, no fault. MAP INVALIDATE (R127): the results
each granularity removes, the actual granularity and the number removed in the reply, the order of the rest kept; what is
refused, with NONE and 0. ORIGIN SETUP (R117): an origin that does not exist, bad fields and a port shared by two passing
origins are refused; else the whole setting is replaced and the origin's results leave the cache. -/
def Obligations.MapAbortInvalidateAndOriginSetup : Prop :=
  ((∀ (tag : Nat) (s : State), ∃ t, exec (.mapAbort ⟨tag, none⟩) s = .next t ∧
      Answered tag 0x21 (.done []) { s with smap := { s.smap with staging := none } } t) ∧
    ∀ (tag g o i m : Nat) (s : State),
      let removing : Nat → (Key → Bool) → State → Prop := fun actual gone t =>
        let kept := s.smap.cache.filter (fun r => !gone r.key)
        Answered tag 0x24 (.done (b1 actual ++ b1 (s.smap.cache.length - kept.length)))
          { s with smap := { s.smap with cache := kept } } t
      ∃ t, exec (.mapInvalidate ⟨tag, none⟩ g o i m) s = .next t ∧
        (g = 1 → removing 1 (fun _ => true) t) ∧
        (g = 2 → o ≤ 4 → removing 2 (fun k => decide (k.origin = o)) t) ∧
        (g = 3 → o ≤ 4 → i ≤ 8190 → m ≤ 6 →
          removing 3 (fun k => decide (k.origin = o) && decide (k.id / 2 ^ m = i / 2 ^ m)) t) ∧
        (g = 3 → o ≤ 4 → i ≤ 8190 → 7 ≤ m → m ≤ 12 → removing 2 (fun k => decide (k.origin = o)) t) ∧
        ((g = 2 ∧ 4 < o) ∨ (g = 3 ∧ (4 < o ∨ 8190 < i ∨ 12 < m)) ∨ (g ≠ 1 ∧ g ≠ 2 ∧ g ≠ 3) →
          Answered tag 0x24 ⟨.refused, 3, b1 0 ++ b1 0⟩ s t)) ∧
  ((∀ (tag o : Nat) (f : OriginForm) (s : State), 4 < o →
      ∃ t, exec (.originSetup ⟨tag, none⟩ o f) s = .next t ∧ Answered tag 0x25 (.refused .noObject) s t) ∧
    ∀ (tag o : Nat) (f : OriginForm) (s : State), o ≤ 4 →
      let bad := 3 < f.mode ∨ f.dests = 0#8 ∨ f.dests &&& 0xF8#8 ≠ 0#8 ∨ (f.cls ≠ 1 ∧ f.cls ≠ 2)
      let dests : Dests := ⟨f.dests.getLsbD 0, f.dests.getLsbD 1, f.dests.getLsbD 2⟩
      let shared := f.mode ≠ 0 ∧ ∃ k, k ≤ 4 ∧ k ≠ o ∧ (originSetting s.smap k).mode ≠ .drop ∧
        dests.meets (originSetting s.smap k).dests = true
      ∃ t, exec (.originSetup ⟨tag, none⟩ o f) s = .next t ∧
        (bad → Answered tag 0x25 (.refused .badParam) s t) ∧
        (¬bad → shared → Answered tag 0x25 (.refused .conflict) s t) ∧
        (¬bad → ¬shared → ∃ a st, Answered tag 0x25 (.done []) a t ∧
          a = { s with smap := { s.smap with
            origins := a.smap.origins, cache := s.smap.cache.filter (fun r => decide (r.key.origin ≠ o)) } } ∧
          originSetting a.smap o = st ∧ st.mode.code = f.mode ∧ st.dests = dests ∧ st.cls = f.cls ∧
          st.forwardErrored = f.forwardErrored ∧ st.hash = f.hash ∧
          (∀ k, k ≤ 4 → k ≠ o → originSetting a.smap k = originSetting s.smap k)))

/-! ### Port requests -/

/-- PORT SETUP of a port that exists (R149): the values clamped and replaced at once; for CO the hold is judged by the
new marks. PORT FLUSH (R148): classes 1 and 2 of a STOPPED port are emptied and counted, the hold judged; any other
port refuses. PORT STOP and PORT START of a port that exists, by the port's state (R146, R147, R190): the reply to a
stop of a RUNNING port is deferred; a start overtakes a stop, which is answered BUSY first. -/
def Obligations.PortRequests : Prop :=
  ((∀ (tag n : Nat) (s : State), 2 < n →
      ∃ t, exec (.portFlush ⟨tag, none⟩ n) s = .next t ∧ Answered tag 0x2B (.refused .noObject) s t) ∧
    (∀ (tag : Nat) (p : PortId) (s : State),
      ∃ t, exec (.portFlush ⟨tag, none⟩ p.val) s = .next t ∧
        ((s.port p).pstate = .stopped →
          Answered tag 0x2B (.done (b1 ((s.port p).q1.length + (s.port p).q2.length)))
            (judgeHoldAt p (s.setPort p { s.port p with q1 := [], q2 := [] })) t) ∧
        ((s.port p).pstate ≠ .stopped → Answered tag 0x2B (.refused .notStopped) s t)) ∧
    ∀ (tag : Nat) (p : PortId) (interval high low limit : Nat) (s : State),
      let i := clamp 500 65535 interval
      let hi := clamp 1 88 high
      let lo := if hi ≤ clamp 0 87 low then hi - 1 else clamp 0 87 low
      let lim := clamp 1 255 limit
      ∃ t, exec (.portSetup ⟨tag, none⟩ p.val interval high low limit) s = .next t ∧
        (p ≠ portCO → Answered tag 0x28 ⟨if i = interval then .done else .clamped, 0, []⟩
          (s.setPort p { s.port p with interval := i }) t) ∧
        (p = portCO → Answered tag 0x28
          ⟨if i = interval ∧ hi = high ∧ lo = low ∧ lim = limit then .done else .clamped, 0, []⟩
          (judgeHold { s.setPort p { s.port p with interval := i } with
            co := { s.co with high := hi, low := lo, limit := lim } }) t)) ∧
  (∀ (tag : Nat) (p : PortId) (s : State),
      (∃ t, exec (.portStop ⟨tag, none⟩ p.val) s = .next t ∧
        ((s.port p).pstate = .running →
          Happened (s.setPort p { s.port p with pstate := .stopping, pendingStop := some tag }) t) ∧
        ((s.port p).pstate = .stopping → Answered tag 0x29 (.refused .busy) s t) ∧
        ((s.port p).pstate = .stopped → Answered tag 0x29 (.done []) s t)) ∧
      (∃ t, exec (.portStart ⟨tag, none⟩ p.val) s = .next t ∧
        ((s.port p).pstate = .running → Answered tag 0x2A (.done []) s t) ∧
        ((s.port p).pstate = .stopped →
          Answered tag 0x2A (.done []) (s.setPort p { s.port p with pstate := .running }) t) ∧
        ((s.port p).pstate = .stopping →
          let b := s.setPort p { s.port p with pstate := .running, pendingStop := none }
          (∀ old, (s.port p).pendingStop = some old →
            ∃ a, a = sendReply old 0x29 (.refused .busy) b ∧ Answered tag 0x2A (.done []) a t) ∧
          ((s.port p).pendingStop = none → Answered tag 0x2A (.done []) b t))))

/-! ### Monitor and timer requests -/

/-- MONITOR SETUP and MONITOR ARM (R161, R162). -/
def Obligations.MonitorRequests : Prop :=
  (∀ (tag n : Nat) (f : MonitorForm) (s : State), 7 < n →
    (∃ t, exec (.monitorArm ⟨tag, none⟩ n) s = .next t ∧ Answered tag 0x31 (.refused .noObject) s t) ∧
    (∃ t, exec (.monitorSetup ⟨tag, none⟩ n f) s = .next t ∧ Answered tag 0x30 (.refused .noObject) s t)) ∧
  ∀ (tag : Nat) (i : MonitorId) (f : MonitorForm) (s : State),
    (∃ t, exec (.monitorArm ⟨tag, none⟩ i.val) s = .next t ∧
      Answered tag 0x31 (.done []) (s.setMonitor i { s.monitor i with armed := true }) t) ∧
    (∃ t, exec (.monitorSetup ⟨tag, none⟩ i.val f) s = .next t ∧
      ((4 < f.origin ∨ 8190 < f.id ∨ 1 < f.kind) → Answered tag 0x30 (.refused .badParam) s t) ∧
      (f.origin ≤ 4 → f.id ≤ 8190 → f.kind ≤ 1 →
        Answered tag 0x30 ⟨if 183 < f.offset then .clamped else .done, 0, []⟩
          (s.setMonitor i
            { enabled := f.enabled, origin := f.origin, id := f.id, startOnly := f.startOnly
              offset := if 183 < f.offset then 183 else f.offset, mask := f.mask
              kind := if f.kind = 0 then .pattern else .change, expected := f.expected, once := f.once, armed := f.arm
              refCrc := 0, refValid := false, capture := (s.monitor i).capture, hits := (s.monitor i).hits }) t))

/-- TIMER SETUP of a timer that exists (R173), in the order of its steps; the setting a form gives holds an index byte that
its kind does not use as 0 (log 25). TIMER START and TIMER STOP of a timer that exists (R174, R175, R170, R171). -/
def Obligations.TimerRequests : Prop :=
  (∀ (tag : Nat) (i : TimerId) (f : TimerForm) (s : State),
      ∃ t, exec (.timerSetup ⟨tag, none⟩ i.val f) s = .next t ∧
        (3 < f.mode → Answered tag 0x38 (.refused .badParam) s t) ∧
        (∀ mode : TimerMode, mode.code = f.mode →
          let st := settingOf mode f
          (timerFormOk i mode f = false → Answered tag 0x38 (.refused .badParam) s t) ∧
          (timerFormOk i mode f = true →
            ((s.timer i).run ≠ .stopped → { st with reload := (s.timer i).setting.reload } ≠ (s.timer i).setting →
              Answered tag 0x38 (.refused .busy) s t) ∧
            (((s.timer i).run = .stopped ∨ { st with reload := (s.timer i).setting.reload } = (s.timer i).setting) →
              (closesRing s i st = true → Answered tag 0x38 (.refused .conflict) s t) ∧
              (closesRing s i st = false → (s.timer i).run = .stopped →
                Answered tag 0x38 (.done []) (s.setTimer i { s.timer i with setting := st, counter := f.reload }) t) ∧
              (closesRing s i st = false → (s.timer i).run ≠ .stopped →
                Answered tag 0x38 (.done [])
                  (s.setTimer i { s.timer i with setting := { (s.timer i).setting with reload := f.reload } }) t))))) ∧
  (∀ (tag : Nat) (i : TimerId) (s : State),
      let m := s.timer i
      (∃ a t, exec (.timerStart ⟨tag, none⟩ i.val) s = .next t ∧ Answered tag 0x39 (.done []) a t ∧
        ((m.setting.mode = .interval ∨ m.setting.mode = .count) → m.run = .stopped →
          a = s.setTimer i { m with run := .running, pre := 0 }) ∧
        (m.setting.mode ≠ .oneshot → m.run ≠ .stopped → a = s) ∧
        (m.setting.mode = .oneshot →
          a = s.setTimer i { m with
            run := .running, counter := if m.setting.reload = 0 then 1 else m.setting.reload, pre := 0, due := false }) ∧
        (m.setting.mode = .span → m.run = .stopped → spanCondition s m.setting.source = true →
          a = s.setTimer i { m with run := .running, pre := 0, counter := 0, measuring := true }) ∧
        (m.setting.mode = .span → m.run = .stopped → spanCondition s m.setting.source = false →
          a = s.setTimer i { m with run := .running, pre := 0, measuring := false })) ∧
      (∃ t, exec (.timerStop ⟨tag, none⟩ i.val) s = .next t ∧
        Answered tag 0x3A (.done [])
          (s.setTimer i { m with run := .stopped, pre := 0, measuring := false, due := false }) t))

/-- A tick and an expiry (R1, R166, R168, R170, R171, R172): the ticks a timer gathers toward a count, the count of each
mode, and what the expiring timer becomes. That a TIMER_EXPIRY of a timer that is not due has no effect (log 2), that an expiring
count waits in `due` for its TIMER_EXPIRY step (log 3), that a tick brings the level of the address straps (log 8), and that an
INTERVAL timer's gate is looked at on each tick, on the state the tick finds (log 30), are the model's choice. -/
def Obligations.TimersCountTime : Prop :=
  (∀ (straps : BitVec 5) (s : State), ∃ a t, exec (.tick straps) s = .next t ∧ Happened a t ∧
    a = { s with time := (s.time + 1) % 281474976710656, straps := straps, timers := a.timers } ∧
    ∀ i : TimerId,
      let m := s.timer i
      let counting := m.run = .running ∧
        ((m.setting.mode = .interval ∧ gateOpen s m.setting.gate = true) ∨ m.setting.mode = .oneshot ∨
          (m.setting.mode = .span ∧ m.measuring = true))
      (¬counting → a.timer i = m) ∧
      (counting → m.pre + 1 < prescaleTicks m.setting.prescale → a.timer i = { m with pre := m.pre + 1 }) ∧
      (counting → prescaleTicks m.setting.prescale ≤ m.pre + 1 →
        (m.setting.mode = .interval → 0 < m.counter → a.timer i = { m with pre := 0, counter := m.counter - 1 }) ∧
        (m.setting.mode = .interval → m.counter = 0 → a.timer i = { m with pre := 0, due := true }) ∧
        (m.setting.mode = .oneshot → 1 < m.counter → a.timer i = { m with pre := 0, counter := m.counter - 1 }) ∧
        (m.setting.mode = .oneshot → m.counter ≤ 1 → a.timer i = { m with pre := 0, due := true }) ∧
        (m.setting.mode = .span → a.timer i = { m with pre := 0, counter := min 65535 (m.counter + 1) }))) ∧
  (∀ (i : TimerId) (s : State),
    let m := s.timer i
    let expired : Timer → State := fun x =>
      (raise (43 + i.val) (s.setTimer i x)).addWork [.act i, .occ (.timerExpiry i)]
    ∃ t, exec (.timerExpiry i) s = .next t ∧
      (m.due = false → Happened s t) ∧
      (m.due = true → m.setting.mode = .interval →
        Happened (expired { m with counter := m.setting.reload, due := false }) t) ∧
      (m.due = true → m.setting.mode = .oneshot → m.setting.source.kind = 0 →
        Happened (expired { m with counter := 0, run := .stopped, due := false }) t) ∧
      (m.due = true → m.setting.mode = .oneshot → m.setting.source.kind ≠ 0 →
        Happened (expired { m with counter := 0, run := .waiting, due := false }) t))

/-- What an occurrence, the action of an expired timer, and a moved condition do at one timer (R167, R169 to R172), and that
each is taken by every timer. That an occurrence and an action are handed on after the event's main effects (log 11), and
that the timers take one occurrence or one change in ascending number (log 43), are the model's choice. -/
def Obligations.OccurrencesAndActions : Prop :=
  (∀ (src : Source) (i : TimerId) (s : State),
    let m := s.timer i
    let expired : Timer → State := fun x =>
      (raise (43 + i.val) (s.setTimer i x)).addWork [.act i, .occ (.timerExpiry i)]
    (sourceOf m.setting.source ≠ some src → occurAt src s i = s) ∧
    (sourceOf m.setting.source = some src →
      (m.setting.mode = .count → m.run = .running → 0 < m.counter →
        occurAt src s i = s.setTimer i { m with counter := m.counter - 1 }) ∧
      (m.setting.mode = .count → m.run = .running → m.counter = 0 →
        occurAt src s i = expired { m with counter := m.setting.reload }) ∧
      (m.setting.mode = .oneshot → m.run ≠ .stopped → occurAt src s i = s.setTimer i { m with
        run := .running, counter := if m.setting.reload = 0 then 1 else m.setting.reload, pre := 0, due := false }) ∧
      ((m.run = .stopped ∨ m.setting.mode = .interval ∨ m.setting.mode = .span) → occurAt src s i = s))) ∧
  (∀ (src : Source) (i : TimerId) (s : State),
    deliver s (.occ src) = ([0, 1, 2, 3, 4, 5, 6, 7] : List TimerId).foldl (occurAt src) s ∧
    deliver s (.act i) = performAction i s ∧
    follow s = ([0, 1, 2, 3, 4, 5, 6, 7] : List TimerId).foldl followSpan (followEvents s)) ∧
  (∀ (i : TimerId) (s : State),
    let x := (s.timer i).setting.action
    (x.kind = 0 → performAction i s = s) ∧
    (∀ l : LaneId, x.kind = 1 → x.index = l.val →
      (((s.lane l).state = .lock ∨ (s.lane l).state = .fade) → performAction i s = releaseToSearch l s) ∧
      ((s.lane l).state ≠ .lock → (s.lane l).state ≠ .fade → performAction i s = s)) ∧
    (∀ k : MonitorId, x.kind = 2 → x.index = k.val →
      performAction i s = s.setMonitor k { s.monitor k with armed := true })) ∧
  (∀ (i : TimerId) (s : State),
    let m := s.timer i
    let ended := s.setTimer i { m with measuring := false, lastSpan := m.counter, maxSpan := max m.maxSpan m.counter }
    ((m.run ≠ .running ∨ m.setting.mode ≠ .span ∨ spanCondition s m.setting.source = m.measuring) →
      followSpan s i = s) ∧
    (m.run = .running → m.setting.mode = .span →
      (spanCondition s m.setting.source = true → m.measuring = false →
        followSpan s i = s.setTimer i { m with measuring := true, counter := 0, pre := 0 }) ∧
      (spanCondition s m.setting.source = false → m.measuring = true → m.counter < m.setting.reload →
        followSpan s i = ended) ∧
      (spanCondition s m.setting.source = false → m.measuring = true → m.setting.reload ≤ m.counter →
        followSpan s i = (raise (43 + i.val) ended).addWork [.act i, .occ (.timerExpiry i)])))

/-- Notices (R200): when one is due, and what building it leaves, with room in CO class 0 and without. After every command
nothing is left to hand on, no notice is due, and every condition event, condition and pair state agree (R79, R198), where
no timer is left that counts occurrences or measures: what such a timer adds can run on, and the model bounds its rounds. The
rest of an event runs in rounds: conditions are followed, what is left is handed on, and a notice is built if one is due. The
rounds and their bound are the model's choice (log 11). -/
def Obligations.NoticeIsBuilt : Prop :=
  (∀ (n : Nat) (s : State),
    let f := followAll s
    followAll s = follow (followPair (followPair s 0) 1) ∧ afterEvent s = settle 1024 s ∧ settle 0 s = s ∧
    (f.work ≠ [] → settle (n + 1) s = settle n (f.work.foldl deliver { f with work := [] })) ∧
    (f.work = [] → noticeDue f = true → settle (n + 1) s = settle n (buildNotice f)) ∧
    (f.work = [] → noticeDue f = false → settle (n + 1) s = f)) ∧
  (∀ (c : Instr) (s t : State), exec c s = .next t →
    (∀ i : TimerId, (t.timer i).run = .running → (t.timer i).setting.mode ≠ .count ∧ (t.timer i).setting.mode ≠ .span) →
    t.work = [] ∧ noticeDue t = false ∧
    (t.ev.flags.getLsbD 1 = true ↔ t.log.overflow = true) ∧
    (∀ l : LaneId, t.ev.flags.getLsbD (22 + l.val) = true ↔
      (t.lane l).state = .lock ∧ ((t.lane l).quality.grade = .poor ∨ (t.lane l).quality.grade = .bad)) ∧
    (t.ev.flags.getLsbD 28 = true ↔ t.dec.congested = true) ∧
    (t.ev.flags.getLsbD 31 = true ↔ t.co.hold ≠ .idle) ∧
    (∀ p : PairId, (t.pairAt p).formed = true → (t.lane (primaryOf p)).state ≠ .lock →
      (t.lane (secondaryOf p)).state ≠ .lock → (t.pairAt p).pstate = .none) ∧
    followAll t = t) ∧
  ∀ s : State,
    let listed := (List.range 51).filter (fun n => s.ev.pending.getLsbD n)
    let pkt := ownPacket s.mgmt.id s.mgmt.cc 3 s.mgmt.addr 0 0 0 0 (b1 listed.length ++ listed.flatMap b1)
    let left : Bool → State := fun outstanding => { s with
      mgmt := { s.mgmt with cc := (s.mgmt.cc + 1) % 16 }
      ev := { s.ev with pending := 0#51, outstanding := outstanding } }
    (noticeDue s = true ↔
      s.mgmt.notices = true ∧ s.mgmt.addr ≠ 31 ∧ s.ev.pending ≠ 0#51 ∧ s.ev.outstanding = false) ∧
    (s.mgmt.addr ≠ 31 → (s.port portCO).q0.length < 8 →
      buildNotice s = (left true).setPort portCO
        { s.port portCO with q0 := (s.port portCO).q0 ++ [⟨pkt, 0, false, true, s.time⟩] }) ∧
    (s.mgmt.addr ≠ 31 → 8 ≤ (s.port portCO).q0.length →
      buildNotice s = report 9 .replyLost 3 ((raise 32 ((left false).setPort portCO
        { s.port portCO with drop0 := ((s.port portCO).drop0 + 1) % 4294967296 })).addWork [.occ (.portDrop portCO)]))

/-! ### Event, fault and part requests -/

/-- EVENT ENABLE and EVENT CLEAR (R199, R201, R202): the enable set replaced, events joining and leaving the pending set;
named latched flags made low, conditions left, and the flags after the clear in the reply (its five unused bits 0, the model's
choice, log 51). PART SETUP (R195): an id above
8190 and an id the map uses are refused; else both values are replaced, and the reply already bears the new id. -/
def Obligations.EventAndPartRequests : Prop :=
  (∀ (tag : Nat) (x : BitVec 51) (s : State),
      (∃ a t, exec (.eventEnable ⟨tag, none⟩ x) s = .next t ∧ Answered tag 0x40 (.done []) a t ∧
        a = { s with ev := { s.ev with enables := x, pending := a.ev.pending } } ∧
        ∀ n, n < 51 → a.ev.pending.getLsbD n =
          (x.getLsbD n && (s.ev.pending.getLsbD n || (s.ev.flags.getLsbD n && !s.ev.enables.getLsbD n)))) ∧
      (∃ a t, exec (.eventClear ⟨tag, none⟩ x) s = .next t ∧
        Answered tag 0x42 (.done (flagBytes 7 a.ev.flags.toNat)) a t ∧
        a = { s with ev := { s.ev with flags := a.ev.flags, pending := a.ev.pending } } ∧
        ∀ n, n < 51 →
          let gone := x.getLsbD n && !(decide (n = 1) || decide (22 ≤ n ∧ n ≤ 25) || decide (n = 28) || decide (n = 31))
          a.ev.flags.getLsbD n = (s.ev.flags.getLsbD n && !gone) ∧
          a.ev.pending.getLsbD n = (s.ev.pending.getLsbD n && !gone))) ∧
  (∀ (tag id : Nat) (notices : Bool) (s : State),
      let used := ∃ x, some x ∈ s.smap.slots ∧
        (x.entry.route.outId = id ∨ (x.entry.key.origin = 4 ∧ x.entry.key.id = id))
      ∃ t, exec (.partSetup ⟨tag, none⟩ id notices) s = .next t ∧
        (8190 < id → Answered tag 0x02 (.refused .badParam) s t) ∧
        (id ≤ 8190 → used → Answered tag 0x02 (.refused .conflict) s t) ∧
        (id ≤ 8190 → ¬used →
          Answered tag 0x02 (.done []) { s with mgmt := { s.mgmt with id := id, notices := notices } } t))

/-- A fault report and FAULT CLEAR (R203, R204): collapse, new record with FAULT_RECORDED, or overflow; the records at the
named places removed, the rest closing up, the overflow flag cleared, and the number removed in the reply. -/
def Obligations.FaultLogResult : Prop :=
  (∀ (source info : Nat) (reason : FaultReason) (s : State),
    ((∃ r ∈ s.log.records, r.source = source ∧ r.reason = reason.code) →
      ∃ before r after, s.log.records = before ++ r :: after ∧ r.source = source ∧ r.reason = reason.code ∧
        (∀ x ∈ before, ¬(x.source = source ∧ x.reason = reason.code)) ∧
        report source reason info s =
          { s with log := { s.log with
            records := before ++ { r with count := if r.count < 255 then r.count + 1 else r.count, last := s.time } :: after } }) ∧
    ((∀ r ∈ s.log.records, ¬(r.source = source ∧ r.reason = reason.code)) → s.log.records.length < 8 →
      report source reason info s =
        { s with
          log := { s.log with records := s.log.records ++ [⟨source, reason.code, info, 1, s.time, s.time⟩] }
          ev := raiseIn s.ev 0 }) ∧
    ((∀ r ∈ s.log.records, ¬(r.source = source ∧ r.reason = reason.code)) → 8 ≤ s.log.records.length →
      report source reason info s =
        { s with log := { s.log with overflow := true }, ev := raiseIn s.ev 1 })) ∧
  (∀ (tag : Nat) (all : Bool) (places : BitVec 8) (s : State),
    let kept := (s.log.records.zipIdx.filter (fun x => !(all || places.getLsbD x.2))).map (·.1)
    ∃ t, exec (.faultClear ⟨tag, none⟩ all places) s = .next t ∧
      Answered tag 0x45 (.done (b1 (s.log.records.length - kept.length)))
        { s with log := ⟨kept, false⟩, ev := lowerIn s.ev 1 } t)

/-! ### Lane events (Chapter 2) -/

/-- The link events (R2, R25, R35, R39): LINK_UP moves the status alone; LINK_DOWN of a link that is UP acts by the lane's
state, and reports LINK_DOWN with the state code; in LOCK that is the entry to FADE of `ExpectedPreambleFails`. Of a link that
is DOWN already it does nothing (log 28). What the way back to SEARCH clears of the samples and the frame is the model's reading
(log 14). -/
def Obligations.LinkEvents : Prop :=
  ∀ (l : LaneId) (s : State),
    let c := s.lane l
    let b : State := { s with links := s.links.set l false }
    (∃ t, exec (.linkUp l) s = .next t ∧ Happened { s with links := s.links.set l true } t) ∧
    (∃ t, exec (.linkDown l) s = .next t ∧
      (s.links[l] = false → Happened s t) ∧
      (s.links[l] = true →
        (c.state = .off → Happened b t) ∧
        (c.state = .search → Happened (report l.val .linkDown 1 (b.setLane l { c with reason := .linkDown })) t) ∧
        (c.state = .mode →
          Happened (report l.val .linkDown 2 (b.setLane l { c.toSearch c.sweepPos with reason := .linkDown })) t) ∧
        (c.state = .sync →
          Happened (report l.val .linkDown 3 (b.setLane l { c.toSearch c.sweepPos with reason := .linkDown })) t) ∧
        (c.state = .fade →
          Happened (report l.val .linkDown 5 (b.setLane l { c with goodRun := 0, reason := .linkDown })) t) ∧
        (c.state = .lock → ∃ a, Happened a t ∧ a = report l.val .linkDown 4 (enterFade l .linkDown b) ∧
          a.links = b.links ∧ a.log = (report l.val .linkDown 4 s).log ∧
          a.lane l = { c with
            state := .fade, reason := .linkDown, goodRun := 0
            deadline := some ((s.time + c.setup.holdoff * 27000) % 281474976710656)
            group := if drivesPath s l = true ∧ pathOf s l = l then none else c.group } ∧
          a.ev.flags.getLsbD (6 + l.val) = true ∧ (∀ k, k ≠ l → k ≠ pathOf s l → a.lane k = s.lane k) ∧
          a.pool = s.pool ∧ a.dec = s.dec ∧ a.ports = s.ports ∧ a.smap = s.smap ∧ a.time = s.time)))

/-- Samples before the end of a search attempt and before a symbol boundary (R3, R5, R24, R25): discarded at a lane that is
OFF and on a link that is DOWN (where one arrives, the model's reading, log 28); in SEARCH each is counted and kept, in MODE
kept and counted toward the boundary, and in SYNC, LOCK and FADE counted toward it. That a sample at carrier offset 0 is
taken as it arrived is the model's reading (log 5). The end of a search attempt (R23, R24): MODE with the best peak as
candidate when it reaches F, its first symbol boundary placed by the candidate (R45; a boundary that falls on the end of the
attempt gives no event, the model's reading, log 13), else the next sweep position, a wrap raising SEARCH_WRAP, counting and
setting NO_SIGNAL; that no peak at all counts as one below F is the model's reading (log 15). The guard correlation, the order
of the best peak and what entry to SEARCH leaves (R4, R5, R20, R24, R26, R45, R65) are stated last; that it clears the samples,
the samples to go, the frame position and the MER sums, which no rule lists, is the model's reading (log 14). -/
def Obligations.SearchSamples : Prop :=
  (∀ (l : LaneId) (i q : Int) (x : SymbolRx) (s : State),
      let c := s.lane l
      ∃ t, exec (.sampleArrival l i q x) s = .next t ∧
        ((s.links[l] = false ∨ c.state = .off) → Happened s t) ∧
        (s.links[l] = true → c.state = .search → c.attempt + 1 < c.setup.searchLength * 16384 →
          ∃ y, (c.sweepPos * c.setup.sweepStep = 0 → y = ⟨i, q⟩) ∧
            Happened (s.setLane l { c with samples := y :: c.samples, attempt := c.attempt + 1 }) t) ∧
        (s.links[l] = true → c.state = .mode → 1 < c.toGo →
          ∃ y, (c.sweepPos * c.setup.sweepStep = 0 → y = ⟨i, q⟩) ∧
            Happened (s.setLane l { c with samples := y :: c.samples, toGo := c.toGo - 1 }) t) ∧
        (s.links[l] = true → (c.state = .sync ∨ c.state = .lock ∨ c.state = .fade) → 1 < c.toGo →
          Happened (s.setLane l { c with toGo := c.toGo - 1 }) t)) ∧
  (∀ (l : LaneId) (i q : Int) (x : SymbolRx) (s : State),
      let c := s.lane l
      let samples := correctedSample c i q :: c.samples
      let best := bestPeak c.setup.modeSet c.setup.guardSet samples.reverse
      let next := nextSweep c.setup.sweepSpan c.sweepPos
      s.links[l] = true → c.state = .search → c.setup.searchLength * 16384 ≤ c.attempt + 1 →
      ∃ a t, exec (.sampleArrival l i q x) s = .next t ∧ Happened a t ∧
        (∀ pk, best = some pk → c.setup.floorF ≤ pk.rho →
          let len := symbolLen pk.mode pk.guard
          a = s.setLane l { c with
            state := .mode, samples := samples, attempt := c.attempt + 1, candidate := some ⟨pk.mode, pk.guard, pk.position⟩
            confirm := 0, profile := [], w := guardLen pk.mode pk.guard
            toGo := len - (c.attempt + 1 - pk.position) % len, offset := 0, openPl := false }) ∧
        ((best = none ∨ ∃ pk, best = some pk ∧ pk.rho < c.setup.floorF) →
          (next ≠ 0 → a = s.setLane l (c.toSearch next)) ∧
          (next = 0 → a = raise (18 + l.val) (s.setLane l { c.toSearch 0 with
            reason := .noSignal, counters := { c.counters with wraps := min 65535 (c.counters.wraps + 1) } })))) ∧
  (∀ (c : Lane) (pos : Int), c.toSearch pos = { c with
    state := .search, sweepPos := pos, attempt := 0, samples := [], candidate := none, confirm := 0, noPreamble := 0
    preFail := 0, layout := none, frame := ⟨0, 0, false, 0, 0, 0, false⟩, lossRun := 0, goodRun := 0, deadline := none
    profile := [], w := 0, toGo := 0, offset := 0, openPl := false, quality := ⟨none, none, none, none, .none⟩ }) ∧
  (∀ (span : Nat) (p : Int), nextSweep span p =
    (if p = 0 then (if span = 0 then 0 else 1) else if 0 < p then -p else if -p < span then 1 - p else 0)) ∧
  (∀ (m : Mode) (g : Guard),
    let n : Nat := match m with | .m1 => 2048 | .m2 => 4096 | .m3 => 8192 | .m4 => 16384
    let part : Nat := match g with | .g32 => 32 | .g16 => 16 | .g8 => 8 | .g4 => 4
    sizeN m = n ∧ guardLen m g = n / part ∧ symbolLen m g = n + n / part) ∧
  (∀ (m : Mode) (g : Guard) (samples : List CInt),
    let pairs := (samples.take (guardLen m g)).zip ((samples.drop (sizeN m)).take (guardLen m g))
    let re : Int := (pairs.map (fun z => z.1.re * z.2.re + z.1.im * z.2.im)).sum
    let im : Int := (pairs.map (fun z => z.1.im * z.2.re - z.1.re * z.2.im)).sum
    let energy : Int := (pairs.map (fun z => z.1.re ^ 2 + z.1.im ^ 2 + z.2.re ^ 2 + z.2.im ^ 2)).sum
    let rho := guardCorrelation m g samples
    (energy = 0 → rho = 0) ∧
    (energy ≠ 0 → rho ≤ 4095 ∧ ∀ k : Nat, k ≤ 4095 →
      (k ≤ rho ↔ ((k : Int) * energy) ^ 2 ≤ 4 * 4095 ^ 2 * (re ^ 2 + im ^ 2)))) ∧
  (∀ (c : Lane) (k : Candidate) (first last : List CInt), c.samples.reverse = first ++ last →
    last.length = symbolLen k.mode k.guard → confirmationRho c k = guardCorrelation k.mode k.guard last) ∧
  (∀ (modes guards : BitVec 4) (samples : List CInt),
    let measured : Peak → Prop := fun k => modes.getLsbD (modeNum k.mode - 1) = true ∧
      guards.getLsbD (guardCode k.guard) = true ∧ k.position + symbolLen k.mode k.guard ≤ samples.length ∧
      k.rho = guardCorrelation k.mode k.guard (samples.drop k.position)
    let first : Peak → Peak → Prop := fun a b => b.rho < a.rho ∨ (b.rho = a.rho ∧ (sizeN a.mode < sizeN b.mode ∨
      (a.mode = b.mode ∧ (guardLen a.mode a.guard < guardLen b.mode b.guard ∨
        (a.guard = b.guard ∧ a.position ≤ b.position)))))
    (bestPeak modes guards samples = none ↔ ∀ k, ¬measured k) ∧
    (∀ k, bestPeak modes guards samples = some k ↔ measured k ∧ ∀ o, measured o → first k o))

/-- The symbol events of MODE and SYNC that find no record to take (R26, R27): confirmations, the SYNC counts, and the
advances at a failed confirmation, at 512 symbols without a preamble and at a third preamble failure, each of which may wrap:
then SEARCH_WRAP is raised, counted, and the reason is NO_SIGNAL (R23); else the reason stays, or is LAYOUT_BAD after an
INVALID. Where the third failure is an INVALID and its advance wraps, NO_SIGNAL stands over LAYOUT_BAD: the model's choice
(log 39). That samples are held in SEARCH and MODE alone, so that entry to SYNC clears them, and that an advance clears them, the
frame position and the MER sums, is the model's reading (log 14). -/
def Obligations.ModeAndSyncSymbols : Prop :=
  ∀ (l : LaneId) (i q : Int) (x : SymbolRx) (s : State),
    let c := s.lane l
    let next := nextSweep c.setup.sweepSpan c.sweepPos
    let outcome := preambleOutcome c.candidate x.preamble
    let samples := correctedSample c i q :: c.samples
    let advanced : Reason → State → State := fun why b =>
      if next = 0 then raise (18 + l.val) (b.setLane l { c.toSearch 0 with
        reason := .noSignal, counters := { c.counters with wraps := min 65535 (c.counters.wraps + 1) } })
      else b.setLane l { c.toSearch next with reason := why }
    let failed : Reason → Lane := fun why => { c with
      toGo := symbolLength c, noPreamble := 0, preFail := c.preFail + 1, reason := why }
    s.links[l] = true → c.toGo ≤ 1 →
    ∃ a t, exec (.sampleArrival l i q x) s = .next t ∧ Happened a t ∧
      (∀ k, c.state = .mode → c.candidate = some k →
        let rho := confirmationRho { c with samples := samples } k
        let len := symbolLen k.mode k.guard
        (c.setup.floorF ≤ rho → c.confirm + 1 < 4 →
          a = s.setLane l { c with toGo := len, samples := samples, confirm := c.confirm + 1 }) ∧
        (c.setup.floorF ≤ rho → 4 ≤ c.confirm + 1 → a = s.setLane l { c with
          toGo := len, samples := [], confirm := c.confirm + 1, state := .sync, noPreamble := 0, preFail := 0
          openPl := false }) ∧
        (rho < c.setup.floorF → a = advanced c.reason s)) ∧
      (c.state = .sync → outcome = .notFound →
        (c.noPreamble + 1 < 512 → a = s.setLane l { c with toGo := symbolLength c, noPreamble := c.noPreamble + 1 }) ∧
        (512 ≤ c.noPreamble + 1 → a = advanced c.reason s)) ∧
      (c.state = .sync → outcome = .crcFail →
        (c.preFail + 1 < 3 → a = s.setLane l (failed c.reason)) ∧ (3 ≤ c.preFail + 1 → a = advanced c.reason s)) ∧
      (∀ n, c.state = .sync → outcome = .invalid n →
        (c.preFail + 1 < 3 → a = report l.val .layoutBad n (s.setLane l (failed .layoutBad))) ∧
        (3 ≤ c.preFail + 1 → a = advanced .layoutBad (report l.val .layoutBad n s)))

/-- A VALID record in SYNC (R27, R28, R29, R73, R87), at any lane: PIPE_ABSENT; LOCK without a request where the data path
holds pages; LOCK with the pages granted; or POOL_SHORT with the need reported. On entry to LOCK the record is the layout, the
quality part starts from the preamble's pilots and LOCKED is raised; a lane in no pair begins a group, in half A after a grant
and else in the remembered half; a lane of a pair becomes the reference where there is none, and else leaves the data path
alone (R75). What a preamble test answers (R7, R9): the CRC over the record (the widths of its numbers are the model's reading,
log 22), the six checks, of which the lowest that fails is named; and the pipe a record gives, by the lane's own pipe id or the
primary's (R8, R71). Which carriers of a preamble are pilot carriers is a free value (log 48). -/
def Obligations.SyncTakesRecord : Prop :=
  (∀ (k : Candidate) (crc : Nat) (r : FrameRecord),
    let outcome := preambleOutcome (some k) (.shown crc r)
    let fails : Nat → Prop := fun n => match n with
      | 1 => r.mode ≠ k.mode ∨ r.guard ≠ k.guard
      | 2 => r.d < 16 ∨ 250 < r.d
      | 3 => r.pipeCount = 0 ∨ 16 < r.pipeCount ∨ ¬(r.pipes.map (·.pipeId)).Nodup
      | 4 => ∃ p ∈ r.pipes, 3 < p.con ∨ 5 < p.rate
      | 5 => ∃ p ∈ r.pipes, p.depth = 0 ∨ 4 < p.depth
      | 6 => ∃ p ∈ r.pipes, p.cells = 0 ∨ p.cells % (15360 / (2 * (p.con + 1))) ≠ 0
      | _ => False
    preambleOutcome (some k) .notShown = .notFound ∧ (crc ≠ recordCrc r → outcome = .crcFail) ∧
    (crc = recordCrc r →
      (∀ n, outcome = .invalid n ↔ fails n ∧ ∀ m, m < n → ¬fails m) ∧
      (∀ z, outcome = .valid z ↔ z = r ∧ ∀ n, ¬fails n))) ∧
  (∀ r : FrameRecord,
    let num : Nat → Nat → List Bool := fun w v => (List.range w).map (fun i => decide (v / 2 ^ (w - 1 - i) % 2 = 1))
    let bits := num 4 r.version ++ num 8 r.counter ++ Config.modeBits r.mode ++ Config.guardBits r.guard ++ num 8 r.d ++
      Config.patternBits r.pattern ++ num 5 r.pipeCount ++ r.pipes.flatMap (fun p =>
        num 6 p.pipeId ++ num 3 p.con ++ num 3 p.rate ++ num 20 p.cells ++ num 3 p.depth ++ num 24 p.first)
    recordCrc r = (bits.foldl (fun (reg : BitVec 16) b =>
      if reg.getLsbD 15 = b then reg <<< 1 else (reg <<< 1) ^^^ 0x1021#16) 0xFFFF#16).toNat) ∧
  (∀ (id : Nat) (r : FrameRecord),
    (selectPipe id r = none ↔ ∀ p ∈ r.pipes, p.pipeId ≠ id) ∧
    (∀ (first : List PipeRecord) (p : PipeRecord) (rest : List PipeRecord), r.pipes = first ++ p :: rest → p.pipeId = id →
      (∀ o ∈ first, o.pipeId ≠ id) → selectPipe id r = some ⟨⟨p.cells, p.con, p.rate, p.depth⟩, p.first⟩)) ∧
  (∀ (l : LaneId) (s : State),
    (paired s l = false → selectId s l = (s.lane l).setup.pipeId) ∧
    (paired s l = true → selectId s l = (s.lane (primaryOf (pairOf l))).setup.pipeId)) ∧
  ∀ (l : LaneId) (i q : Int) (x : SymbolRx) (r : FrameRecord) (s : State),
    let c := s.lane l
    let path := pathOf s l
    let tested : Lane := { c with toGo := symbolLength c, noPreamble := 0, preFail := 0 }
    let entered : PipeSel → Lane := fun z => { tested with
      state := .lock, reason := .none, lossRun := 0, goodRun := 0, deadline := none
      layout := some ⟨r.version, r.counter, r.d, r.pattern, some z⟩
      frame := ⟨0, r.d, true, 0, 0, 0, paired s l && decide ((s.lane (partnerOf l)).state = .lock)⟩
      openPl := true, profile := []
      quality := ⟨some (formEstimate (preamblePilots c.candidate x)), none, none, none, .none⟩ }
    let enters : Bool → Pool → PipeSel → State → Prop := fun granted pool z t =>
      let e := follow (raise (2 + l.val) { s with lanes := s.lanes.set l (entered z), pool := pool })
      ∃ a : State, Happened a t ∧
        (paired s l = false → granted = true → a = beginGroup l .a (abandonGroup l e)) ∧
        (paired s l = false → granted = false → a = beginAgain l e) ∧
        (paired s l = true → (s.pairAt (pairOf l)).ref = .none → a = takeReference l granted r e) ∧
        (paired s l = true → (s.pairAt (pairOf l)).ref ≠ .none → a = e)
    s.links[l] = true → c.toGo ≤ 1 → c.state = .sync → preambleOutcome c.candidate x.preamble = .valid r →
    ∃ t, exec (.sampleArrival l i q x) s = .next t ∧
      (selectPipe (selectId s l) r = none → Happened (s.setLane l { tested with reason := .pipeAbsent }) t) ∧
      (∀ z, selectPipe (selectId s l) r = some z →
        let need := 2 * z.params.depth * ((z.params.cells + 2047) / 2048)
        (0 < s.pool.owned path → enters false s.pool z t) ∧
        (s.pool.owned path = 0 → s.pool.grants path need = true → enters true (s.pool.grant path need) z t) ∧
        (s.pool.owned path = 0 → s.pool.grants path need = false →
          Happened (report l.val .poolShort need (s.setLane l { tested with reason := .poolShort })) t))

/-- A page grant (R82, R87): pages that had an owner keep it; the lane gains exactly the number asked; every page it gains
lies below every page that stays free. The writing of a symbol's cells on a path that has a group and owns its pages (R90,
R91): cell c of frame f is found at its page and place, the write position moves on by the number of cells, and every other
address reads as before. What abandoning and beginning a group leaves (R77, R90, R92): no group, and no symbol waiting for it;
frame 0, cell 0 of a half, which is remembered. That a single primary's waiting symbols, left by an UNPAIR, go with its group
(log 21), that a pair's contribution count and last completed frame are forgotten with it (log 33), and that the position
stands behind the frame's last cell until the frame completion (log 45), are the model's choice. -/
def Obligations.PagesAreGrantedAndWritten : Prop :=
  (∀ (pool : Pool) (l : LaneId) (n : Nat), pool.grants l n = true →
      (pool.grant l n).owned l = pool.owned l + n ∧ (pool.grant l n).freeCount + n = pool.freeCount ∧
      (∀ k, k ≠ l → (pool.grant l n).owned k = pool.owned k) ∧
      (∀ (i : Nat) (k : LaneId), pool.pageMap[i]? = some (some k) → (pool.grant l n).pageMap[i]? = some (some k)) ∧
      (∀ i j : Nat, pool.pageMap[i]? = some none → (pool.grant l n).pageMap[i]? = some (some l) →
        (pool.grant l n).pageMap[j]? = some none → i < j) ∧
      (pool.grant l n).reserved = pool.reserved ∧ (pool.grant l n).cells = pool.cells) ∧
  (∀ (p : LaneId) (cells : List PoolCell) (pos : WritePos) (g : PipeParams) (s : State),
      cellsWf s.pool.cells = true → (s.lane p).group = some pos → pathParams s p = some g → 0 < g.depth →
      pageNeed g ≤ s.pool.owned p → pos.frame < g.depth → pos.cell + cells.length ≤ g.cells →
      let pages := s.pool.pagesOf p
      let logical : Nat → Nat := fun c =>
        (match pos.half with | .a => 0 | .b => g.depth * ((g.cells + 2047) / 2048)) +
          pos.frame * ((g.cells + 2047) / 2048) + c / 2048
      let t := placeCells p cells s
      (∀ (k : Nat) (v : PoolCell), cells[k]? = some v → ∃ page, pages[logical (pos.cell + k)]? = some page ∧
        readCell t.pool.cells (page * 2048 + (pos.cell + k) % 2048) = v) ∧
      (∀ a : Nat, (∀ k page, k < cells.length → pages[logical (pos.cell + k)]? = some page →
          a ≠ page * 2048 + (pos.cell + k) % 2048) → readCell t.pool.cells a = readCell s.pool.cells a) ∧
      t = { s with
        lanes := s.lanes.set p { s.lane p with group := some { pos with cell := pos.cell + cells.length } }
        pool := { s.pool with cells := t.pool.cells } }) ∧
  (∀ (p : LaneId) (half : Half) (s : State),
    let none' := s.setLane p { s.lane p with group := none }
    let pr := s.pairAt (pairOf p)
    (paired s p = true →
      abandonGroup p s = none'.setPair (pairOf p) { pr with waiting := [], contrib := 0, doneFrame := none }) ∧
    (paired s p = false → p.val % 2 = 0 → abandonGroup p s = none'.setPair (pairOf p) { pr with waiting := [] }) ∧
    (paired s p = false → p.val % 2 = 1 → abandonGroup p s = none') ∧
    beginGroup p half s = s.setLane p { s.lane p with group := some ⟨half, 0, 0⟩, writeHalf := half } ∧
    beginAgain p s = beginGroup p (s.lane p).writeHalf (abandonGroup p s))

/-- A data symbol in LOCK (R30, R35, R41, R64): symbols counted; a blanked symbol counted and not measured; the loss run
raised by a symbol below F or holding a preamble, cleared by another, and FADE with NO_SIGNAL at 8. The pilot correlation is
the form of R5 over the pilots and their reference values times the held estimate (R30); the impulse test compares exactly
(R64). The pilots are those of the mode and the pattern in force (R10, R11; `EchoObservationAndMatch` says which). -/
def Obligations.LockDataSymbol : Prop :=
  (∀ (noise : Option Nat) (j e : Nat), isBlanked noise j e = true ↔ ∃ v, noise = some v ∧ v * 2 ^ j < e) ∧
  (∀ (held : Option (List PilotGain)) (pilots : List PilotRx),
    let seen : PilotRx → Cplx := fun p => Cplx.mul (gainAt held p.carrier) p.ref
    let re : Rat := (pilots.map (fun p => p.rx.re * (seen p).re + p.rx.im * (seen p).im)).sum
    let im : Rat := (pilots.map (fun p => p.rx.im * (seen p).re - p.rx.re * (seen p).im)).sum
    let energy : Rat := (pilots.map (fun p => p.rx.re ^ 2 + p.rx.im ^ 2 + (seen p).re ^ 2 + (seen p).im ^ 2)).sum
    let pi := pilotCorrelation held pilots
    (energy = 0 → pi = 0) ∧
    (energy ≠ 0 → pi ≤ 4095 ∧ ∀ k : Nat, k ≤ 4095 →
      (k ≤ pi ↔ ((k : Rat) * energy) ^ 2 ≤ 4 * 4095 ^ 2 * (re ^ 2 + im ^ 2)))) ∧
  ∀ (l : LaneId) (i q : Int) (x : SymbolRx) (k : Candidate) (y : Layout) (s : State),
    let c := s.lane l
    let pilots := pilotsOf k.mode y.pattern x
    let blanked := decide (x.preamble = .notShown) &&
      isBlanked c.quality.noise c.setup.impulseJ (pilotError c.quality.estimate pilots)
    let low := decide (x.preamble ≠ .notShown) ||
      decide (pilotCorrelation c.quality.estimate pilots < c.setup.floorF)
    s.links[l] = true → c.toGo ≤ 1 → c.state = .lock → c.candidate = some k → c.layout = some y →
    c.frame.pos < c.frame.d → c.lossRun < 8 →
    ∃ a t, exec (.sampleArrival l i q x) s = .next t ∧ Happened a t ∧
      (a.lane l).counters.symbols = (c.counters.symbols + 1) % 4294967296 ∧
      (a.lane l).counters.blanked = (if blanked then (c.counters.blanked + 1) % 4294967296 else c.counters.blanked) ∧
      (a.lane l).lossRun = (if blanked then c.lossRun else if low then c.lossRun + 1 else 0) ∧
      (a.lane l).frame.pos = c.frame.pos + 1 ∧ (a.lane l).layout = c.layout ∧ (a.lane l).candidate = c.candidate ∧
      (a.lane l).setup = c.setup ∧
      ((a.lane l).lossRun < 8 → (a.lane l).state = .lock ∧ (a.lane l).reason = c.reason) ∧
      (8 ≤ (a.lane l).lossRun → (a.lane l).state = .fade ∧ (a.lane l).reason = .noSignal ∧ (a.lane l).goodRun = 0 ∧
        (a.lane l).deadline = some ((s.time + c.setup.holdoff * 27000) % 281474976710656) ∧
        a.ev.flags.getLsbD (6 + l.val) = true) ∧
      (∀ j, j ≠ l → j ≠ pathOf s l → a.lane j = { s.lane j with ready := (a.lane j).ready }) ∧
      a.pool.pageMap = s.pool.pageMap ∧
      a.pool.reserved = s.pool.reserved ∧ a.ports = s.ports ∧ a.smap = s.smap ∧ a.monitors = s.monitors ∧
      a.time = s.time ∧ a.links = s.links

/-- What a data symbol in LOCK does, at any lane, from its pilots to its data path (R6, R41, R47, R61 to R64, R66, R77). Each
symbol event in LOCK is counted first, by the lane and by what waits on the path it drives (state `b`); a lane in no pair then
writes what an UNPAIR left waiting (the model's choice, log 21). The symbol is judged on the held estimate; unless it is blanked
or holds a preamble, the profile and the window follow (R47); estimate, noise and MER sums are taken, and the pipe's cells are
equalized and reach the path: written at once by a lane in no pair, combined in a pair. The last data symbol of a frame with a
record completes the frame: the frame is counted, MER, Q and grade judged, and a lane in no pair accounts for its group; that the
grade comes before the group there, and after it for a reference, is the model's choice (log 12). A loss run of 8 ends in FADE. What a symbol that
holds a preamble does besides (R30: it counts as one below F) is the model's reading (log 16): it forms the estimate, its cells
are written, and noise, MER sums and profile leave it out. That the reports of a completion which the counted symbol brings about
come before those of the symbol itself is the model's choice (log 44), and so is that a symbol joins the alignment store only
where its lane is the partner of a reference as it takes it (log 52). The pilots and the data cells are those of the mode and
the pattern in force (R10, R11). -/
def Obligations.DataSymbolReachesPath : Prop :=
  (∀ (l : LaneId) (i q : Int) (x : SymbolRx) (k : Candidate) (y : Layout) (s : State),
    let c := s.lane l
    let b := beginLockSymbol l (s.setLane l { c with toGo := symbolLength c })
    let idx := c.frame.pos + 1
    let found : Prop := x.preamble ≠ .notShown
    let pilots := pilotsOf k.mode y.pattern x
    let e := pilotError c.quality.estimate pilots
    let blanked : Prop := x.preamble = .notShown ∧ isBlanked c.quality.noise c.setup.impulseJ e = true
    let low : Prop := found ∨ pilotCorrelation c.quality.estimate pilots < c.setup.floorF
    let at' := b.lane l
    let tracked : Lane := if found ∨ blanked then at' else trackEchoes k y.pattern pilots at'
    let after : Lane := { tracked with
      lossRun := if blanked then c.lossRun else if low then c.lossRun + 1 else 0
      counters := if blanked then { at'.counters with blanked := (at'.counters.blanked + 1) % 4294967296 } else at'.counters
      quality := { c.quality with
        estimate := if blanked then c.quality.estimate else some (formEstimate pilots)
        noise := if found then c.quality.noise else noiseAfter c.quality.noise (decide blanked) e }
      frame := if found ∨ blanked then { c.frame with pos := idx } else { c.frame with
        pos := idx, merS := c.frame.merS + pilotSignal c.quality.estimate pilots, merE := c.frame.merE + e
        merN := c.frame.merN + 1 } }
    let cells : List PoolCell := match y.pipe with
      | none => []
      | some z => symbolCells (dataCells k.mode y.pattern) c.frame.d idx z after.quality.estimate c.quality.noise
          (decide blanked) (cellsOf k.mode y.pattern x)
    let m : State := (if blanked then b.addWork [.occ (.blanked l)] else b).setLane l after
    let done : State → State := fun g => g.setLane l { g.lane l with
      counters := { (g.lane l).counters with frames := ((g.lane l).counters.frames + 1) % 4294967296 }
      quality := frameQuality c.setup after.frame after.quality }
    let ref := (s.pairAt (pairOf l)).ref
    s.links[l] = true → c.toGo ≤ 1 → c.state = .lock → c.candidate = some k → c.layout = some y → c.frame.pos < c.frame.d →
    ∃ g h t, exec (.sampleArrival l i q x) s = .next t ∧
      (paired s l = false → g = placeCells l cells m) ∧
      (paired s l = true → ref = refName l → c.frame.valid = true → (b.lane (pathOf s l)).group.isSome = true →
        g = referenceSymbol (pairOf l) (partnerOf l)
          ⟨y.lastFrame, idx, cells, 0, false, false, c.frame.d, c.frame.partnerLock⟩ m) ∧
      (paired s l = true → ref = refName l → (c.frame.valid = false ∨ (b.lane (pathOf s l)).group = none) → g = m) ∧
      (paired s l = true → ref = refName (partnerOf l) →
        g = partnerSymbol (pairOf l) ⟨l, if c.frame.valid then some y.lastFrame else none, idx, cells⟩ m) ∧
      (paired s l = true → ref = .none → g = m) ∧
      (idx = c.frame.d → c.frame.valid = true → paired s l = false → h = frameAccounting l (follow (done g))) ∧
      (idx = c.frame.d → c.frame.valid = true → paired s l = true → h = follow (done g)) ∧
      ((idx ≠ c.frame.d ∨ c.frame.valid = false) → h = g) ∧
      (after.lossRun < 8 → Happened h t) ∧ (8 ≤ after.lossRun → Happened (enterFade l .noSignal h) t)) ∧
  (∀ (l : LaneId) (s : State),
    let c := s.lane l
    let n := s.setLane l { c with counters := { c.counters with symbols := (c.counters.symbols + 1) % 4294967296 } }
    let b := beginLockSymbol l s
    (paired s l = true → drivesPath s l = true → b = ageWaiting (pairOf l) n) ∧
    (paired s l = true → drivesPath s l = false → b = n) ∧
    (paired s l = false → b = takeLeft l n) ∧
    (paired s l = false → (s.pairAt (pairOf l)).waiting = [] → b = n) ∧
    (∀ j, b.lane j = { n.lane j with
      group := (b.lane j).group, writeHalf := (b.lane j).writeHalf, ready := (b.lane j).ready
      counters := { (n.lane j).counters with dropped := (b.lane j).counters.dropped } }) ∧
    (∀ p, (b.pairAt p).formed = (s.pairAt p).formed ∧ (b.pairAt p).ref = (s.pairAt p).ref ∧
      (b.pairAt p).layout = (s.pairAt p).layout ∧ (b.pairAt p).lastFrame = (s.pairAt p).lastFrame) ∧
    b.pool.pageMap = s.pool.pageMap ∧ b.pool.reserved = s.pool.reserved ∧ b.time = s.time ∧ b.links = s.links ∧
    b.smap = s.smap ∧ b.ports = s.ports ∧ b.monitors = s.monitors ∧ b.timers = s.timers)

/-- A failure of the expected preamble, at any lane (R31, R35, R74), on the state `b` in which the event's symbol has been
counted: an INVALID one is reported; the first leaves LOCK with a frame without a record, and no group if the lane drives its
data path; the second moves the lane to FADE, with LAYOUT_BAD if it was INVALID and NO_SIGNAL otherwise. Entry to FADE (R35)
raises FADED, hands on its occurrence, abandons the group of a path that the lane drives, and sets the deadline. That the reports
of a completion which the counted symbol brings about come before the report of this preamble is the model's choice (log 44). -/
def Obligations.ExpectedPreambleFails : Prop :=
  (∀ (l : LaneId) (why : Reason) (s : State),
    let f := (raise (6 + l.val) s).addWork [.occ (.faded l)]
    let g := if drivesPath s l = true then abandonGroup (pathOf s l) f else f
    enterFade l why s = follow (g.setLane l { g.lane l with
      state := .fade, reason := why, goodRun := 0
      deadline := some ((s.time + (s.lane l).setup.holdoff * 27000) % 281474976710656) })) ∧
  (∀ (l : LaneId) (i q : Int) (x : SymbolRx) (k : Candidate) (y : Layout) (s : State),
    let c := s.lane l
    let outcome := preambleOutcome c.candidate x.preamble
    let b := beginLockSymbol l (s.setLane l { c with toGo := symbolLength c })
    let told : State := match outcome with
      | .invalid n => report l.val .layoutBad n b
      | _ => b
    let m := told.setLane l { told.lane l with preFail := c.preFail + 1 }
    s.links[l] = true → c.toGo ≤ 1 → c.state = .lock → c.candidate = some k → c.layout = some y →
    c.frame.d ≤ c.frame.pos → (∀ r, outcome ≠ .valid r) →
    ∃ a t, exec (.sampleArrival l i q x) s = .next t ∧ Happened a t ∧
      (c.preFail + 1 < 2 →
        let g := if drivesPath s l = true then abandonGroup (pathOf s l) m else m
        a = g.setLane l { g.lane l with
          frame := ⟨0, y.d, false, 0, 0, 0, paired s l && decide ((s.lane (partnerOf l)).state = .lock)⟩ }) ∧
      (2 ≤ c.preFail + 1 → (∀ n, outcome ≠ .invalid n) → a = enterFade l .noSignal m) ∧
      (2 ≤ c.preFail + 1 → ∀ n, outcome = .invalid n → a = enterFade l .layoutBad m))

/-- A VALID expected preamble, at any lane (R31, R32, R33, R75), on the state `b` in which the event's symbol has been counted:
the lane takes the record as its own layout and begins a frame. For a lane in no pair and for the reference, a counter that does
not follow, or a path without a group, begins a group again, and then the record is compared with the layout held. For a lane
of a pair, the reference moves to it where it is none or where R75 gives it over; a lane that is not the reference and does not
take it touches nothing else. That a record without the selected pipe is a layout change even at the version held is the model's
reading (log 18). That the lane's new layout and last frame counter stand before a switch decides the pending symbols (log 40),
and that the reports of a completion which the counted symbol brings about come before this preamble's (log 44), are its choice. -/
def Obligations.ExpectedRecordTaken : Prop :=
  ∀ (l : LaneId) (i q : Int) (x : SymbolRx) (r : FrameRecord) (k : Candidate) (y : Layout) (s : State),
    let c := s.lane l
    let p := pairOf l
    let path := pathOf s l
    let b := beginLockSymbol l (s.setLane l { c with toGo := symbolLength c })
    let m := b.setLane l { b.lane l with
      preFail := 0, layout := some ⟨r.version, r.counter, r.d, r.pattern, selectPipe (selectId s l) r⟩
      frame := ⟨0, r.d, true, 0, 0, 0, paired s l && decide ((s.lane (partnerOf l)).state = .lock)⟩ }
    let unaltered : Prop := ∃ w z, pathParams b path = some w ∧ selectPipe (selectId s l) r = some z ∧ z.params = w
    let continued : Nat → State := fun last =>
      if r.counter = (last + 1) % 256 ∧ (b.lane path).group.isSome = true then m else beginAgain path m
    let ref := (s.pairAt p).ref
    let moves : Prop := (ref = .secondary ∧ l.val % 2 = 0) ∨
      (ref = .primary ∧ l.val % 2 = 1 ∧ (s.lane (partnerOf l)).state ≠ .lock)
    let took : State → State := fun z => z.modPair p (fun o => { o with lastFrame := r.counter })
    s.links[l] = true → c.toGo ≤ 1 → c.state = .lock → c.candidate = some k → c.layout = some y →
    c.frame.d ≤ c.frame.pos → preambleOutcome c.candidate x.preamble = .valid r →
    ∃ a t, exec (.sampleArrival l i q x) s = .next t ∧ Happened a t ∧
      (paired s l = false → unaltered → a = continued y.lastFrame) ∧
      (paired s l = false → ¬unaltered → a = layoutChange l r (continued y.lastFrame)) ∧
      (paired s l = true → ref = .none → a = takeReference l false r m) ∧
      (paired s l = true → moves → a = switchReference l r m) ∧
      (paired s l = true → ref = refName l → unaltered →
        a = took (setPathLayout l r (continued (b.pairAt p).lastFrame))) ∧
      (paired s l = true → ref = refName l → ¬unaltered →
        a = took (layoutChange l r (continued (b.pairAt p).lastFrame))) ∧
      (paired s l = true → ref ≠ .none → ref ≠ refName l → ¬moves → a = m)

/-- A layout change that removes the pipe or alters its parameters, on the data path of a lane (R34, R76, R88, R89): the group
is abandoned and the ready list emptied and counted, LAYOUT raised, the record taken; then the pages are released and the path's
lanes go to SYNC with PIPE_ABSENT, or the path shrinks to its lowest-numbered pages or grows, and a group begins in half A, or a
refused growth releases all and sends the lanes to SYNC with POOL_SHORT and a report. That LAYOUT and POOL_SHORT name the lane
whose preamble it was, in a pair too, is the model's reading (log 19), and that entry to SYNC clears the frame position and the
MER sums, which no rule lists, is too (log 14). -/
def Obligations.LayoutChangeSettlesPages : Prop :=
  (∀ (l : LaneId) (r : FrameRecord) (s : State),
    let path := pathOf s l
    let sel := selectPipe (selectId s l) r
    let e := raise (14 + l.val) (emptyReady path true (abandonGroup path s))
    let v := setPathLayout l r (e.setLane l { e.lane l with
      layout := some ⟨r.version, r.counter, r.d, r.pattern, sel⟩ })
    (sel = none → layoutChange l r s = pathToSync l .pipeAbsent (releasePath path true v)) ∧
    (∀ z, sel = some z →
      let need := 2 * z.params.depth * ((z.params.cells + 2047) / 2048)
      let own := s.pool.owned path
      (need ≤ own → layoutChange l r s = beginGroup path .a { v with pool := s.pool.shrink path need }) ∧
      (own < need → s.pool.grants path (need - own) = true →
        layoutChange l r s = beginGroup path .a { v with pool := s.pool.grant path (need - own) }) ∧
      (own < need → s.pool.grants path (need - own) = false →
        layoutChange l r s = report l.val .poolShort need (pathToSync l .poolShort (releasePath path true v))))) ∧
  (∀ (l : LaneId) (r : FrameRecord) (s : State),
    (paired s l = false → setPathLayout l r s = s) ∧
    (paired s l = true → setPathLayout l r s = s.setPair (pairOf l) { s.pairAt (pairOf l) with
      layout := (selectPipe (selectId s l) r).map (fun z => ⟨r.version, z.params⟩) })) ∧
  (∀ (p : LaneId) (s : State),
    let n := (s.lane p).ready.length
    let d := (s.setLane p { s.lane p with
      ready := [], counters := { (s.lane p).counters with
        dropped := ((s.lane p).counters.dropped + n) % 4294967296 } }).addWork (List.replicate n (.occ (.cwDropped p)))
    (∃ flag : Bool, emptyReady p true s = { d with
        dec := { s.dec with congested := flag }, ev := if flag then raiseIn s.ev 28 else lowerIn s.ev 28 } ∧
      (flag = true ↔ (if s.dec.congested then s.dec.low < readyTotal d else s.dec.high ≤ readyTotal d))) ∧
    releasePath p true s = emptyReady p true (abandonGroup p { s with pool := s.pool.release p })) ∧
  (∀ (l : LaneId) (why : Reason) (s : State),
    let synced : Lane → Lane := fun c => { c with
      state := .sync, reason := why, noPreamble := 0, preFail := 0, layout := none, frame := ⟨0, 0, false, 0, 0, 0, false⟩
      lossRun := 0, goodRun := 0, deadline := none, profile := [], openPl := false
      quality := ⟨none, none, none, none, .none⟩ }
    let o := partnerOf l
    let alone := s.setLane l (synced (s.lane l))
    let unled := alone.setPair (pairOf l) { s.pairAt (pairOf l) with ref := .none }
    let serving := (s.lane o).state = .lock ∨ (s.lane o).state = .fade
    (paired s l = false → pathToSync l why s = follow alone) ∧
    (paired s l = true → ¬serving → pathToSync l why s = follow unled) ∧
    (paired s l = true → serving → pathToSync l why s = follow (unled.setLane o (synced (s.lane o))))) ∧
  (∀ (pool : Pool) (l : LaneId) (n : Nat),
    let a := pool.shrink l n
    let z := pool.release l
    a.owned l = min n (pool.owned l) ∧ a.freeCount = pool.freeCount + (pool.owned l - n) ∧
    (∀ i j : Nat, a.pageMap[i]? = some (some l) → pool.pageMap[j]? = some (some l) → a.pageMap[j]? = some none → i < j) ∧
    (∀ (i : Nat) (o : Option LaneId), o ≠ some l → pool.pageMap[i]? = some o → a.pageMap[i]? = some o) ∧
    a.reserved = pool.reserved ∧ a.cells = pool.cells ∧
    z.owned l = 0 ∧ z.freeCount = pool.freeCount + pool.owned l ∧ (∀ k, k ≠ l → z.owned k = pool.owned k) ∧
    z.reserved = pool.reserved ∧ z.cells = pool.cells)

/-- A symbol in FADE, at any lane (R36, R37): how the good run moves, and the return to LOCK: no page moves, the holdoff ends,
and LOCKED is raised. A lane in no pair and the reference of a pair begin a group in the half of the abandoned one, and the
record is compared with the layout held since before the fade; a lane of a pair without a reference becomes it (R75), and a
lane that is not the reference leaves the data path alone. That a record without the selected pipe is a layout change even at
the version held is the model's reading (log 18). -/
def Obligations.FadeSymbols : Prop :=
  ∀ (l : LaneId) (i q : Int) (x : SymbolRx) (s : State),
    let c := s.lane l
    let outcome := preambleOutcome c.candidate x.preamble
    let pilots := pilotsInForce c.candidate c.layout x
    let blanked := isBlanked c.quality.noise c.setup.impulseJ (pilotError c.quality.estimate pilots)
    let below := decide (pilotCorrelation c.quality.estimate pilots < c.setup.floorF)
    let moved : Nat → State := fun n => s.setLane l { c with toGo := symbolLength c, goodRun := n }
    s.links[l] = true → c.toGo ≤ 1 → c.state = .fade →
    ∃ t, exec (.sampleArrival l i q x) s = .next t ∧
      (outcome = .notFound → blanked = true → Happened ((s.setLane l { c with
        toGo := symbolLength c, counters := { c.counters with blanked := (c.counters.blanked + 1) % 4294967296 }
        }).addWork [.occ (.blanked l)]) t) ∧
      (outcome = .notFound → blanked = false → below = true → Happened (moved 0) t) ∧
      (outcome = .notFound → blanked = false → below = false → Happened (moved (min 4 (c.goodRun + 1))) t) ∧
      (outcome = .crcFail → Happened (moved 0) t) ∧
      (∀ n, outcome = .invalid n → Happened (moved 0) t) ∧
      (∀ r, outcome = .valid r → c.goodRun < 4 → Happened (moved c.goodRun) t) ∧
      (∀ r, outcome = .valid r → 4 ≤ c.goodRun →
        let sel := selectPipe (selectId s l) r
        let unaltered : Prop := ∃ w z, pathParams s (pathOf s l) = some w ∧ sel = some z ∧ z.params = w
        let e := follow (raise (2 + l.val) (s.setLane l { c with
          toGo := symbolLength c, state := .lock, reason := .none, lossRun := 0, preFail := 0, noPreamble := 0, goodRun := 0
          deadline := none, layout := some ⟨r.version, r.counter, r.d, r.pattern, sel⟩
          frame := ⟨0, r.d, true, 0, 0, 0, paired s l && decide ((s.lane (partnerOf l)).state = .lock)⟩, openPl := true }))
        let again := beginAgain (pathOf s l) e
        let ref := (s.pairAt (pairOf l)).ref
        let took : State → State := fun z => z.modPair (pairOf l) (fun o => { o with lastFrame := r.counter })
        ∃ a, Happened a t ∧
          (paired s l = false → unaltered → a = again) ∧
          (paired s l = false → ¬unaltered → a = layoutChange l r again) ∧
          (paired s l = true → ref = .none → a = takeReference l false r e) ∧
          (paired s l = true → ref = refName l → unaltered → a = took (setPathLayout l r again)) ∧
          (paired s l = true → ref = refName l → ¬unaltered → a = took (layoutChange l r again)) ∧
          (paired s l = true → ref ≠ .none → ref ≠ refName l → a = e))

/-- The end of a holdoff (R38, R73, R74): only when system time equals the deadline of a lane in FADE; the command at another
time has no effect (the model's choice, log 2). The lane then goes to SEARCH at position 0 with its reason kept, and RELEASED is
raised. Its data path gives up its pages and its ready list, which is counted as dropped, and no reference is left; a pair's path
whose other lane is in LOCK or FADE keeps them, and loses only its group and its reference, where this lane was it. That a
single primary's waiting symbols, left by an UNPAIR, go with its group (log 21), and that a pair's contribution count and last
completed frame are forgotten with it (log 33), are the model's choice; that entry to SEARCH clears the samples, the samples to
go, the frame position and the MER sums, which no rule lists, is its reading (log 14). -/
def Obligations.HoldoffExpires : Prop :=
  (∀ (l : LaneId) (s : State),
    let c := s.lane l
    ∃ t, exec (.holdoffExpiry l) s = .next t ∧
      ((c.state ≠ .fade ∨ c.deadline ≠ some s.time) → Happened s t) ∧
      (c.state = .fade → c.deadline = some s.time → Happened (releaseToSearch l s) t)) ∧
  ∀ (l : LaneId) (s : State),
    let path := pathOf s l
    let p := pairOf l
    let n := (s.lane path).ready.length
    let kept := paired s l = true ∧ ((s.lane (partnerOf l)).state = .lock ∨ (s.lane (partnerOf l)).state = .fade)
    ∃ d : State, releaseToSearch l s = follow ((raise (10 + l.val) d).setLane l { d.lane l with
        state := .search, sweepPos := 0, attempt := 0, samples := [], candidate := none, confirm := 0, noPreamble := 0
        preFail := 0, layout := none, frame := ⟨0, 0, false, 0, 0, 0, false⟩, lossRun := 0, goodRun := 0, deadline := none
        profile := [], w := 0, toGo := 0, offset := 0, openPl := false, quality := ⟨none, none, none, none, .none⟩ }) ∧
      (kept → drivesPath s l = false → d = s) ∧
      (kept → drivesPath s l = true → d = (s.setLane path { s.lane path with group := none }).setPair p
        { s.pairAt p with ref := .none, waiting := [], contrib := 0, doneFrame := none }) ∧
      (¬kept →
        d = { s with
          lanes := s.lanes.set path { s.lane path with
            group := none, ready := [], counters := { (s.lane path).counters with
              dropped := ((s.lane path).counters.dropped + n) % 4294967296 } }
          pairs := d.pairs, pool := s.pool.release path, dec := { s.dec with congested := d.dec.congested }
          ev := if d.dec.congested then raiseIn s.ev 28 else lowerIn s.ev 28
          work := s.work ++ List.replicate n (.occ (.cwDropped path)) } ∧
        (d.dec.congested = true ↔ (if s.dec.congested then s.dec.low < readyTotal d else s.dec.high ≤ readyTotal d)) ∧
        (paired s l = true → d.pairs = s.pairs.set p
          { s.pairAt p with ref := .none, waiting := [], contrib := 0, doneFrame := none }) ∧
        (paired s l = false → d.pairs =
          (if l.val % 2 = 0 then s.pairs.set p { s.pairAt p with waiting := [] } else s.pairs)))

/-! ### The echo profile (Chapter 3) -/

/-- The observation of a symbol (R48): the impulse response over the detection window is a function of the ratios of the
symbol's pilots and of the pilot spacing, whose values are free (log 4); its peaks are scaled to the largest, and those below F
dropped. The match (R49): which record a peak is offered to, which peak a record is matched with, and which are unmatched. A
record smoothed toward its target, and aged (R50). The detection window, and the pilot and data cells of a symbol, by mode and
pattern, come first (R10, R11): pilots on every Dx-th active carrier, data on the rest, each in ascending order and in the
numbers of R11 where all the carriers are there. The first pilot's carrier is a free value (log 48). -/
def Obligations.EchoObservationAndMatch : Prop :=
  (∀ (m : Mode) (pat : Pattern),
    let n : Nat := match m with | .m1 => 2048 | .m2 => 4096 | .m3 => 8192 | .m4 => 16384
    let dx : Nat := match pat with | .p0 => 3 | .p1 => 6 | .p2 => 12 | .p3 => 24
    let ka := 27 * n / 32
    let span := n / dx
    pilotSpacing pat = dx ∧ dataCells m pat = ka - ka / dx ∧ windowLow m pat = -((span / 4 : Nat) : Int) ∧
      windowHigh m pat = ((3 * span / 4 : Nat) : Int) - 1 ∧
      ∀ x : SymbolRx,
        let isPilot : Nat → Prop := fun c => c % dx = Config.firstPilot m pat % dx
        let holds : Nat → Cplx → Cplx → Prop := fun c v w => c < ka ∧ x.carriers[c]? = some ⟨v, w⟩
        (∀ p, p ∈ pilotsOf m pat x ↔ isPilot p.carrier ∧ holds p.carrier p.rx p.ref) ∧
        (∀ p, p ∈ cellsOf m pat x ↔ ¬isPilot p.carrier ∧ ∃ w, holds p.carrier p.y w) ∧
        (pilotsOf m pat x).Pairwise (fun a b => a.carrier < b.carrier) ∧
        (cellsOf m pat x).Pairwise (fun a b => a.carrier < b.carrier) ∧
        (ka ≤ x.carriers.length → (pilotsOf m pat x).length = ka / dx ∧ (cellsOf m pat x).length = ka - ka / dx) ∧
        (∀ (k : Candidate) (z : Layout), k.mode = m → z.pattern = pat →
          pilotsInForce (some k) (some z) x = pilotsOf m pat x) ∧
        (∀ k : Candidate, k.mode = m → (preamblePilots (some k) x).Pairwise (fun a b => a.carrier < b.carrier) ∧
          ∀ p, p ∈ preamblePilots (some k) x ↔ Config.preamblePilot m p.carrier = true ∧ holds p.carrier p.rx p.ref)) ∧
  (∀ (m : Mode) (pat : Pattern) (pilots : List PilotRx),
    (impulseResponse m pat pilots).length = (windowHigh m pat - windowLow m pat + 1).toNat ∧
    ∀ i : Nat, i < (impulseResponse m pat pilots).length → (impulseResponse m pat pilots)[i]? =
      some (Config.impulsePower (sizeN m) (pilotSpacing pat) (pilots.map (fun p => (p.carrier, Cplx.div p.rx p.ref)))
        (windowLow m pat + i))) ∧
  (∀ (low : Int) (floorF : Nat) (impulse : List Nat),
    let isPeak : Nat → Nat → Prop := fun i v => impulse[i]? = some v ∧
      (∀ u, 0 < i → impulse[i - 1]? = some u → u < v) ∧ (∀ u, impulse[i + 1]? = some u → u ≤ v)
    (∀ p : EchoPeak, p ∈ observe low floorF impulse ↔ ∃ i v top, isPeak i v ∧ (∃ j, isPeak j top) ∧
      (∀ j u, isPeak j u → u ≤ top) ∧ 0 < top ∧ p = ⟨low + i, 4096 * v / top⟩ ∧ floorF ≤ 4096 * v / top) ∧
    (observe low floorF impulse).Pairwise (fun a b => a.delay < b.delay)) ∧
  (∀ (profile : List Echo) (peaks : List EchoPeak),
    let matched := matchRecords profile peaks
    (∀ (p : EchoPeak) (n : Nat), offeredTo profile p = some n ↔ ∃ e, profile[n]? = some e ∧
      (e.delay - p.delay).natAbs ≤ 2 ∧ ∀ (j : Nat) (o : Echo), profile[j]? = some o →
        (e.delay - p.delay).natAbs < (o.delay - p.delay).natAbs ∨
          ((e.delay - p.delay).natAbs = (o.delay - p.delay).natAbs ∧ n ≤ j)) ∧
    matched.length = profile.length ∧
    (∀ (n : Nat) (e : Echo), profile[n]? = some e → ∃ w, matched[n]? = some (e, w) ∧
      (w = none ↔ ∀ p ∈ peaks, offeredTo profile p ≠ some n) ∧
      (∀ p, w = some p ↔ p ∈ peaks ∧ offeredTo profile p = some n ∧ ∀ o ∈ peaks, offeredTo profile o = some n →
        o.power < p.power ∨ (o.power = p.power ∧ p.delay ≤ o.delay))) ∧
    (∀ p, p ∈ unmatchedPeaks matched peaks ↔ p ∈ peaks ∧ ∀ x ∈ matched, x.2 ≠ some p)) ∧
  (∀ (a : Nat) (e : Echo) (w : Option EchoPeak),
    let z := smoothRecord a (e, w)
    let target : Int := match w with
      | some p => (p.power : Int)
      | none => 0
    let step : Int := Int.tdiv (target - e.power) ((2 ^ a : Nat) : Int)
    (step ≠ 0 → (z.power : Int) = e.power + step) ∧ (step = 0 → (e.power : Int) < target → z.power = e.power + 1) ∧
    (step = 0 → target < e.power → z.power + 1 = e.power) ∧ (target = e.power → z.power = e.power) ∧
    (∀ p, w = some p → z.delay = p.delay ∧ z.age = 0) ∧
    (w = none → z.delay = e.delay ∧ z.age = min 255 (e.age + 1)))

/-- The stages of an update, in order (R47), and the placement that follows with the length of the next symbol (R57). The merge
(R51): while two neighbours are within 2 samples, the earliest pair of smallest separation becomes one. The insertion (R52):
unmatched peaks by descending power, then ascending delay; one too close is discarded, one joins where there is room, and one
that is stronger takes the place of the weakest. The retirement (R53). The re-anchor (R54): the strongest record at delay 0, the
window start and the offset moved against it, records outside the detection window removed. -/
def Obligations.EchoListStages : Prop :=
  (∀ (k : Candidate) (pat : Pattern) (pilots : List PilotRx) (c : Lane),
    let low := windowLow k.mode pat
    let high := windowHigh k.mode pat
    let lg := guardLen k.mode k.guard
    let peaks := observe low c.setup.floorF (impulseResponse k.mode pat pilots)
    let matched := matchRecords c.profile peaks
    let smoothed := matched.map (smoothRecord c.setup.smoothA)
    let merged := mergeStage smoothed.length smoothed
    let inserted := insertStage merged (unmatchedPeaks matched peaks)
    let u := reAnchor low high ⟨retireStage c.setup.retireAge inserted, c.w, c.offset⟩
    let v := placeWindow (sizeN k.mode) lg c.setup.windowHyst low high u.profile u.w c.openPl
    trackEchoes k pat pilots c = { c with
      profile := u.profile, w := v.1, openPl := v.2, offset := u.offset, toGo := ((c.toGo : Int) + (v.1 - u.w)).toNat }) ∧
  (∀ (n : Nat) (l : List Echo),
    let apart : Nat → List Echo → Prop := fun d es => ∀ (i : Nat) (x y : Echo), es[i]? = some x → es[i + 1]? = some y →
      d ≤ (y.delay - x.delay).natAbs
    apart 3 (mergeStage l.length l) ∧ (apart 3 l → mergeStage n l = l) ∧
    (∀ (first : List Echo) (x y : Echo) (rest : List Echo), l = first ++ x :: y :: rest →
      (y.delay - x.delay).natAbs ≤ 2 → apart (y.delay - x.delay).natAbs l →
      apart ((y.delay - x.delay).natAbs + 1) (first ++ [x]) →
      mergeStage (n + 1) l = mergeStage n (first ++
        ⟨if x.power < y.power then y.delay else x.delay, max x.power y.power, min x.age y.age⟩ :: rest))) ∧
  (∀ (l : List Echo) (peaks : List EchoPeak), ∃ order : List EchoPeak, order.Perm peaks ∧
    order.Pairwise (fun a b => b.power < a.power ∨ (b.power = a.power ∧ a.delay ≤ b.delay)) ∧
    insertStage l peaks = order.foldl insertPeak l) ∧
  (∀ (l : List Echo) (p : EchoPeak), l.Pairwise (fun a b => a.delay < b.delay) →
    let joins : List Echo → List Echo → Prop := fun before after => ∃ first rest, before = first ++ rest ∧
      after = first ++ ⟨p.delay, p.power, 0⟩ :: rest ∧ (∀ e ∈ first, e.delay < p.delay) ∧ (∀ e ∈ rest, p.delay < e.delay)
    ((∃ e ∈ l, (e.delay - p.delay).natAbs ≤ 2) → insertPeak l p = l) ∧
    ((∀ e ∈ l, 2 < (e.delay - p.delay).natAbs) →
      (l.length < 8 → joins l (insertPeak l p)) ∧
      (8 ≤ l.length → ∃ w ∈ l, (∀ e ∈ l, w.power < e.power ∨ (w.power = e.power ∧ e.delay ≤ w.delay)) ∧
        (w.power < p.power → joins (l.erase w) (insertPeak l p)) ∧ (p.power ≤ w.power → insertPeak l p = l)))) ∧
  (∀ (age : Nat) (l : List Echo) (e : Echo), (e ∈ retireStage age l ↔ e ∈ l ∧ e.age < age) ∧ (retireStage age l).Sublist l) ∧
  (∀ (low high : Int) (x : Anchored), x.profile.Pairwise (fun a b => a.delay < b.delay) →
    (x.profile = [] → reAnchor low high x = x) ∧
    (∀ top ∈ x.profile, (∀ e ∈ x.profile, e.power < top.power ∨ (e.power = top.power ∧ top.delay ≤ e.delay)) →
      let z := reAnchor low high x
      z.profile = (x.profile.map (fun e => (⟨e.delay - top.delay, e.power, e.age⟩ : Echo))).filter
        (fun e => decide (low ≤ e.delay ∧ e.delay ≤ high)) ∧
      z.w = x.w - top.delay ∧ -2147483648 ≤ z.offset ∧ z.offset < 2147483648 ∧
      (z.offset - (x.offset + top.delay)) % 4294967296 = 0))

/-! ### Window placement, signal quality and combining (Chapters 3 and 4) -/

/-- The channel estimate (R61): each pilot's ratio, a straight line between the two nearest pilots, the edge pilot's gain beyond
the last. The pilot error and signal powers, and the noise estimate (R63). An equalized cell (R62): the value over the gain in
units of 1/1024, rounded half away from zero and clamped, with its reliability; 0 with reliability 0 without gain, in a blanked
symbol, while the noise is unset, and beyond the frame's data capacity. That the mean over no pilots is 0 (log 37), and that the
cells beyond the frame's capacity are given at the frame's last data symbol (log 17), are the model's choice. -/
def Obligations.CellsAreEqualized : Prop :=
  (∀ pilots : List PilotRx, formEstimate pilots = pilots.map (fun p => ⟨p.carrier, Cplx.div p.rx p.ref⟩)) ∧
  (∀ (est : List PilotGain) (c : Nat), est.Pairwise (fun a b => a.carrier < b.carrier) →
    (∀ g ∈ est, g.carrier = c → gainAt (some est) c = g.gain) ∧
    (∀ (first : List PilotGain) (a b : PilotGain) (rest : List PilotGain), est = first ++ a :: b :: rest → a.carrier < c →
      c < b.carrier →
      let along : Rat := ((c : Rat) - a.carrier) / ((b.carrier : Rat) - a.carrier)
      gainAt (some est) c =
        ⟨a.gain.re + along * (b.gain.re - a.gain.re), a.gain.im + along * (b.gain.im - a.gain.im)⟩) ∧
    (∀ (g : PilotGain) (rest : List PilotGain), est = g :: rest → c < g.carrier → gainAt (some est) c = g.gain) ∧
    (∀ (first : List PilotGain) (g : PilotGain), est = first ++ [g] → g.carrier < c → gainAt (some est) c = g.gain)) ∧
  (∀ (held : Option (List PilotGain)) (pilots : List PilotRx),
    let seen : PilotRx → Cplx := fun p => Cplx.mul (gainAt held p.carrier) p.ref
    let mean : (PilotRx → Rat) → Rat := fun f => (pilots.map f).sum / (pilots.length : Rat)
    (pilots ≠ [] →
      pilotError held pilots = min 4294967295 (mean (fun p => Cplx.normSq (Cplx.sub p.rx (seen p)))).floor.toNat ∧
      pilotSignal held pilots = (mean (fun p => Cplx.normSq (seen p))).floor.toNat) ∧
    (pilots = [] → pilotError held pilots = 0 ∧ pilotSignal held pilots = 0)) ∧
  (∀ (v e : Nat),
    let step : Int := Int.tdiv ((e : Int) - v) 16
    noiseAfter none false e = some (max 1 e) ∧ noiseAfter (some v) true e = some v ∧
    (1 ≤ v → ∃ w, noiseAfter (some v) false e = some w ∧ 1 ≤ w ∧ (step ≠ 0 → (w : Int) = max 1 (v + step)) ∧
      (step = 0 → v < e → w = v + 1) ∧ (step = 0 → e < v → w = max 1 (v - 1)) ∧ (e = v → w = v))) ∧
  (∀ (noise : Nat) (h y : Cplx), 1 ≤ noise →
    let p : Rat := h.re * h.re + h.im * h.im
    let z := equalize noise h y
    let rounds : Int → Rat → Prop := fun n v => ∃ k : Int, n = max (-32767) (min 32767 k) ∧ |2 * ((k : Rat) - v)| ≤ 1 ∧
      (|2 * ((k : Rat) - v)| = 1 → |v| < |(k : Rat)|)
    (p = 0 → z = ⟨0, 0, 0⟩) ∧
    (p ≠ 0 → rounds z.re (1024 * ((y.re * h.re + y.im * h.im) / p)) ∧
      rounds z.im (1024 * ((y.im * h.re - y.re * h.im) / p)) ∧ z.r = min 4095 (256 * p / (noise : Rat)).floor.toNat)) ∧
  (∀ (dc d idx : Nat) (pipe : PipeSel) (est : Option (List PilotGain)) (noise : Option Nat) (blanked : Bool)
      (cells : List CellRx),
    let base := (idx - 1) * dc
    let lo := max pipe.first base
    let hi := min (pipe.first + pipe.params.cells) (base + dc)
    let erased := if idx = d then (pipe.first + pipe.params.cells) - max pipe.first (d * dc) else 0
    let out := symbolCells dc d idx pipe est noise blanked cells
    out.length = (hi - lo) + erased ∧
    (∀ (j : Nat) (v : Nat) (y : CellRx), j < hi - lo → noise = some v → blanked = false → cells[lo - base + j]? = some y →
      out[j]? = some (equalize v (gainAt est y.carrier) y.y)) ∧
    (∀ j : Nat, j < out.length → (hi - lo ≤ j ∨ noise = none ∨ blanked = true) → out[j]? = some ⟨0, 0, 0⟩))

/-- The quality part at a frame completion (R66 to R68): no qualifying symbol changes nothing; else the MER by its
rounding boundaries, Q smoothed toward it, and the grade with its hysteresis. -/
def Obligations.QualityOfFrame : Prop :=
  ∀ (st : Setup) (f : FramePos) (x : Quality),
    (f.merN = 0 → frameQuality st f x = x) ∧
    (f.merN ≠ 0 → ∃ (m q : Nat) (g : Grade),
      frameQuality st f x = { x with lastMer := some m, q := some q, grade := g } ∧ m ≤ 400 ∧
      (f.merE = 0 → m = 400) ∧ (f.merE ≠ 0 → f.merS = 0 → m = 0) ∧
      (f.merE ≠ 0 → ∀ k, 1 ≤ k → k ≤ 400 → (k ≤ m ↔ 10 ^ (2 * k - 1) * f.merE ^ 200 ≤ f.merS ^ 200)) ∧
      (x.q = none → q = m) ∧
      (∀ v : Nat, x.q = some v → v ≤ 400 →
        let toward : Int := Int.tdiv ((m : Int) - v) ((2 ^ st.k : Nat) : Int)
        (toward ≠ 0 → (q : Int) = v + toward) ∧ (toward = 0 → v < m → q = v + 1) ∧ (toward = 0 → m < v → q + 1 = v) ∧
        (m = v → q = v)) ∧
      (let judged : Nat → Grade := fun h =>
        if st.tg + h ≤ q then .good else if st.tf + h ≤ q then .fair else if st.tp + h ≤ q then .poor else .bad
      let better : Grade → Grade → Prop := fun a b => gradeRank b < gradeRank a
      (x.grade = .none → g = judged 0) ∧
      (x.grade ≠ .none → better x.grade (judged 0) → g = judged 0) ∧
      (x.grade ≠ .none → ¬better x.grade (judged 0) → better (judged st.gradeHyst) x.grade → g = judged st.gradeHyst) ∧
      (x.grade ≠ .none → ¬better x.grade (judged 0) → ¬better (judged st.gradeHyst) x.grade → g = x.grade)))

/-- The window metric (R55): the sum over the records of what a path inside the guard, a late one and an early one contribute.
Window placement (R56): the best point is a candidate of greatest metric, the smallest such; how an empty profile, open
placement, a window out of range and the hysteresis decide. -/
def Obligations.WindowPlacement : Prop :=
  (∀ (n lg : Nat) (profile : List Echo) (w : Int),
    metric n lg profile w = (profile.map (fun e =>
      if 0 ≤ w - e.delay ∧ w - e.delay ≤ lg then (e.power : Int) * n
      else if w < e.delay then (e.power : Int) * (n - 2 * (e.delay - w))
      else (e.power : Int) * (n - 2 * (w - e.delay - lg)))).sum) ∧
  ∀ (n lg h : Nat) (low high : Int) (profile : List Echo) (w : Int) (openPl : Bool),
    let points := profile.map (fun e => e.delay) ++ profile.map (fun e => e.delay + (lg : Int))
    let M : Int → Int := metric n lg profile
    (profile = [] → placeWindow n lg h low high profile w openPl = (w, openPl)) ∧
    (profile ≠ [] → ∃ b : Int, b ∈ points ∧ (∀ x ∈ points, M x < M b ∨ (M x = M b ∧ b ≤ x)) ∧
      ((openPl = true ∨ w < low ∨ high + lg < w) → placeWindow n lg h low high profile w openPl = (b, false)) ∧
      (openPl = false → low ≤ w → w ≤ high + lg → 0 < M w →
        placeWindow n lg h low high profile w openPl = (if M w * (256 + h) < M b * 256 then b else w, false)) ∧
      (openPl = false → low ≤ w → w ≤ high + lg → M w ≤ 0 →
        placeWindow n lg h low high profile w openPl = (if M w < M b then b else w, false)))

/-- The combining of a pair's symbols (R77, R78): a waiting symbol takes a partner symbol of its frame counter and index
once; a combined cell adds the reliabilities up to 4095, and each component is the weighted mean rounded to nearest, halves
away from zero. A reference symbol combines at once with a match in the store of the partner's last three, or waits; a partner
symbol joins the store and combines with what waits for it; a symbol that waits is single at the second reference event after
it, or at a switch (R76); and what is decided is written in reference order. That the layouts must agree when the two symbols
meet (log 41), that the store tags each symbol with its lane and holds the last three of either (log 20), that what a lane took
as the reference does not join it at a switch (log 52), and that an UNPAIR leaves the symbols that wait to the primary, which
writes them single (log 21), are the model's choice. -/
def Obligations.SymbolsCombine : Prop :=
  (∀ (x : WaitingSymbol) (y : StoredSymbol),
    (x.decided = false → y.counter = some x.counter → y.index = x.index →
      combineWaiting x y = { x with cells := combineCells x.cells y.cells, decided := true, contributed := true }) ∧
    ((x.decided = true ∨ y.counter ≠ some x.counter ∨ y.index ≠ x.index) → combineWaiting x y = x)) ∧
  (∀ (a b : List PoolCell) (k : Nat) (x : PoolCell), a[k]? = some x →
    (b[k]? = none → (combineCells a b)[k]? = some x) ∧
    (∀ y : PoolCell, b[k]? = some y → ∃ z : PoolCell, (combineCells a b)[k]? = some z ∧
      (x.r + y.r = 0 → z = ⟨0, 0, 0⟩) ∧
      (x.r + y.r ≠ 0 → z.r = min 4095 (x.r + y.r) ∧
        (let nearest : Int → Int → Int → Prop := fun c u v =>
          let d : Int := ((x.r + y.r : Nat) : Int)
          let sum : Int := (x.r : Int) * u + (y.r : Int) * v
          2 * (c * d - sum).natAbs ≤ x.r + y.r ∧ (2 * (c * d - sum).natAbs = x.r + y.r → sum.natAbs < (c * d).natAbs)
        nearest z.re x.re y.re ∧ nearest z.im x.im y.im)))) ∧
  (∀ (a b : List PoolCell), (combineCells a b).length = a.length) ∧
  (∀ (p : PairId) (s : State),
    let pr := s.pairAt p
    let held : List WaitingSymbol → State := fun ws => s.setPair p { pr with waiting := ws }
    (∀ (partner : LaneId) (x : WaitingSymbol),
      (∀ y ∈ pr.store, partnerFits s p partner = true → y.lane = partner → y.counter = some x.counter → y.index = x.index →
        (∀ z ∈ pr.store, z.lane = partner → z.counter = some x.counter → z.index = x.index → z = y) →
        referenceSymbol p partner x s = flush p (held (pr.waiting ++ [combineWaiting x y]))) ∧
      ((partnerFits s p partner = false ∨
          ∀ y ∈ pr.store, ¬(y.lane = partner ∧ y.counter = some x.counter ∧ y.index = x.index)) →
        referenceSymbol p partner x s = flush p (held (pr.waiting ++ [x])))) ∧
    (∀ y : StoredSymbol,
      (∀ lead last, pr.store ++ [y] = lead ++ last → (last.length = 3 ∨ (last.length ≤ 3 ∧ lead = [])) →
        partnerSymbol p y s = flush p (s.setPair p { pr with
          store := last
          waiting := if partnerFits s p y.lane then pr.waiting.map (fun x => combineWaiting x y) else pr.waiting }))) ∧
    (∀ partner : LaneId, partnerFits s p partner = true ↔
      ∃ y z, (s.lane partner).layout = some y ∧ pr.layout = some z ∧ y.version = z.version ∧ y.pipe.isSome = true) ∧
    ageWaiting p s = flush p (held (pr.waiting.map (fun x =>
      { x with since := x.since + 1, decided := x.decided || decide (2 ≤ x.since + 1) }))) ∧
    decideAll p s = flush p (held (pr.waiting.map (fun x => { x with decided := true }))) ∧
    flush p s = flushWaiting p pr.waiting s) ∧
  (∀ (p : PairId) (x : WaitingSymbol) (rest : List WaitingSymbol) (s : State),
    let wrote := placeCells (primaryOf p) x.cells s
    let counted := wrote.setPair p { wrote.pairAt p with
      contrib := (wrote.pairAt p).contrib + (if x.contributed then 1 else 0) }
    flushWaiting p [] s = s.setPair p { s.pairAt p with waiting := [] } ∧
    (x.decided = false → flushWaiting p (x :: rest) s = s.setPair p { s.pairAt p with waiting := x :: rest }) ∧
    (x.decided = true → x.index ≠ x.d → flushWaiting p (x :: rest) s = flushWaiting p rest counted) ∧
    (x.decided = true → x.index = x.d → flushWaiting p (x :: rest) s = flushWaiting p rest (pathCompletion p x counted))) ∧
  (∀ (l : LaneId) (s : State),
    let freed := s.setPair (pairOf l) { s.pairAt (pairOf l) with waiting := [] }
    let write : State → WaitingSymbol → State := fun z x =>
      if x.index = x.d then frameAccounting l (placeCells l x.cells z) else placeCells l x.cells z
    ((paired s l = true ∨ l.val % 2 = 1) → takeLeft l s = s) ∧
    (paired s l = false → l.val % 2 = 0 → takeLeft l s = (s.pairAt (pairOf l)).waiting.foldl write freed))

/-- How the reference of a pair moves (R75, R76). From none to a lane: with pages granted at its preamble, the record becomes the
data path's layout and a group begins in half A; else the record is compared with the layout held, and a group begins again or a
layout change is handled. From one lane to the other: the symbols that wait are decided single, the record is compared, and the
group goes on only where the old frame is complete and the new counter follows. The record's counter becomes the data path's
last frame counter. That a record without the selected pipe is a layout change even at the version held (log 18), and that the
old frame is complete where it is the frame remembered as last completed (log 33), are the model's reading. -/
def Obligations.ReferenceMoves : Prop :=
  ∀ (l : LaneId) (r : FrameRecord) (s : State), paired s l = true →
    let p := pairOf l
    let path := primaryOf p
    let led : State → State := fun z => z.setPair p { z.pairAt p with ref := if l.val % 2 = 0 then .primary else .secondary }
    let took : State → State := fun z => z.setPair p { z.pairAt p with lastFrame := r.counter }
    let unaltered : Prop := ∃ w z, (s.pairAt p).layout.map (·.params) = some w ∧ selectPipe (selectId s l) r = some z ∧
      z.params = w
    let d := decideAll p s
    takeReference l true r s = took (beginGroup path .a (setPathLayout l r (abandonGroup path (led s)))) ∧
    (unaltered → takeReference l false r s = took (beginAgain path (setPathLayout l r (led s)))) ∧
    (¬unaltered → takeReference l false r s = took (layoutChange l r (led s))) ∧
    (¬unaltered → switchReference l r s = took (layoutChange l r (led d))) ∧
    (unaltered → (d.pairAt p).doneFrame = some (d.pairAt p).lastFrame → r.counter = ((d.pairAt p).lastFrame + 1) % 256 →
      (d.lane path).group.isSome = true → switchReference l r s = took (setPathLayout l r (led d))) ∧
    (unaltered → ((d.pairAt p).doneFrame ≠ some (d.pairAt p).lastFrame ∨ r.counter ≠ ((d.pairAt p).lastFrame + 1) % 256 ∨
        (d.lane path).group = none) →
      switchReference l r s = took (beginAgain path (setPathLayout l r (led d))))

/-- A data-path completion (R79, R80): the pair state is set from the symbols to which the partner contributed, and a change of
it raises PAIR_CHANGE; a partner in LOCK at both ends that contributed to none is reported as PAIR_MISALIGNED, with its last
frame counter as it then stands (at a switch the model's choice, log 40); then the group is accounted for, so that this report
comes before an OVERRUN (R203 allows either order, log 44), and the frame is remembered as completed (log 33). The pair state
becomes NONE where neither lane is in LOCK. -/
def Obligations.DataPathCompletes : Prop :=
  (∀ (p : PairId) (x : WaitingSymbol) (s : State),
    let pr := s.pairAt p
    let partner := if pr.ref = .secondary then primaryOf p else secondaryOf p
    let misaligned := x.partnerLock = true ∧ (s.lane partner).state = .lock ∧ pr.contrib = 0
    ∃ a b : State, pathCompletion p x s = frameAccounting (primaryOf p)
        (b.setPair p { b.pairAt p with contrib := 0, doneFrame := some x.counter }) ∧
      (x.d ≤ 2 * pr.contrib → a = setPairState p .dual s) ∧
      (2 * pr.contrib < x.d → pr.ref ≠ .secondary → a = setPairState p .singleP s) ∧
      (2 * pr.contrib < x.d → pr.ref = .secondary → a = setPairState p .singleS s) ∧
      (¬misaligned → b = a) ∧
      (misaligned → ∀ y, (s.lane partner).layout = some y → x.counter < 256 → y.lastFrame < 256 →
        b = report (10 + p.val) .pairMisaligned ((y.lastFrame + 256 - x.counter) % 256) a)) ∧
  (∀ (p : PairId) (v : PairState) (s : State),
    ((s.pairAt p).pstate = v → setPairState p v s = s) ∧
    ((s.pairAt p).pstate ≠ v → setPairState p v s = raise (26 + p.val) (s.setPair p { s.pairAt p with pstate := v }))) ∧
  (∀ (p : PairId) (s : State),
    ((s.pairAt p).formed = true → (s.lane (primaryOf p)).state ≠ .lock → (s.lane (secondaryOf p)).state ≠ .lock →
      followPair s p = setPairState p .none s) ∧
    (((s.pairAt p).formed = false ∨ (s.lane (primaryOf p)).state = .lock ∨ (s.lane (secondaryOf p)).state = .lock) →
      followPair s p = s))

/-- Group accounting at a frame completion (R93, R94): the next frame of the group, or a completed group, whose codewords
become the ready list, an unserved list being dropped, counted and reported; then congestion is judged (R101) and an idle
decoder takes (R102). That congestion is judged on the total before that take, and again after it, is the model's reading
(log 31). -/
def Obligations.GroupAccounting : Prop :=
  ∀ (p : LaneId) (pos : WritePos) (g : PipeParams) (s : State), (s.lane p).group = some pos → pathParams s p = some g →
    let n := (s.lane p).ready.length
    (pos.frame + 1 < g.depth →
      frameAccounting p s = s.setLane p { s.lane p with group := some ⟨pos.half, pos.frame + 1, 0⟩ }) ∧
    (g.depth ≤ pos.frame + 1 → ∃ b : State, frameAccounting p s = takeIfIdle b ∧
      (b.lane p).ready = (List.range (g.cells / (15360 / (2 * (g.con + 1))) * g.depth)).map
        (fun k => ⟨pos.half, k, g.con, g.rate⟩) ∧
      (b.lane p).group = some ⟨if pos.half = .a then .b else .a, 0, 0⟩ ∧
      (b.lane p).counters = { (s.lane p).counters with
        dropped := if n = 0 then (s.lane p).counters.dropped else ((s.lane p).counters.dropped + n) % 4294967296 } ∧
      b.log = (if n = 0 then s.log else (report p.val .overrun n s).log) ∧
      b.work = s.work ++ List.replicate n (.occ (.cwDropped p)) ∧ (∀ k, k ≠ p → b.lane k = s.lane k) ∧
      b.dec = { s.dec with congested := b.dec.congested } ∧
      (b.dec.congested = true ↔ (if s.dec.congested then s.dec.low < readyTotal b else s.dec.high ≤ readyTotal b)) ∧
      b.pool = s.pool ∧ b.pairs = s.pairs ∧ b.ports = s.ports ∧ b.smap = s.smap ∧ b.time = s.time)

/-! ### The decoder (Chapter 6) -/

/-- A take (R101 to R105): an idle decoder takes the head of the first non-empty list in round-robin order, the pointer
moves behind that lane, and the budget is 2 under congestion, else the smaller of the grade's and the lane's own. That the grade offered is recorded
under congestion too is the model's reading (log 50). The copy
holds the soft bits of the codeword's cells in place order, erasures for cells of reliability 0; the other signs and magnitudes
are free values (log 6). -/
def Obligations.DecoderTakes : Prop :=
  ∀ (s : State),
    (∀ cw, s.dec.inflight = some cw → takeIfIdle s = s) ∧
    (s.dec.inflight = none → (∀ l, (s.lane l).ready = []) → takeIfIdle s = s) ∧
    (∀ (n : Nat) (l : LaneId) (e : ReadyEntry) (rest : List ReadyEntry), s.dec.inflight = none →
      l.val = (s.dec.pointer.val + n) % 4 → n < 4 →
      (∀ (m : Nat) (k : LaneId), m < n → k.val = (s.dec.pointer.val + m) % 4 → (s.lane k).ready = []) →
      (s.lane l).ready = e :: rest →
      let a := takeIfIdle s
      ∃ cw, a.dec.inflight = some cw ∧ cw.owner = l ∧ cw.half = e.half ∧ cw.k = e.k ∧ cw.con = e.con ∧
        cw.rate = e.rate ∧ cw.grade = offeredGrade s l ∧ cw.congested = s.dec.congested ∧ cw.marked = false ∧
        cw.takeTime = s.time ∧
        cw.budget = (if s.dec.congested then 2 else min (gradeBudget (offeredGrade s l)) (s.lane l).setup.maxBudget) ∧
        a.dec.pointer.val = (l.val + 1) % 4 ∧ a.lane l = { s.lane l with ready := rest } ∧
        (∀ k, k ≠ l → a.lane k = s.lane k) ∧
        (a.dec.congested = true ↔
          (if s.dec.congested then s.dec.low < readyTotal a else s.dec.high ≤ readyTotal a)) ∧
        a.dec = { s.dec with inflight := some cw, pointer := a.dec.pointer, congested := a.dec.congested } ∧
        a.ev = (if a.dec.congested then raiseIn s.ev 28 else lowerIn s.ev 28) ∧
        a = { s with lanes := a.lanes, dec := a.dec, ev := a.ev } ∧
        (∀ g, pathParams s l = some g → e.con ≤ 3 →
          let bits := 2 * (e.con + 1)
          let places := 15360 / bits
          let words := g.cells / (15360 / (2 * (g.con + 1))) * g.depth
          let pages := (g.cells + 2047) / 2048
          let base := match e.half with
            | .a => 0
            | .b => g.depth * pages
          cw.soft.length = 15360 ∧
          ∀ q bit, q < places → bit < bits →
            let num := q * words + e.k
            let cell := s.pool.readAt (s.pool.pagesOf l) (base + num / g.cells * pages + num % g.cells / 2048)
              (num % g.cells % 2048)
            cw.soft[q * bits + bit]? = some ⟨Config.hardDecision e.con cell.re cell.im bit,
              if cell.r = 0 then 0 else min 4095 (Config.softMagnitude e.con cell.re cell.im cell.r bit)⟩))

/-- The decode of a codeword (R107): CLEAN where every parity check is satisfied by the copy, CORRECTED after the first iteration
at which every one is, FAILED after the whole budget; a copy of erasures satisfies none. The checks and what an iteration gives
each bit are free values (log 6). Its packets (R108, R12): their number by the rate, 188 bytes each with sync byte 47h, and the
error flag on each of a FAILED decode; every other byte stands as decoded. A decode completion (R109, R110,
R111): nothing unless its time stands (the model's choice, log 2); a marked codeword ends in silence; another hands its packets
to the map in order under its owner's origin, adds to its lane's counters and statistics, is an occurrence of CW_FAILED if it
failed, and the decoder takes the next. -/
def Obligations.DecodeCompletes : Prop :=
  (∀ cw : Codeword,
    let copy : Nat → List SoftBit := bitsAfter cw.rate cw.soft
    let holds : Nat → Prop := fun n => (∃ b ∈ copy n, b.mag ≠ 0) ∧ ∀ check ∈ Config.parityChecks cw.rate,
      (∀ j ∈ check, ∃ b : SoftBit, (copy n)[j]? = some b ∧ b.mag ≠ 0) ∧
      (check.countP (fun j => ((copy n).getD j ⟨false, 0⟩).sign)) % 2 = 0
    copy 0 = cw.soft ∧
    (∀ n j : Nat, 0 < n → (∃ b ∈ cw.soft, b.mag ≠ 0) → j < cw.soft.length → (copy n)[j]? =
      some ⟨(Config.bitAfter cw.rate cw.soft n j).1, (Config.bitAfter cw.rate cw.soft n j).2⟩) ∧
    (decodeEnd cw = .clean ↔ holds 0) ∧
    (∀ n, decodeEnd cw = .corrected n ↔
      ¬holds 0 ∧ 1 ≤ n ∧ n ≤ cw.budget ∧ holds n ∧ ∀ m, 1 ≤ m → m < n → ¬holds m) ∧
    (decodeEnd cw = .failed ↔ ∀ n, n ≤ cw.budget → ¬holds n) ∧
    ((∀ b ∈ cw.soft, b.mag = 0) → decodeEnd cw = .failed) ∧
    iterationsRun cw = (match decodeEnd cw with
      | .clean => 0
      | .corrected n => n
      | .failed => cw.budget) ∧
    finalBits cw = (copy (iterationsRun cw)).map (·.sign)) ∧
  (∀ cw : Codeword,
    (packetsOf cw).length = (match cw.rate with | 0 => 5 | 1 => 6 | 2 => 6 | 3 => 7 | _ => 8) ∧
    (∀ p ∈ packetsOf cw, p.length = 188 ∧ byteAt p 0 = 0x47#8) ∧
    (decodeEnd cw = .failed → ∀ p ∈ packetsOf cw, pktError p = true) ∧
    (∀ (i k : Nat) (p : Packet), (packetsOf cw)[i]? = some p → 0 < k → k < 188 →
      let decoded := byteOfBits ((finalBits cw).drop (1504 * i + 8 * k))
      byteAt p k = if decodeEnd cw = .failed ∧ k = 1 then decoded ||| 0x80#8 else decoded)) ∧
  ∀ s : State,
    ∃ t, exec (.decodeCompletion ()) s = .next t ∧
      (s.dec.inflight = none → Happened s t) ∧
      (∀ cw, s.dec.inflight = some cw →
        let n := iterationsRun cw
        let due := s.time = (cw.takeTime + (108 + 270 * n)) % 281474976710656
        let o := cw.owner
        let c := (s.lane o).counters
        (¬due → Happened s t) ∧
        (due → cw.marked = true →
          ∃ a : State, a = takeIfIdle { s with dec := { s.dec with inflight := none } } ∧ Happened a t) ∧
        (due → cw.marked = false →
          let b := (packetsOf cw).foldl (fun z p => mapArrival o.val p z) s
          b.lanes = s.lanes ∧ b.dec = s.dec ∧ b.pool = s.pool ∧ b.pairs = s.pairs ∧ b.timers = s.timers ∧ b.time = s.time ∧
          ∃ d a : State, a = takeIfIdle d ∧ Happened a t ∧
            d = { b with
              lanes := s.lanes.set o { s.lane o with counters := { c with
                emitted := (c.emitted + (packetsOf cw).length) % 4294967296
                clean := if decodeEnd cw = .clean then (c.clean + 1) % 4294967296 else c.clean
                corrected := if decodeEnd cw ≠ .clean ∧ decodeEnd cw ≠ .failed then (c.corrected + 1) % 4294967296
                  else c.corrected
                failed := if decodeEnd cw = .failed then (c.failed + 1) % 4294967296 else c.failed } }
              dec := { s.dec with inflight := none, stats := d.dec.stats }
              work := b.work ++ (if decodeEnd cw = .failed then [.occ (.cwFailed o)] else []) } ∧
            d.dec.stats[o] = ⟨min 4294967295 (s.dec.stats[o].count + 1),
              min 4294967295 (s.dec.stats[o].iterations + n)⟩ ∧
            (∀ k : LaneId, k ≠ o → d.dec.stats[k] = s.dec.stats[k])))
end

