-- ==== Sys2Proof/Laws/State.lean ====
section
/-! SUPPORT. The lemmas of the state's named updates: each field an update leaves, and each part it sets, as it reads
afterwards. -/

namespace Sys2Proof.Machine

/-! State.setLane -/

@[simp] theorem State.setLane_time (s : State) (l : LaneId) (c : Lane) : (s.setLane l c).time = s.time := rfl
@[simp] theorem State.setLane_links (s : State) (l : LaneId) (c : Lane) : (s.setLane l c).links = s.links := rfl
@[simp] theorem State.setLane_straps (s : State) (l : LaneId) (c : Lane) : (s.setLane l c).straps = s.straps := rfl
@[simp] theorem State.setLane_pairs (s : State) (l : LaneId) (c : Lane) : (s.setLane l c).pairs = s.pairs := rfl
@[simp] theorem State.setLane_pool (s : State) (l : LaneId) (c : Lane) : (s.setLane l c).pool = s.pool := rfl
@[simp] theorem State.setLane_dec (s : State) (l : LaneId) (c : Lane) : (s.setLane l c).dec = s.dec := rfl
@[simp] theorem State.setLane_smap (s : State) (l : LaneId) (c : Lane) : (s.setLane l c).smap = s.smap := rfl
@[simp] theorem State.setLane_ports (s : State) (l : LaneId) (c : Lane) : (s.setLane l c).ports = s.ports := rfl
@[simp] theorem State.setLane_co (s : State) (l : LaneId) (c : Lane) : (s.setLane l c).co = s.co := rfl
@[simp] theorem State.setLane_ci (s : State) (l : LaneId) (c : Lane) : (s.setLane l c).ci = s.ci := rfl
@[simp] theorem State.setLane_monitors (s : State) (l : LaneId) (c : Lane) : (s.setLane l c).monitors = s.monitors := rfl
@[simp] theorem State.setLane_timers (s : State) (l : LaneId) (c : Lane) : (s.setLane l c).timers = s.timers := rfl
@[simp] theorem State.setLane_mgmt (s : State) (l : LaneId) (c : Lane) : (s.setLane l c).mgmt = s.mgmt := rfl
@[simp] theorem State.setLane_ev (s : State) (l : LaneId) (c : Lane) : (s.setLane l c).ev = s.ev := rfl
@[simp] theorem State.setLane_log (s : State) (l : LaneId) (c : Lane) : (s.setLane l c).log = s.log := rfl
@[simp] theorem State.setLane_work (s : State) (l : LaneId) (c : Lane) : (s.setLane l c).work = s.work := rfl
@[simp] theorem State.setLane_pending (s : State) (l : LaneId) (c : Lane) : (s.setLane l c).pending = s.pending := rfl

/-! State.modLane -/

@[simp] theorem State.modLane_time (s : State) (l : LaneId) (f : Lane → Lane) : (s.modLane l f).time = s.time := rfl
@[simp] theorem State.modLane_links (s : State) (l : LaneId) (f : Lane → Lane) : (s.modLane l f).links = s.links := rfl
@[simp] theorem State.modLane_straps (s : State) (l : LaneId) (f : Lane → Lane) : (s.modLane l f).straps = s.straps := rfl
@[simp] theorem State.modLane_pairs (s : State) (l : LaneId) (f : Lane → Lane) : (s.modLane l f).pairs = s.pairs := rfl
@[simp] theorem State.modLane_pool (s : State) (l : LaneId) (f : Lane → Lane) : (s.modLane l f).pool = s.pool := rfl
@[simp] theorem State.modLane_dec (s : State) (l : LaneId) (f : Lane → Lane) : (s.modLane l f).dec = s.dec := rfl
@[simp] theorem State.modLane_smap (s : State) (l : LaneId) (f : Lane → Lane) : (s.modLane l f).smap = s.smap := rfl
@[simp] theorem State.modLane_ports (s : State) (l : LaneId) (f : Lane → Lane) : (s.modLane l f).ports = s.ports := rfl
@[simp] theorem State.modLane_co (s : State) (l : LaneId) (f : Lane → Lane) : (s.modLane l f).co = s.co := rfl
@[simp] theorem State.modLane_ci (s : State) (l : LaneId) (f : Lane → Lane) : (s.modLane l f).ci = s.ci := rfl
@[simp] theorem State.modLane_monitors (s : State) (l : LaneId) (f : Lane → Lane) : (s.modLane l f).monitors = s.monitors := rfl
@[simp] theorem State.modLane_timers (s : State) (l : LaneId) (f : Lane → Lane) : (s.modLane l f).timers = s.timers := rfl
@[simp] theorem State.modLane_mgmt (s : State) (l : LaneId) (f : Lane → Lane) : (s.modLane l f).mgmt = s.mgmt := rfl
@[simp] theorem State.modLane_ev (s : State) (l : LaneId) (f : Lane → Lane) : (s.modLane l f).ev = s.ev := rfl
@[simp] theorem State.modLane_log (s : State) (l : LaneId) (f : Lane → Lane) : (s.modLane l f).log = s.log := rfl
@[simp] theorem State.modLane_work (s : State) (l : LaneId) (f : Lane → Lane) : (s.modLane l f).work = s.work := rfl
@[simp] theorem State.modLane_pending (s : State) (l : LaneId) (f : Lane → Lane) : (s.modLane l f).pending = s.pending := rfl

/-! State.setPair -/

@[simp] theorem State.setPair_time (s : State) (p : PairId) (c : Pair) : (s.setPair p c).time = s.time := rfl
@[simp] theorem State.setPair_links (s : State) (p : PairId) (c : Pair) : (s.setPair p c).links = s.links := rfl
@[simp] theorem State.setPair_straps (s : State) (p : PairId) (c : Pair) : (s.setPair p c).straps = s.straps := rfl
@[simp] theorem State.setPair_lanes (s : State) (p : PairId) (c : Pair) : (s.setPair p c).lanes = s.lanes := rfl
@[simp] theorem State.setPair_pool (s : State) (p : PairId) (c : Pair) : (s.setPair p c).pool = s.pool := rfl
@[simp] theorem State.setPair_dec (s : State) (p : PairId) (c : Pair) : (s.setPair p c).dec = s.dec := rfl
@[simp] theorem State.setPair_smap (s : State) (p : PairId) (c : Pair) : (s.setPair p c).smap = s.smap := rfl
@[simp] theorem State.setPair_ports (s : State) (p : PairId) (c : Pair) : (s.setPair p c).ports = s.ports := rfl
@[simp] theorem State.setPair_co (s : State) (p : PairId) (c : Pair) : (s.setPair p c).co = s.co := rfl
@[simp] theorem State.setPair_ci (s : State) (p : PairId) (c : Pair) : (s.setPair p c).ci = s.ci := rfl
@[simp] theorem State.setPair_monitors (s : State) (p : PairId) (c : Pair) : (s.setPair p c).monitors = s.monitors := rfl
@[simp] theorem State.setPair_timers (s : State) (p : PairId) (c : Pair) : (s.setPair p c).timers = s.timers := rfl
@[simp] theorem State.setPair_mgmt (s : State) (p : PairId) (c : Pair) : (s.setPair p c).mgmt = s.mgmt := rfl
@[simp] theorem State.setPair_ev (s : State) (p : PairId) (c : Pair) : (s.setPair p c).ev = s.ev := rfl
@[simp] theorem State.setPair_log (s : State) (p : PairId) (c : Pair) : (s.setPair p c).log = s.log := rfl
@[simp] theorem State.setPair_work (s : State) (p : PairId) (c : Pair) : (s.setPair p c).work = s.work := rfl
@[simp] theorem State.setPair_pending (s : State) (p : PairId) (c : Pair) : (s.setPair p c).pending = s.pending := rfl

/-! State.modPair -/

@[simp] theorem State.modPair_time (s : State) (p : PairId) (f : Pair → Pair) : (s.modPair p f).time = s.time := rfl
@[simp] theorem State.modPair_links (s : State) (p : PairId) (f : Pair → Pair) : (s.modPair p f).links = s.links := rfl
@[simp] theorem State.modPair_straps (s : State) (p : PairId) (f : Pair → Pair) : (s.modPair p f).straps = s.straps := rfl
@[simp] theorem State.modPair_lanes (s : State) (p : PairId) (f : Pair → Pair) : (s.modPair p f).lanes = s.lanes := rfl
@[simp] theorem State.modPair_pool (s : State) (p : PairId) (f : Pair → Pair) : (s.modPair p f).pool = s.pool := rfl
@[simp] theorem State.modPair_dec (s : State) (p : PairId) (f : Pair → Pair) : (s.modPair p f).dec = s.dec := rfl
@[simp] theorem State.modPair_smap (s : State) (p : PairId) (f : Pair → Pair) : (s.modPair p f).smap = s.smap := rfl
@[simp] theorem State.modPair_ports (s : State) (p : PairId) (f : Pair → Pair) : (s.modPair p f).ports = s.ports := rfl
@[simp] theorem State.modPair_co (s : State) (p : PairId) (f : Pair → Pair) : (s.modPair p f).co = s.co := rfl
@[simp] theorem State.modPair_ci (s : State) (p : PairId) (f : Pair → Pair) : (s.modPair p f).ci = s.ci := rfl
@[simp] theorem State.modPair_monitors (s : State) (p : PairId) (f : Pair → Pair) : (s.modPair p f).monitors = s.monitors := rfl
@[simp] theorem State.modPair_timers (s : State) (p : PairId) (f : Pair → Pair) : (s.modPair p f).timers = s.timers := rfl
@[simp] theorem State.modPair_mgmt (s : State) (p : PairId) (f : Pair → Pair) : (s.modPair p f).mgmt = s.mgmt := rfl
@[simp] theorem State.modPair_ev (s : State) (p : PairId) (f : Pair → Pair) : (s.modPair p f).ev = s.ev := rfl
@[simp] theorem State.modPair_log (s : State) (p : PairId) (f : Pair → Pair) : (s.modPair p f).log = s.log := rfl
@[simp] theorem State.modPair_work (s : State) (p : PairId) (f : Pair → Pair) : (s.modPair p f).work = s.work := rfl
@[simp] theorem State.modPair_pending (s : State) (p : PairId) (f : Pair → Pair) : (s.modPair p f).pending = s.pending := rfl

/-! State.setPort -/

@[simp] theorem State.setPort_time (s : State) (p : PortId) (c : Port) : (s.setPort p c).time = s.time := rfl
@[simp] theorem State.setPort_links (s : State) (p : PortId) (c : Port) : (s.setPort p c).links = s.links := rfl
@[simp] theorem State.setPort_straps (s : State) (p : PortId) (c : Port) : (s.setPort p c).straps = s.straps := rfl
@[simp] theorem State.setPort_lanes (s : State) (p : PortId) (c : Port) : (s.setPort p c).lanes = s.lanes := rfl
@[simp] theorem State.setPort_pairs (s : State) (p : PortId) (c : Port) : (s.setPort p c).pairs = s.pairs := rfl
@[simp] theorem State.setPort_pool (s : State) (p : PortId) (c : Port) : (s.setPort p c).pool = s.pool := rfl
@[simp] theorem State.setPort_dec (s : State) (p : PortId) (c : Port) : (s.setPort p c).dec = s.dec := rfl
@[simp] theorem State.setPort_smap (s : State) (p : PortId) (c : Port) : (s.setPort p c).smap = s.smap := rfl
@[simp] theorem State.setPort_co (s : State) (p : PortId) (c : Port) : (s.setPort p c).co = s.co := rfl
@[simp] theorem State.setPort_ci (s : State) (p : PortId) (c : Port) : (s.setPort p c).ci = s.ci := rfl
@[simp] theorem State.setPort_monitors (s : State) (p : PortId) (c : Port) : (s.setPort p c).monitors = s.monitors := rfl
@[simp] theorem State.setPort_timers (s : State) (p : PortId) (c : Port) : (s.setPort p c).timers = s.timers := rfl
@[simp] theorem State.setPort_mgmt (s : State) (p : PortId) (c : Port) : (s.setPort p c).mgmt = s.mgmt := rfl
@[simp] theorem State.setPort_ev (s : State) (p : PortId) (c : Port) : (s.setPort p c).ev = s.ev := rfl
@[simp] theorem State.setPort_log (s : State) (p : PortId) (c : Port) : (s.setPort p c).log = s.log := rfl
@[simp] theorem State.setPort_work (s : State) (p : PortId) (c : Port) : (s.setPort p c).work = s.work := rfl
@[simp] theorem State.setPort_pending (s : State) (p : PortId) (c : Port) : (s.setPort p c).pending = s.pending := rfl

/-! State.modPort -/

@[simp] theorem State.modPort_time (s : State) (p : PortId) (f : Port → Port) : (s.modPort p f).time = s.time := rfl
@[simp] theorem State.modPort_links (s : State) (p : PortId) (f : Port → Port) : (s.modPort p f).links = s.links := rfl
@[simp] theorem State.modPort_straps (s : State) (p : PortId) (f : Port → Port) : (s.modPort p f).straps = s.straps := rfl
@[simp] theorem State.modPort_lanes (s : State) (p : PortId) (f : Port → Port) : (s.modPort p f).lanes = s.lanes := rfl
@[simp] theorem State.modPort_pairs (s : State) (p : PortId) (f : Port → Port) : (s.modPort p f).pairs = s.pairs := rfl
@[simp] theorem State.modPort_pool (s : State) (p : PortId) (f : Port → Port) : (s.modPort p f).pool = s.pool := rfl
@[simp] theorem State.modPort_dec (s : State) (p : PortId) (f : Port → Port) : (s.modPort p f).dec = s.dec := rfl
@[simp] theorem State.modPort_smap (s : State) (p : PortId) (f : Port → Port) : (s.modPort p f).smap = s.smap := rfl
@[simp] theorem State.modPort_co (s : State) (p : PortId) (f : Port → Port) : (s.modPort p f).co = s.co := rfl
@[simp] theorem State.modPort_ci (s : State) (p : PortId) (f : Port → Port) : (s.modPort p f).ci = s.ci := rfl
@[simp] theorem State.modPort_monitors (s : State) (p : PortId) (f : Port → Port) : (s.modPort p f).monitors = s.monitors := rfl
@[simp] theorem State.modPort_timers (s : State) (p : PortId) (f : Port → Port) : (s.modPort p f).timers = s.timers := rfl
@[simp] theorem State.modPort_mgmt (s : State) (p : PortId) (f : Port → Port) : (s.modPort p f).mgmt = s.mgmt := rfl
@[simp] theorem State.modPort_ev (s : State) (p : PortId) (f : Port → Port) : (s.modPort p f).ev = s.ev := rfl
@[simp] theorem State.modPort_log (s : State) (p : PortId) (f : Port → Port) : (s.modPort p f).log = s.log := rfl
@[simp] theorem State.modPort_work (s : State) (p : PortId) (f : Port → Port) : (s.modPort p f).work = s.work := rfl
@[simp] theorem State.modPort_pending (s : State) (p : PortId) (f : Port → Port) : (s.modPort p f).pending = s.pending := rfl

/-! State.setMonitor -/

@[simp] theorem State.setMonitor_time (s : State) (m : MonitorId) (c : Monitor) : (s.setMonitor m c).time = s.time := rfl
@[simp] theorem State.setMonitor_links (s : State) (m : MonitorId) (c : Monitor) : (s.setMonitor m c).links = s.links := rfl
@[simp] theorem State.setMonitor_straps (s : State) (m : MonitorId) (c : Monitor) : (s.setMonitor m c).straps = s.straps := rfl
@[simp] theorem State.setMonitor_lanes (s : State) (m : MonitorId) (c : Monitor) : (s.setMonitor m c).lanes = s.lanes := rfl
@[simp] theorem State.setMonitor_pairs (s : State) (m : MonitorId) (c : Monitor) : (s.setMonitor m c).pairs = s.pairs := rfl
@[simp] theorem State.setMonitor_pool (s : State) (m : MonitorId) (c : Monitor) : (s.setMonitor m c).pool = s.pool := rfl
@[simp] theorem State.setMonitor_dec (s : State) (m : MonitorId) (c : Monitor) : (s.setMonitor m c).dec = s.dec := rfl
@[simp] theorem State.setMonitor_smap (s : State) (m : MonitorId) (c : Monitor) : (s.setMonitor m c).smap = s.smap := rfl
@[simp] theorem State.setMonitor_ports (s : State) (m : MonitorId) (c : Monitor) : (s.setMonitor m c).ports = s.ports := rfl
@[simp] theorem State.setMonitor_co (s : State) (m : MonitorId) (c : Monitor) : (s.setMonitor m c).co = s.co := rfl
@[simp] theorem State.setMonitor_ci (s : State) (m : MonitorId) (c : Monitor) : (s.setMonitor m c).ci = s.ci := rfl
@[simp] theorem State.setMonitor_timers (s : State) (m : MonitorId) (c : Monitor) : (s.setMonitor m c).timers = s.timers := rfl
@[simp] theorem State.setMonitor_mgmt (s : State) (m : MonitorId) (c : Monitor) : (s.setMonitor m c).mgmt = s.mgmt := rfl
@[simp] theorem State.setMonitor_ev (s : State) (m : MonitorId) (c : Monitor) : (s.setMonitor m c).ev = s.ev := rfl
@[simp] theorem State.setMonitor_log (s : State) (m : MonitorId) (c : Monitor) : (s.setMonitor m c).log = s.log := rfl
@[simp] theorem State.setMonitor_work (s : State) (m : MonitorId) (c : Monitor) : (s.setMonitor m c).work = s.work := rfl
@[simp] theorem State.setMonitor_pending (s : State) (m : MonitorId) (c : Monitor) : (s.setMonitor m c).pending = s.pending := rfl

/-! State.setTimer -/

@[simp] theorem State.setTimer_time (s : State) (t : TimerId) (c : Timer) : (s.setTimer t c).time = s.time := rfl
@[simp] theorem State.setTimer_links (s : State) (t : TimerId) (c : Timer) : (s.setTimer t c).links = s.links := rfl
@[simp] theorem State.setTimer_straps (s : State) (t : TimerId) (c : Timer) : (s.setTimer t c).straps = s.straps := rfl
@[simp] theorem State.setTimer_lanes (s : State) (t : TimerId) (c : Timer) : (s.setTimer t c).lanes = s.lanes := rfl
@[simp] theorem State.setTimer_pairs (s : State) (t : TimerId) (c : Timer) : (s.setTimer t c).pairs = s.pairs := rfl
@[simp] theorem State.setTimer_pool (s : State) (t : TimerId) (c : Timer) : (s.setTimer t c).pool = s.pool := rfl
@[simp] theorem State.setTimer_dec (s : State) (t : TimerId) (c : Timer) : (s.setTimer t c).dec = s.dec := rfl
@[simp] theorem State.setTimer_smap (s : State) (t : TimerId) (c : Timer) : (s.setTimer t c).smap = s.smap := rfl
@[simp] theorem State.setTimer_ports (s : State) (t : TimerId) (c : Timer) : (s.setTimer t c).ports = s.ports := rfl
@[simp] theorem State.setTimer_co (s : State) (t : TimerId) (c : Timer) : (s.setTimer t c).co = s.co := rfl
@[simp] theorem State.setTimer_ci (s : State) (t : TimerId) (c : Timer) : (s.setTimer t c).ci = s.ci := rfl
@[simp] theorem State.setTimer_monitors (s : State) (t : TimerId) (c : Timer) : (s.setTimer t c).monitors = s.monitors := rfl
@[simp] theorem State.setTimer_mgmt (s : State) (t : TimerId) (c : Timer) : (s.setTimer t c).mgmt = s.mgmt := rfl
@[simp] theorem State.setTimer_ev (s : State) (t : TimerId) (c : Timer) : (s.setTimer t c).ev = s.ev := rfl
@[simp] theorem State.setTimer_log (s : State) (t : TimerId) (c : Timer) : (s.setTimer t c).log = s.log := rfl
@[simp] theorem State.setTimer_work (s : State) (t : TimerId) (c : Timer) : (s.setTimer t c).work = s.work := rfl
@[simp] theorem State.setTimer_pending (s : State) (t : TimerId) (c : Timer) : (s.setTimer t c).pending = s.pending := rfl

/-! State.modTimer -/

@[simp] theorem State.modTimer_time (s : State) (t : TimerId) (f : Timer → Timer) : (s.modTimer t f).time = s.time := rfl
@[simp] theorem State.modTimer_links (s : State) (t : TimerId) (f : Timer → Timer) : (s.modTimer t f).links = s.links := rfl
@[simp] theorem State.modTimer_straps (s : State) (t : TimerId) (f : Timer → Timer) : (s.modTimer t f).straps = s.straps := rfl
@[simp] theorem State.modTimer_lanes (s : State) (t : TimerId) (f : Timer → Timer) : (s.modTimer t f).lanes = s.lanes := rfl
@[simp] theorem State.modTimer_pairs (s : State) (t : TimerId) (f : Timer → Timer) : (s.modTimer t f).pairs = s.pairs := rfl
@[simp] theorem State.modTimer_pool (s : State) (t : TimerId) (f : Timer → Timer) : (s.modTimer t f).pool = s.pool := rfl
@[simp] theorem State.modTimer_dec (s : State) (t : TimerId) (f : Timer → Timer) : (s.modTimer t f).dec = s.dec := rfl
@[simp] theorem State.modTimer_smap (s : State) (t : TimerId) (f : Timer → Timer) : (s.modTimer t f).smap = s.smap := rfl
@[simp] theorem State.modTimer_ports (s : State) (t : TimerId) (f : Timer → Timer) : (s.modTimer t f).ports = s.ports := rfl
@[simp] theorem State.modTimer_co (s : State) (t : TimerId) (f : Timer → Timer) : (s.modTimer t f).co = s.co := rfl
@[simp] theorem State.modTimer_ci (s : State) (t : TimerId) (f : Timer → Timer) : (s.modTimer t f).ci = s.ci := rfl
@[simp] theorem State.modTimer_monitors (s : State) (t : TimerId) (f : Timer → Timer) : (s.modTimer t f).monitors = s.monitors := rfl
@[simp] theorem State.modTimer_mgmt (s : State) (t : TimerId) (f : Timer → Timer) : (s.modTimer t f).mgmt = s.mgmt := rfl
@[simp] theorem State.modTimer_ev (s : State) (t : TimerId) (f : Timer → Timer) : (s.modTimer t f).ev = s.ev := rfl
@[simp] theorem State.modTimer_log (s : State) (t : TimerId) (f : Timer → Timer) : (s.modTimer t f).log = s.log := rfl
@[simp] theorem State.modTimer_work (s : State) (t : TimerId) (f : Timer → Timer) : (s.modTimer t f).work = s.work := rfl
@[simp] theorem State.modTimer_pending (s : State) (t : TimerId) (f : Timer → Timer) : (s.modTimer t f).pending = s.pending := rfl

/-! State.addWork -/

@[simp] theorem State.addWork_time (s : State) (ws : List Work) : (s.addWork ws).time = s.time := rfl
@[simp] theorem State.addWork_links (s : State) (ws : List Work) : (s.addWork ws).links = s.links := rfl
@[simp] theorem State.addWork_straps (s : State) (ws : List Work) : (s.addWork ws).straps = s.straps := rfl
@[simp] theorem State.addWork_lanes (s : State) (ws : List Work) : (s.addWork ws).lanes = s.lanes := rfl
@[simp] theorem State.addWork_pairs (s : State) (ws : List Work) : (s.addWork ws).pairs = s.pairs := rfl
@[simp] theorem State.addWork_pool (s : State) (ws : List Work) : (s.addWork ws).pool = s.pool := rfl
@[simp] theorem State.addWork_dec (s : State) (ws : List Work) : (s.addWork ws).dec = s.dec := rfl
@[simp] theorem State.addWork_smap (s : State) (ws : List Work) : (s.addWork ws).smap = s.smap := rfl
@[simp] theorem State.addWork_ports (s : State) (ws : List Work) : (s.addWork ws).ports = s.ports := rfl
@[simp] theorem State.addWork_co (s : State) (ws : List Work) : (s.addWork ws).co = s.co := rfl
@[simp] theorem State.addWork_ci (s : State) (ws : List Work) : (s.addWork ws).ci = s.ci := rfl
@[simp] theorem State.addWork_monitors (s : State) (ws : List Work) : (s.addWork ws).monitors = s.monitors := rfl
@[simp] theorem State.addWork_timers (s : State) (ws : List Work) : (s.addWork ws).timers = s.timers := rfl
@[simp] theorem State.addWork_mgmt (s : State) (ws : List Work) : (s.addWork ws).mgmt = s.mgmt := rfl
@[simp] theorem State.addWork_ev (s : State) (ws : List Work) : (s.addWork ws).ev = s.ev := rfl
@[simp] theorem State.addWork_log (s : State) (ws : List Work) : (s.addWork ws).log = s.log := rfl
@[simp] theorem State.addWork_pending (s : State) (ws : List Work) : (s.addWork ws).pending = s.pending := rfl

/-! raise -/

@[simp] theorem raise_time (n : Nat) (s : State) : (raise n s).time = s.time := rfl
@[simp] theorem raise_links (n : Nat) (s : State) : (raise n s).links = s.links := rfl
@[simp] theorem raise_straps (n : Nat) (s : State) : (raise n s).straps = s.straps := rfl
@[simp] theorem raise_lanes (n : Nat) (s : State) : (raise n s).lanes = s.lanes := rfl
@[simp] theorem raise_pairs (n : Nat) (s : State) : (raise n s).pairs = s.pairs := rfl
@[simp] theorem raise_pool (n : Nat) (s : State) : (raise n s).pool = s.pool := rfl
@[simp] theorem raise_dec (n : Nat) (s : State) : (raise n s).dec = s.dec := rfl
@[simp] theorem raise_smap (n : Nat) (s : State) : (raise n s).smap = s.smap := rfl
@[simp] theorem raise_ports (n : Nat) (s : State) : (raise n s).ports = s.ports := rfl
@[simp] theorem raise_co (n : Nat) (s : State) : (raise n s).co = s.co := rfl
@[simp] theorem raise_ci (n : Nat) (s : State) : (raise n s).ci = s.ci := rfl
@[simp] theorem raise_monitors (n : Nat) (s : State) : (raise n s).monitors = s.monitors := rfl
@[simp] theorem raise_timers (n : Nat) (s : State) : (raise n s).timers = s.timers := rfl
@[simp] theorem raise_mgmt (n : Nat) (s : State) : (raise n s).mgmt = s.mgmt := rfl
@[simp] theorem raise_log (n : Nat) (s : State) : (raise n s).log = s.log := rfl
@[simp] theorem raise_work (n : Nat) (s : State) : (raise n s).work = s.work := rfl
@[simp] theorem raise_pending (n : Nat) (s : State) : (raise n s).pending = s.pending := rfl

/-! setCondition -/

@[simp] theorem setCondition_time (n : Nat) (b : Bool) (s : State) : (setCondition n b s).time = s.time := rfl
@[simp] theorem setCondition_links (n : Nat) (b : Bool) (s : State) : (setCondition n b s).links = s.links := rfl
@[simp] theorem setCondition_straps (n : Nat) (b : Bool) (s : State) : (setCondition n b s).straps = s.straps := rfl
@[simp] theorem setCondition_lanes (n : Nat) (b : Bool) (s : State) : (setCondition n b s).lanes = s.lanes := rfl
@[simp] theorem setCondition_pairs (n : Nat) (b : Bool) (s : State) : (setCondition n b s).pairs = s.pairs := rfl
@[simp] theorem setCondition_pool (n : Nat) (b : Bool) (s : State) : (setCondition n b s).pool = s.pool := rfl
@[simp] theorem setCondition_dec (n : Nat) (b : Bool) (s : State) : (setCondition n b s).dec = s.dec := rfl
@[simp] theorem setCondition_smap (n : Nat) (b : Bool) (s : State) : (setCondition n b s).smap = s.smap := rfl
@[simp] theorem setCondition_ports (n : Nat) (b : Bool) (s : State) : (setCondition n b s).ports = s.ports := rfl
@[simp] theorem setCondition_co (n : Nat) (b : Bool) (s : State) : (setCondition n b s).co = s.co := rfl
@[simp] theorem setCondition_ci (n : Nat) (b : Bool) (s : State) : (setCondition n b s).ci = s.ci := rfl
@[simp] theorem setCondition_monitors (n : Nat) (b : Bool) (s : State) : (setCondition n b s).monitors = s.monitors := rfl
@[simp] theorem setCondition_timers (n : Nat) (b : Bool) (s : State) : (setCondition n b s).timers = s.timers := rfl
@[simp] theorem setCondition_mgmt (n : Nat) (b : Bool) (s : State) : (setCondition n b s).mgmt = s.mgmt := rfl
@[simp] theorem setCondition_log (n : Nat) (b : Bool) (s : State) : (setCondition n b s).log = s.log := rfl
@[simp] theorem setCondition_work (n : Nat) (b : Bool) (s : State) : (setCondition n b s).work = s.work := rfl
@[simp] theorem setCondition_pending (n : Nat) (b : Bool) (s : State) : (setCondition n b s).pending = s.pending := rfl

/-! Reading back one part after an update of it, or of another part. -/

@[simp] theorem lane_setLane_self (s : State) (i : LaneId) (c : Lane) : (s.setLane i c).lane i = c := by
  simp [State.lane, State.setLane]
theorem lane_setLane_ne (s : State) (i j : LaneId) (c : Lane) (h : j ≠ i) : (s.setLane i c).lane j = s.lane j := by
  have h' : i.val ≠ j.val := fun e => h (Fin.ext e.symm)
  simp [State.lane, State.setLane, h']
@[simp] theorem lane_modLane_self (s : State) (i : LaneId) (f : Lane → Lane) : (s.modLane i f).lane i = f (s.lane i) := by
  simp [State.modLane]
theorem lane_modLane_ne (s : State) (i j : LaneId) (f : Lane → Lane) (h : j ≠ i) : (s.modLane i f).lane j = s.lane j := by
  simp [State.modLane, lane_setLane_ne _ _ _ _ h]

@[simp] theorem pairAt_setPair_self (s : State) (i : PairId) (c : Pair) : (s.setPair i c).pairAt i = c := by
  simp [State.pairAt, State.setPair]
theorem pairAt_setPair_ne (s : State) (i j : PairId) (c : Pair) (h : j ≠ i) : (s.setPair i c).pairAt j = s.pairAt j := by
  have h' : i.val ≠ j.val := fun e => h (Fin.ext e.symm)
  simp [State.pairAt, State.setPair, h']
@[simp] theorem pairAt_modPair_self (s : State) (i : PairId) (f : Pair → Pair) : (s.modPair i f).pairAt i = f (s.pairAt i) := by
  simp [State.modPair]
theorem pairAt_modPair_ne (s : State) (i j : PairId) (f : Pair → Pair) (h : j ≠ i) : (s.modPair i f).pairAt j = s.pairAt j := by
  simp [State.modPair, pairAt_setPair_ne _ _ _ _ h]

@[simp] theorem port_setPort_self (s : State) (i : PortId) (c : Port) : (s.setPort i c).port i = c := by
  simp [State.port, State.setPort]
theorem port_setPort_ne (s : State) (i j : PortId) (c : Port) (h : j ≠ i) : (s.setPort i c).port j = s.port j := by
  have h' : i.val ≠ j.val := fun e => h (Fin.ext e.symm)
  simp [State.port, State.setPort, h']
@[simp] theorem port_modPort_self (s : State) (i : PortId) (f : Port → Port) : (s.modPort i f).port i = f (s.port i) := by
  simp [State.modPort]
theorem port_modPort_ne (s : State) (i j : PortId) (f : Port → Port) (h : j ≠ i) : (s.modPort i f).port j = s.port j := by
  simp [State.modPort, port_setPort_ne _ _ _ _ h]

@[simp] theorem monitor_setMonitor_self (s : State) (i : MonitorId) (c : Monitor) : (s.setMonitor i c).monitor i = c := by
  simp [State.monitor, State.setMonitor]
theorem monitor_setMonitor_ne (s : State) (i j : MonitorId) (c : Monitor) (h : j ≠ i) : (s.setMonitor i c).monitor j = s.monitor j := by
  have h' : i.val ≠ j.val := fun e => h (Fin.ext e.symm)
  simp [State.monitor, State.setMonitor, h']

@[simp] theorem timer_setTimer_self (s : State) (i : TimerId) (c : Timer) : (s.setTimer i c).timer i = c := by
  simp [State.timer, State.setTimer]
theorem timer_setTimer_ne (s : State) (i j : TimerId) (c : Timer) (h : j ≠ i) : (s.setTimer i c).timer j = s.timer j := by
  have h' : i.val ≠ j.val := fun e => h (Fin.ext e.symm)
  simp [State.timer, State.setTimer, h']
@[simp] theorem timer_modTimer_self (s : State) (i : TimerId) (f : Timer → Timer) : (s.modTimer i f).timer i = f (s.timer i) := by
  simp [State.modTimer]
theorem timer_modTimer_ne (s : State) (i j : TimerId) (f : Timer → Timer) (h : j ≠ i) : (s.modTimer i f).timer j = s.timer j := by
  simp [State.modTimer, timer_setTimer_ne _ _ _ _ h]

/-! One part after updates elsewhere. -/

@[simp] theorem lane_setPair (s : State) (p : PairId) (c : Pair) (i : LaneId) : (s.setPair p c).lane i = s.lane i := rfl
@[simp] theorem lane_modPair (s : State) (p : PairId) (f : Pair → Pair) (i : LaneId) : (s.modPair p f).lane i = s.lane i := rfl
@[simp] theorem lane_setPort (s : State) (p : PortId) (c : Port) (i : LaneId) : (s.setPort p c).lane i = s.lane i := rfl
@[simp] theorem lane_modPort (s : State) (p : PortId) (f : Port → Port) (i : LaneId) : (s.modPort p f).lane i = s.lane i := rfl
@[simp] theorem lane_setMonitor (s : State) (m : MonitorId) (c : Monitor) (i : LaneId) : (s.setMonitor m c).lane i = s.lane i := rfl
@[simp] theorem lane_setTimer (s : State) (t : TimerId) (c : Timer) (i : LaneId) : (s.setTimer t c).lane i = s.lane i := rfl
@[simp] theorem lane_modTimer (s : State) (t : TimerId) (f : Timer → Timer) (i : LaneId) : (s.modTimer t f).lane i = s.lane i := rfl
@[simp] theorem lane_addWork (s : State) (ws : List Work) (i : LaneId) : (s.addWork ws).lane i = s.lane i := rfl
@[simp] theorem lane_raise (n : Nat) (s : State) (i : LaneId) : (raise n s).lane i = s.lane i := rfl
@[simp] theorem lane_setCondition (n : Nat) (b : Bool) (s : State) (i : LaneId) : (setCondition n b s).lane i = s.lane i := rfl
@[simp] theorem pairAt_setLane (s : State) (l : LaneId) (c : Lane) (i : PairId) : (s.setLane l c).pairAt i = s.pairAt i := rfl
@[simp] theorem pairAt_modLane (s : State) (l : LaneId) (f : Lane → Lane) (i : PairId) : (s.modLane l f).pairAt i = s.pairAt i := rfl
@[simp] theorem pairAt_setPort (s : State) (p : PortId) (c : Port) (i : PairId) : (s.setPort p c).pairAt i = s.pairAt i := rfl
@[simp] theorem pairAt_modPort (s : State) (p : PortId) (f : Port → Port) (i : PairId) : (s.modPort p f).pairAt i = s.pairAt i := rfl
@[simp] theorem pairAt_setMonitor (s : State) (m : MonitorId) (c : Monitor) (i : PairId) : (s.setMonitor m c).pairAt i = s.pairAt i := rfl
@[simp] theorem pairAt_setTimer (s : State) (t : TimerId) (c : Timer) (i : PairId) : (s.setTimer t c).pairAt i = s.pairAt i := rfl
@[simp] theorem pairAt_modTimer (s : State) (t : TimerId) (f : Timer → Timer) (i : PairId) : (s.modTimer t f).pairAt i = s.pairAt i := rfl
@[simp] theorem pairAt_addWork (s : State) (ws : List Work) (i : PairId) : (s.addWork ws).pairAt i = s.pairAt i := rfl
@[simp] theorem pairAt_raise (n : Nat) (s : State) (i : PairId) : (raise n s).pairAt i = s.pairAt i := rfl
@[simp] theorem pairAt_setCondition (n : Nat) (b : Bool) (s : State) (i : PairId) : (setCondition n b s).pairAt i = s.pairAt i := rfl
@[simp] theorem port_setLane (s : State) (l : LaneId) (c : Lane) (i : PortId) : (s.setLane l c).port i = s.port i := rfl
@[simp] theorem port_modLane (s : State) (l : LaneId) (f : Lane → Lane) (i : PortId) : (s.modLane l f).port i = s.port i := rfl
@[simp] theorem port_setPair (s : State) (p : PairId) (c : Pair) (i : PortId) : (s.setPair p c).port i = s.port i := rfl
@[simp] theorem port_modPair (s : State) (p : PairId) (f : Pair → Pair) (i : PortId) : (s.modPair p f).port i = s.port i := rfl
@[simp] theorem port_setMonitor (s : State) (m : MonitorId) (c : Monitor) (i : PortId) : (s.setMonitor m c).port i = s.port i := rfl
@[simp] theorem port_setTimer (s : State) (t : TimerId) (c : Timer) (i : PortId) : (s.setTimer t c).port i = s.port i := rfl
@[simp] theorem port_modTimer (s : State) (t : TimerId) (f : Timer → Timer) (i : PortId) : (s.modTimer t f).port i = s.port i := rfl
@[simp] theorem port_addWork (s : State) (ws : List Work) (i : PortId) : (s.addWork ws).port i = s.port i := rfl
@[simp] theorem port_raise (n : Nat) (s : State) (i : PortId) : (raise n s).port i = s.port i := rfl
@[simp] theorem port_setCondition (n : Nat) (b : Bool) (s : State) (i : PortId) : (setCondition n b s).port i = s.port i := rfl
@[simp] theorem monitor_setLane (s : State) (l : LaneId) (c : Lane) (i : MonitorId) : (s.setLane l c).monitor i = s.monitor i := rfl
@[simp] theorem monitor_modLane (s : State) (l : LaneId) (f : Lane → Lane) (i : MonitorId) : (s.modLane l f).monitor i = s.monitor i := rfl
@[simp] theorem monitor_setPair (s : State) (p : PairId) (c : Pair) (i : MonitorId) : (s.setPair p c).monitor i = s.monitor i := rfl
@[simp] theorem monitor_modPair (s : State) (p : PairId) (f : Pair → Pair) (i : MonitorId) : (s.modPair p f).monitor i = s.monitor i := rfl
@[simp] theorem monitor_setPort (s : State) (p : PortId) (c : Port) (i : MonitorId) : (s.setPort p c).monitor i = s.monitor i := rfl
@[simp] theorem monitor_modPort (s : State) (p : PortId) (f : Port → Port) (i : MonitorId) : (s.modPort p f).monitor i = s.monitor i := rfl
@[simp] theorem monitor_setTimer (s : State) (t : TimerId) (c : Timer) (i : MonitorId) : (s.setTimer t c).monitor i = s.monitor i := rfl
@[simp] theorem monitor_modTimer (s : State) (t : TimerId) (f : Timer → Timer) (i : MonitorId) : (s.modTimer t f).monitor i = s.monitor i := rfl
@[simp] theorem monitor_addWork (s : State) (ws : List Work) (i : MonitorId) : (s.addWork ws).monitor i = s.monitor i := rfl
@[simp] theorem monitor_raise (n : Nat) (s : State) (i : MonitorId) : (raise n s).monitor i = s.monitor i := rfl
@[simp] theorem monitor_setCondition (n : Nat) (b : Bool) (s : State) (i : MonitorId) : (setCondition n b s).monitor i = s.monitor i := rfl
@[simp] theorem timer_setLane (s : State) (l : LaneId) (c : Lane) (i : TimerId) : (s.setLane l c).timer i = s.timer i := rfl
@[simp] theorem timer_modLane (s : State) (l : LaneId) (f : Lane → Lane) (i : TimerId) : (s.modLane l f).timer i = s.timer i := rfl
@[simp] theorem timer_setPair (s : State) (p : PairId) (c : Pair) (i : TimerId) : (s.setPair p c).timer i = s.timer i := rfl
@[simp] theorem timer_modPair (s : State) (p : PairId) (f : Pair → Pair) (i : TimerId) : (s.modPair p f).timer i = s.timer i := rfl
@[simp] theorem timer_setPort (s : State) (p : PortId) (c : Port) (i : TimerId) : (s.setPort p c).timer i = s.timer i := rfl
@[simp] theorem timer_modPort (s : State) (p : PortId) (f : Port → Port) (i : TimerId) : (s.modPort p f).timer i = s.timer i := rfl
@[simp] theorem timer_setMonitor (s : State) (m : MonitorId) (c : Monitor) (i : TimerId) : (s.setMonitor m c).timer i = s.timer i := rfl
@[simp] theorem timer_addWork (s : State) (ws : List Work) (i : TimerId) : (s.addWork ws).timer i = s.timer i := rfl
@[simp] theorem timer_raise (n : Nat) (s : State) (i : TimerId) : (raise n s).timer i = s.timer i := rfl
@[simp] theorem timer_setCondition (n : Nat) (b : Bool) (s : State) (i : TimerId) : (setCondition n b s).timer i = s.timer i := rfl

end Sys2Proof.Machine
end

