-- ==== Sys2Proof/Laws/Settle.lean ====
section
/-! SUPPORT. What the rest of an event can do (`afterEvent`): it keeps what `Kept` says. Statements about a command's
result cite `afterEvent_kept`. -/

namespace Sys2Proof.Machine

theorem LaneKept.refl (c : Lane) : LaneKept c c := ⟨rfl, rfl, rfl, .inl rfl, fun _ => rfl⟩

theorem LaneKept.trans {c d e : Lane} (h : LaneKept c d) (k : LaneKept d e) : LaneKept c e where
  setup := k.setup.trans h.setup
  reason := k.reason.trans h.reason
  counters := by rw [k.counters, h.counters]
  state := by
    rcases h.state with h1 | ⟨h1, h2⟩ <;> rcases k.state with k1 | ⟨k1, k2⟩
    · exact .inl (k1.trans h1)
    · exact .inr ⟨h1 ▸ k1, k2⟩
    · exact .inr ⟨h1, k1.trans h2⟩
    · rw [h2] at k1; rcases k1 with k1 | k1 <;> cases k1
  rest := by
    intro he
    rcases h.state with h1 | ⟨h1, h2⟩
    · have k1 := k.rest (he.trans h1.symm)
      have h3 := h.rest h1
      rw [k1, h3]
    · exfalso
      rcases k.state with k1 | ⟨k1, k2⟩
      · rw [k1, h2] at he; rw [← he] at h1; rcases h1 with h1 | h1 <;> cases h1
      · rw [k2] at he; rw [← he] at h1; rcases h1 with h1 | h1 <;> cases h1

theorem TimerKept.refl (a : Timer) : TimerKept a a := ⟨rfl, fun _ => rfl, fun _ => rfl, id⟩

theorem TimerKept.trans {a b c : Timer} (h : TimerKept a b) (k : TimerKept b c) : TimerKept a c where
  setting := k.setting.trans h.setting
  stopped := fun e => by have := h.stopped e; subst this; exact k.stopped e
  interval := fun e => by have := h.interval e; subst this; exact k.interval e
  running := fun e => k.running (h.running e)

theorem LogKept.refl (a : FaultLog) : LogKept a a := ⟨List.prefix_refl _, id⟩

theorem LogKept.trans {a b c : FaultLog} (h : LogKept a b) (k : LogKept b c) : LogKept a c :=
  ⟨h.records.trans k.records, fun e => k.overflow (h.overflow e)⟩

theorem Kept.refl (s : State) : Kept s s where
  time := rfl
  links := rfl
  straps := rfl
  smap := rfl
  co := rfl
  ci := rfl
  pending := rfl
  mgmtId := rfl
  mgmtAddr := rfl
  mgmtNotices := rfl
  reserved := rfl
  cells := rfl
  inflight := rfl
  pointer := rfl
  high := rfl
  low := rfl
  stats := rfl
  feed := fun _ _ => rfl
  portCo := ⟨[], by simp⟩
  monitors := fun _ => ⟨rfl, id⟩
  timers := fun _ => .refl _
  lanes := fun _ => .refl _
  formed := fun _ => rfl
  enables := rfl
  log := .refl _
  latched := fun _ _ h => h

theorem Kept.trans {s t u : State} (h : Kept s t) (k : Kept t u) : Kept s u where
  time := k.time.trans h.time
  links := k.links.trans h.links
  straps := k.straps.trans h.straps
  smap := k.smap.trans h.smap
  co := k.co.trans h.co
  ci := k.ci.trans h.ci
  pending := k.pending.trans h.pending
  mgmtId := k.mgmtId.trans h.mgmtId
  mgmtAddr := k.mgmtAddr.trans h.mgmtAddr
  mgmtNotices := k.mgmtNotices.trans h.mgmtNotices
  reserved := k.reserved.trans h.reserved
  cells := k.cells.trans h.cells
  inflight := k.inflight.trans h.inflight
  pointer := k.pointer.trans h.pointer
  high := k.high.trans h.high
  low := k.low.trans h.low
  stats := k.stats.trans h.stats
  feed := fun p hp => (k.feed p hp).trans (h.feed p hp)
  portCo := by
    obtain ⟨a, ha⟩ := h.portCo
    obtain ⟨b, hb⟩ := k.portCo
    exact ⟨a ++ b, by rw [hb, ha]; simp⟩
  monitors := fun m => ⟨by rw [(k.monitors m).1, (h.monitors m).1], fun e => (k.monitors m).2 ((h.monitors m).2 e)⟩
  timers := fun i => (h.timers i).trans (k.timers i)
  lanes := fun l => (h.lanes l).trans (k.lanes l)
  formed := fun p => (k.formed p).trans (h.formed p)
  enables := k.enables.trans h.enables
  log := h.log.trans k.log
  latched := fun n hn hs => k.latched n hn (h.latched n hn hs)

/-! ### Events and faults -/

theorem setBit_get (x : BitVec 51) (n m : Nat) (h : x.getLsbD m = true) : (setBit x n).getLsbD m = true := by
  simp [setBit, h]

theorem clearBit_get (x : BitVec 51) (n m : Nat) (h : x.getLsbD m = true) (hm : m ≠ n) :
    (clearBit x n).getLsbD m = true := by
  have hlt : m < 51 := by
    by_contra hc
    rw [BitVec.getLsbD_of_ge _ _ (by omega)] at h; cases h
  simp [clearBit, h, hlt]
  omega

theorem raiseIn_enables (e : EventUnit) (n : Nat) : (raiseIn e n).enables = e.enables := by
  unfold raiseIn; split <;> rfl

theorem raiseIn_get (e : EventUnit) (n m : Nat) (h : e.flags.getLsbD m = true) :
    (raiseIn e n).flags.getLsbD m = true := by
  unfold raiseIn; split
  · exact h
  · exact setBit_get _ _ _ h

/-- A raised flag is raised. -/
theorem raiseIn_self (e : EventUnit) (n : Nat) (hn : n < 51) : (raiseIn e n).flags.getLsbD n = true := by
  unfold raiseIn; split
  · assumption
  · simp [setBit, hn]

/-- A change of the event unit alone that raises or lowers as the rules allow is kept. -/
theorem kept_ev (s : State) (e : EventUnit) (he : e.enables = s.ev.enables)
    (hf : ∀ n, conditionEvents.getLsbD n = false → s.ev.flags.getLsbD n = true → e.flags.getLsbD n = true) :
    Kept s { s with ev := e } where
  time := rfl
  links := rfl
  straps := rfl
  smap := rfl
  co := rfl
  ci := rfl
  pending := rfl
  mgmtId := rfl
  mgmtAddr := rfl
  mgmtNotices := rfl
  reserved := rfl
  cells := rfl
  inflight := rfl
  pointer := rfl
  high := rfl
  low := rfl
  stats := rfl
  feed := fun _ _ => rfl
  portCo := ⟨[], by simp [State.port]⟩
  monitors := fun _ => ⟨rfl, id⟩
  timers := fun _ => .refl _
  lanes := fun _ => .refl _
  formed := fun _ => rfl
  enables := he
  log := .refl _
  latched := hf

theorem kept_raise (n : Nat) (s : State) : Kept s (raise n s) :=
  kept_ev s _ (raiseIn_enables _ _) (fun _ _ h => raiseIn_get _ _ _ h)

theorem kept_setCondition (n : Nat) (b : Bool) (s : State) (hn : conditionEvents.getLsbD n = true) :
    Kept s (setCondition n b s) := by
  unfold setCondition
  cases b
  · refine kept_ev s _ rfl (fun m hm h => clearBit_get _ _ _ h ?_)
    rintro rfl; rw [hn] at hm; cases hm
  · exact kept_ev s _ (raiseIn_enables _ _) (fun _ _ h => raiseIn_get _ _ _ h)

/-- A change of the fault log alone that leaves its records and its overflow flag is kept. -/
theorem kept_log (s : State) (x : FaultLog) (h : LogKept s.log x) : Kept s { s with log := x } :=
  { Kept.refl s with log := h, latched := fun _ _ h => h }

theorem collapse_stamp (source reason now : Nat) (l : List FaultRecord) :
    (collapse source reason now l).map FaultRecord.stamp = l.map FaultRecord.stamp := by
  induction l with
  | nil => rfl
  | cons r l ih =>
    unfold collapse
    split
    · rfl
    · rw [List.map_cons, List.map_cons, ih]

/-- A change of the work list alone is kept. -/
theorem kept_work (s : State) (x : List Work) : Kept s { s with work := x } :=
  { Kept.refl s with latched := fun _ _ h => h }

theorem kept_report (source : Nat) (reason : FaultReason) (info : Nat) (s : State) :
    Kept s (report source reason info s) := by
  unfold report
  split
  · exact kept_log s _ ⟨by rw [collapse_stamp], id⟩
  · split
    · refine .trans ?_ (kept_raise _ _)
      exact kept_log s ⟨s.log.records ++ [⟨source, reason.code, info, 1, s.time, s.time⟩], s.log.overflow⟩ ⟨by simp, id⟩
    · exact .trans (kept_log s ⟨s.log.records, true⟩ ⟨List.prefix_refl _, fun _ => rfl⟩)
        (kept_setCondition _ _ _ (by decide))

theorem kept_addWork (s : State) (ws : List Work) : Kept s (s.addWork ws) := kept_work _ _

/-! ### Timers -/

theorem kept_setTimer (s : State) (t : TimerId) (c : Timer) (h : TimerKept (s.timer t) c) : Kept s (s.setTimer t c) :=
  { Kept.refl s with
    timers := fun i => by
      by_cases e : i = t
      · subst e; simpa using h
      · rw [timer_setTimer_ne _ _ _ _ e]; exact .refl _
    latched := fun _ _ h => h }

theorem kept_expire (t : TimerId) (s : State) : Kept s (expire t s) := (kept_raise _ s).trans (kept_addWork _ _)

theorem kept_followSpan (s : State) (t : TimerId) : Kept s (followSpan s t) := by
  unfold followSpan
  simp only
  split
  · rename_i h
    have hk : ∀ c : Timer, c.setting = (s.timer t).setting → c.run = (s.timer t).run → TimerKept (s.timer t) c :=
      fun c h1 h2 => ⟨h1, fun e => absurd (h.1.symm.trans e) (by decide), fun e => absurd (h.2.symm.trans e) (by decide),
        fun e => h2.trans e⟩
    split
    · exact kept_setTimer _ _ _ (hk _ rfl rfl)
    · split
      · split
        · refine Kept.trans ?_ (kept_expire t _)
          exact kept_setTimer s t _ (hk _ rfl rfl)
        · exact kept_setTimer s t _ (hk _ rfl rfl)
      · exact .refl _
  · exact .refl _

/-- Kept steps compose over a list. -/
theorem kept_foldl {α : Type} (f : State → α → State) (h : ∀ s a, Kept s (f s a)) (l : List α) (s : State) :
    Kept s (l.foldl f s) := by
  induction l generalizing s with
  | nil => exact .refl _
  | cons a l ih => exact (h s a).trans (ih _)

theorem kept_followEvents (s : State) : Kept s (followEvents s) := by
  unfold followEvents
  simp only
  refine (kept_setCondition 1 _ s (by decide)).trans ((kept_foldl _ ?_ _ _).trans
    ((kept_setCondition _ _ _ (by decide)).trans (kept_setCondition _ _ _ (by decide))))
  intro s l
  refine kept_setCondition _ _ _ ?_
  revert l; decide

theorem kept_follow (s : State) : Kept s (follow s) :=
  (kept_followEvents s).trans (kept_foldl _ kept_followSpan _ _)

theorem kept_occurAt (src : Source) (s : State) (t : TimerId) : Kept s (occurAt src s t) := by
  unfold occurAt
  simp only
  split
  · split
    · rename_i hm hr
      have hk : ∀ n, TimerKept (s.timer t) { s.timer t with counter := n } := fun n =>
        ⟨rfl, fun e => absurd (hr.symm.trans e) (by decide), fun e => absurd (hm.symm.trans e) (by decide), id⟩
      split
      · exact kept_setTimer s t _ (hk _)
      · exact Kept.trans (kept_setTimer s t _ (hk _)) (kept_expire t _)
    · rename_i hm hr
      exact kept_setTimer _ _ _ ⟨rfl, fun e => absurd (hr.symm.trans e) (by decide),
        fun e => absurd (hm.symm.trans e) (by decide), fun _ => rfl⟩
    · rename_i hm hr
      exact kept_setTimer _ _ _ ⟨rfl, fun e => absurd (hr.symm.trans e) (by decide),
        fun e => absurd (hm.symm.trans e) (by decide), fun _ => rfl⟩
    · exact .refl _
  · exact .refl _

theorem kept_armMonitor (i : MonitorId) (s : State) : Kept s (armMonitor i s) :=
  { Kept.refl s with
    monitors := fun m => by
      unfold armMonitor
      by_cases e : m = i
      · subst e; simp
      · rw [monitor_setMonitor_ne _ _ _ _ e]; exact ⟨rfl, id⟩
    latched := fun _ _ h => h }

/-! ### RESEARCH (R40) -/

theorem kept_setLane (s : State) (l : LaneId) (c : Lane) (h : LaneKept (s.lane l) c) : Kept s (s.setLane l c) :=
  { Kept.refl s with
    lanes := fun i => by
      by_cases e : i = l
      · subst e; simpa using h
      · rw [lane_setLane_ne _ _ _ _ e]; exact .refl _
    latched := fun _ _ h => h }

theorem kept_modLane (s : State) (l : LaneId) (f : Lane → Lane) (h : LaneKept (s.lane l) (f (s.lane l))) :
    Kept s (s.modLane l f) := kept_setLane s l _ h

theorem kept_modPair (s : State) (p : PairId) (f : Pair → Pair) (h : (f (s.pairAt p)).formed = (s.pairAt p).formed) :
    Kept s (s.modPair p f) :=
  { Kept.refl s with
    formed := fun i => by
      by_cases e : i = p
      · subst e; simpa using h
      · rw [pairAt_modPair_ne _ _ _ _ e]
    latched := fun _ _ h => h }

theorem kept_judgeCongestion (s : State) : Kept s (judgeCongestion s) := by
  unfold judgeCongestion
  refine Kept.trans (t := { s with dec := { s.dec with congested := congestedAfter s.dec (readyTotal s) } }) ?_
    (kept_setCondition _ _ _ (by decide))
  exact { Kept.refl s with latched := fun _ _ h => h }

theorem kept_countDropped (p : LaneId) (n : Nat) (s : State) : Kept s (countDropped p n s) :=
  (kept_modLane s p _ ⟨rfl, rfl, rfl, .inl rfl, fun _ => rfl⟩).trans (kept_addWork _ _)

theorem kept_emptyReady (p : LaneId) (counted : Bool) (s : State) : Kept s (emptyReady p counted s) := by
  unfold emptyReady
  simp only
  refine (kept_modLane s p (fun c => { c with ready := [] }) ⟨rfl, rfl, rfl, .inl rfl, fun _ => rfl⟩).trans ?_
  split
  · exact (kept_countDropped _ _ _).trans (kept_judgeCongestion _)
  · exact kept_judgeCongestion _

theorem kept_discardWaiting (p : LaneId) (s : State) : Kept s (discardWaiting p s) := by
  unfold discardWaiting
  split
  · exact kept_modPair _ _ _ rfl
  · split
    · exact kept_modPair _ _ _ rfl
    · exact .refl _

theorem kept_abandonGroup (p : LaneId) (s : State) : Kept s (abandonGroup p s) :=
  (kept_modLane s p (fun c => { c with group := none }) ⟨rfl, rfl, rfl, .inl rfl, fun _ => rfl⟩).trans
    (kept_discardWaiting _ _)

theorem kept_releasePath (p : LaneId) (counted : Bool) (s : State) : Kept s (releasePath p counted s) := by
  unfold releasePath
  simp only
  refine Kept.trans (t := { s with pool := s.pool.release p }) ?_
    ((kept_abandonGroup _ _).trans (kept_emptyReady _ _ _))
  exact { Kept.refl s with latched := fun _ _ h => h }

theorem kept_dropRef (l : LaneId) (s : State) : Kept s (dropRef l s) := by
  unfold dropRef
  split
  · exact kept_modPair _ _ _ rfl
  · exact .refl _

theorem kept_departPath (l : LaneId) (s : State) : Kept s (departPath l s) := by
  unfold departPath
  split
  · split
    · exact (kept_abandonGroup _ _).trans (kept_dropRef _ _)
    · exact .refl _
  · exact (kept_releasePath _ _ _).trans (kept_dropRef _ _)

theorem laneState_modLane (s : State) (q l : LaneId) (f : Lane → Lane) (hf : ∀ c, (f c).state = c.state) :
    ((s.modLane q f).lane l).state = (s.lane l).state := by
  by_cases hq : l = q
  · subst hq; simp [hf]
  · rw [lane_modLane_ne _ _ _ _ hq]

@[simp] theorem lane_discardWaiting (p l : LaneId) (s : State) : (discardWaiting p s).lane l = s.lane l := by
  unfold discardWaiting
  split
  · rfl
  · split <;> rfl

theorem laneState_abandonGroup (p l : LaneId) (s : State) : ((abandonGroup p s).lane l).state = (s.lane l).state := by
  unfold abandonGroup
  rw [lane_discardWaiting]
  exact laneState_modLane s p l (fun c => { c with group := none }) (fun _ => rfl)

theorem laneState_emptyReady (p l : LaneId) (b : Bool) (s : State) :
    ((emptyReady p b s).lane l).state = (s.lane l).state := by
  have hj : ∀ x : State, ((judgeCongestion x).lane l).state = (x.lane l).state := fun _ => rfl
  unfold emptyReady
  simp only
  rw [hj]
  split
  · unfold countDropped
    rw [lane_addWork]
    refine Eq.trans (laneState_modLane _ p l _ ?_) (laneState_modLane s p l _ ?_) <;> exact fun _ => rfl
  · exact laneState_modLane s p l (fun c => { c with ready := [] }) (fun _ => rfl)

theorem laneState_dropRef (k l : LaneId) (s : State) : ((dropRef k s).lane l).state = (s.lane l).state := by
  unfold dropRef
  split <;> rfl

theorem laneState_departPath (k l : LaneId) (s : State) : ((departPath k s).lane l).state = (s.lane l).state := by
  unfold departPath
  split
  · split
    · rw [laneState_dropRef, laneState_abandonGroup]
    · rfl
  · rw [laneState_dropRef]
    unfold releasePath
    simp only
    rw [laneState_emptyReady, laneState_abandonGroup]
    rfl

theorem kept_research (l : LaneId) (s : State) : Kept s (research l s) := by
  unfold research
  split
  · rename_i h
    have h' : (s.lane l).state = .lock ∨ (s.lane l).state = .fade := by simpa [inLockOrFade] using h
    unfold releaseToSearch
    simp only
    refine (((kept_departPath l s).trans (kept_raise (evReleased l) _)).trans ?_).trans (kept_follow _)
    have hst : ((raise (evReleased l) (departPath l s)).lane l).state = (s.lane l).state := by
      rw [lane_raise]; exact laneState_departPath l l s
    refine kept_modLane _ _ _ ⟨rfl, rfl, rfl, .inr ⟨by rw [hst]; exact h', rfl⟩, fun e => ?_⟩
    rw [hst] at e
    rw [← e] at h'
    rcases h' with h' | h' <;> cases h'
  · exact .refl _

/-! ### Handing on, notices, and the whole -/

theorem kept_performAction (t : TimerId) (s : State) : Kept s (performAction t s) := by
  unfold performAction
  simp only
  split
  · split
    · exact kept_research _ _
    · exact .refl _
  · split
    · exact kept_armMonitor _ _
    · exact .refl _
  · exact .refl _

theorem kept_deliver (s : State) (w : Work) : Kept s (deliver s w) := by
  unfold deliver
  split
  · exact kept_foldl _ (kept_occurAt _) _ _
  · exact kept_performAction _ _

theorem kept_followPair (s : State) (p : PairId) : Kept s (followPair s p) := by
  unfold followPair setPairState
  split
  · split
    · exact .refl _
    · exact (kept_modPair _ _ _ rfl).trans (kept_raise _ _)
  · exact .refl _

theorem kept_followAll (s : State) : Kept s (followAll s) :=
  ((kept_followPair s 0).trans (kept_followPair _ 1)).trans (kept_follow _)

theorem kept_handOn (s : State) : Kept s (handOn s) :=
  (kept_work s []).trans (kept_foldl _ kept_deliver _ _)

/-- A change of CO that only appends to class 0 or counts its drops. -/
theorem kept_setCo (s : State) (own : List Queued) (d : Nat) :
    Kept s (s.setPort portCO { s.port portCO with q0 := (s.port portCO).q0 ++ own, drop0 := d }) :=
  { Kept.refl s with
    feed := fun p hp => by rw [port_setPort_ne _ _ _ _ hp]
    portCo := ⟨own, by simp⟩
    latched := fun _ _ h => h }

/-- A packet for class 0 of CO (R138): taken or dropped. -/
theorem kept_portArrive_co (restamp own : Bool) (pkt : Packet) (s : State) :
    Kept s (portArrive portCO 0 restamp own pkt s) := by
  unfold portArrive
  simp only
  split
  · exact kept_setCo s _ _
  · unfold queueDrop
    simp only
    have k : Kept s ((raise (evPortDrop portCO) (s.modPort portCO (·.countDrop 0))).addWork
        [.occ (.portDrop portCO)]) := by
      refine Kept.trans ?_ ((kept_raise _ _).trans (kept_addWork _ _))
      have := kept_setCo s [] (wrap32 ((s.port portCO).drop0 + 1))
      simpa [State.modPort, Port.countDrop] using this
    split
    · exact k.trans (kept_report _ _ _ _)
    · exact k.trans (kept_report _ _ _ _)

theorem kept_placeOwn (kind tag code status reason : Nat) (params : List Byte) (s : State) :
    Kept s (placeOwn kind tag code status reason params s) := by
  unfold placeOwn
  split
  · exact .refl _
  · refine Kept.trans (t := { s with mgmt := { s.mgmt with cc := (s.mgmt.cc + 1) % 16 } }) ?_
      (kept_portArrive_co _ _ _ _)
    exact { Kept.refl s with latched := fun _ _ h => h }

theorem kept_buildNotice (s : State) : Kept s (buildNotice s) := by
  unfold buildNotice
  exact (kept_ev s { s.ev with
    pending := 0#51, outstanding := decide ((s.port portCO).q0.length < 8) } rfl (fun _ _ h => h)).trans
    (kept_placeOwn _ _ _ _ _ _ _)

theorem kept_settle (n : Nat) (s : State) : Kept s (settle n s) := by
  induction n generalizing s with
  | zero => exact .refl _
  | succ n ih =>
    unfold settle
    simp only
    split
    · exact ((kept_followAll s).trans (kept_handOn _)).trans (ih _)
    · split
      · exact ((kept_followAll s).trans (kept_buildNotice _)).trans (ih _)
      · exact kept_followAll s

/-- Everything the rest of an event leaves as it was (R167, R172, R198, R200). -/
theorem afterEvent_kept (s : State) : Kept s (afterEvent s) := kept_settle _ s

/-- A reply leaves what the rest of an event leaves. -/
theorem kept_sendReply (tag code : Nat) (r : Reply) (s : State) : Kept s (sendReply tag code r s) :=
  kept_placeOwn _ _ _ _ _ _ _

theorem kept_forward (pkt : Packet) (s : State) : Kept s (forward pkt s) := kept_portArrive_co _ _ _ _

theorem kept_relayFirst (h : ReqHdr) (s : State) : Kept s (relayFirst h s) := by
  unfold relayFirst
  split
  · exact .refl _
  · exact kept_forward _ _

/-- One round of the rest of an event (log 11). -/
theorem settle_succ (n : Nat) (s : State) : settle (n + 1) s =
    if (followAll s).work ≠ [] then settle n (handOn (followAll s))
    else if noticeDue (followAll s) = true then settle n (buildNotice (followAll s)) else followAll s := rfl

/-- A quiet state has no rest of an event. -/
theorem settle_quiet (n : Nat) (s : State) (h1 : followAll s = s) (h2 : s.work = []) (h3 : noticeDue s = false) :
    settle n s = s := by
  cases n with
  | zero => rfl
  | succ n => simp [settle, h1, h2, h3]

end Sys2Proof.Machine
end

