-- ==== Sys2Proof/Laws/Idle.lean ====
section
/-! SUPPORT. The rest of an event while every timer is STOPPED: only the pair states, the event unit, the fault log and
class 0 of CO can still change (R200, R203). -/

namespace Sys2Proof.Machine

theorem KeptIdle.refl (s : State) : KeptIdle s s := ⟨.refl s, rfl, rfl, rfl, rfl, rfl, fun _ => rfl, id⟩

theorem KeptIdle.trans {s t u : State} (h : KeptIdle s t) (k : KeptIdle t u) : KeptIdle s u where
  kept := h.kept.trans k.kept
  lanes := k.lanes.trans h.lanes
  pool := k.pool.trans h.pool
  dec := k.dec.trans h.dec
  timers := k.timers.trans h.timers
  monitors := k.monitors.trans h.monitors
  pairs := fun p => by rw [k.pairs p, h.pairs p]
  work := fun e => k.work (h.work e)

theorem KeptIdle.idle {s t : State} (h : KeptIdle s t) (e : timersIdle s = true) : timersIdle t = true := by
  unfold timersIdle State.timer at *
  rw [h.timers]
  exact e

theorem stopped_of_idle {s : State} (e : timersIdle s = true) (t : TimerId) : (s.timer t).run = .stopped := by
  have h : ∀ x ∈ allTimers, decide ((s.timer x).run = .stopped) = true := List.all_eq_true.mp e
  have ht : t ∈ allTimers := by revert t; decide
  simpa using h t ht

theorem idle_raise (n : Nat) (s : State) : KeptIdle s (raise n s) :=
  { KeptIdle.refl s with kept := kept_raise n s, pairs := fun _ => rfl, work := id }

theorem idle_setCondition (n : Nat) (b : Bool) (s : State) (hn : conditionEvents.getLsbD n = true) :
    KeptIdle s (setCondition n b s) :=
  { KeptIdle.refl s with kept := kept_setCondition n b s hn, pairs := fun _ => rfl, work := id }

theorem idle_log (s : State) (x : FaultLog) (h : LogKept s.log x) : KeptIdle s { s with log := x } :=
  { KeptIdle.refl s with kept := kept_log s x h, pairs := fun _ => rfl, work := id }

theorem idle_report (source : Nat) (reason : FaultReason) (info : Nat) (s : State) :
    KeptIdle s (report source reason info s) := by
  unfold report
  split
  · exact idle_log s _ ⟨by rw [collapse_stamp], id⟩
  · split
    · refine .trans ?_ (idle_raise _ _)
      exact idle_log s ⟨s.log.records ++ [⟨source, reason.code, info, 1, s.time, s.time⟩], s.log.overflow⟩ ⟨by simp, id⟩
    · exact .trans (idle_log s ⟨s.log.records, true⟩ ⟨List.prefix_refl _, fun _ => rfl⟩)
        (idle_setCondition _ _ _ (by decide))

theorem idle_occ (s : State) (ws : List Work) (h : onlyOccurrences ws = true) : KeptIdle s (s.addWork ws) :=
  { KeptIdle.refl s with
    kept := kept_addWork s ws, pairs := fun _ => rfl
    work := fun e => by
      simp only [State.addWork, onlyOccurrences, List.all_append, Bool.and_eq_true] at *
      exact ⟨e, h⟩ }

theorem idle_foldl {α : Type} (f : State → α → State) (h : ∀ s a, timersIdle s = true → KeptIdle s (f s a)) (l : List α)
    (s : State) (e : timersIdle s = true) : KeptIdle s (l.foldl f s) := by
  induction l generalizing s with
  | nil => exact .refl _
  | cons a l ih => exact (h s a e).trans (ih _ ((h s a e).idle e))

theorem idle_followAll (s : State) (e : timersIdle s = true) : KeptIdle s (followAll s) := by
  have hp : ∀ (x : State) (p : PairId), KeptIdle x (followPair x p) := by
    intro x p
    unfold followPair setPairState
    split
    · split
      · exact .refl _
      · refine KeptIdle.trans ?_ (idle_raise _ _)
        exact { KeptIdle.refl x with
          kept := kept_modPair x p (fun y => { y with pstate := .none }) rfl
          pairs := fun q => by
            by_cases hq : q = p
            · subst hq; simp
            · rw [pairAt_modPair_ne _ _ _ _ hq]
          work := id }
    · exact .refl _
  have h1 := (hp s 0).trans (hp _ 1)
  have h2 : ∀ x : State, KeptIdle x (followEvents x) := by
    intro x
    have hc : ∀ (n : Nat) (b : Bool) (y : State), conditionEvents.getLsbD n = true →
        KeptIdle y (setCondition n b y) := idle_setCondition
    unfold followEvents
    simp only
    have hl : ∀ (l : List LaneId) (y : State),
        KeptIdle y (l.foldl (fun s l => setCondition (evGradeLow l) (gradeLow s l) s) y) := by
      intro l
      induction l with
      | nil => exact fun y => .refl y
      | cons a l ih => exact fun y => (hc (evGradeLow a) (gradeLow y a) y (by revert a; decide)).trans (ih _)
    refine (hc 1 x.log.overflow x (by decide)).trans ((hl allLanes _).trans ?_)
    exact (hc evCongested _ _ (by decide)).trans (hc evCiHolding _ _ (by decide))
  have h3 := h1.trans (h2 _)
  refine h3.trans (idle_foldl _ ?_ _ _ (h3.idle e))
  intro x t ex
  unfold followSpan
  simp [stopped_of_idle ex t, KeptIdle.refl]

theorem idle_deliver_occ (src : Source) (s : State) (e : timersIdle s = true) : KeptIdle s (deliver s (.occ src)) := by
  refine idle_foldl _ ?_ _ _ e
  intro x t ex
  unfold occurAt
  simp only [stopped_of_idle ex t]
  split
  · split <;> rename_i h1 h2 <;> first | cases h2 | exact .refl _
  · exact .refl _

theorem idle_handOn (s : State) (e : timersIdle s = true) (w : onlyOccurrences s.work = true) :
    KeptIdle s (handOn s) ∧ onlyOccurrences (handOn s).work = true := by
  have h0 : KeptIdle s { s with work := [] } :=
    { KeptIdle.refl s with kept := kept_work s [], pairs := fun _ => rfl, work := fun _ => rfl }
  have key : ∀ (l : List Work) (x : State), timersIdle x = true → onlyOccurrences l = true →
      onlyOccurrences x.work = true →
      KeptIdle x (l.foldl deliver x) ∧ onlyOccurrences (l.foldl deliver x).work = true := by
    intro l
    induction l with
    | nil => intro x _ _ hx; exact ⟨.refl _, hx⟩
    | cons a l ih =>
      intro x ex hl hx
      simp only [onlyOccurrences, List.all_cons, Bool.and_eq_true] at hl
      cases a with
      | act t => simp at hl
      | occ src =>
        have k := idle_deliver_occ src x ex
        have r := ih (deliver x (.occ src)) (k.idle ex) hl.2 (k.work hx)
        rw [List.foldl_cons]
        exact ⟨k.trans r.1, r.2⟩
  have r := key s.work { s with work := [] } (h0.idle e) w rfl
  unfold handOn
  exact ⟨h0.trans r.1, r.2⟩

theorem idle_setCo (s : State) (own : List Queued) (d : Nat) :
    KeptIdle s (s.setPort portCO { s.port portCO with q0 := (s.port portCO).q0 ++ own, drop0 := d }) :=
  { KeptIdle.refl s with kept := kept_setCo s own d, pairs := fun _ => rfl, work := id }

theorem idle_portArrive_co (restamp own : Bool) (pkt : Packet) (s : State) :
    KeptIdle s (portArrive portCO 0 restamp own pkt s) := by
  unfold portArrive
  simp only
  split
  · exact idle_setCo s _ _
  · unfold queueDrop
    simp only
    have k : KeptIdle s ((raise (evPortDrop portCO) (s.modPort portCO (·.countDrop 0))).addWork
        [.occ (.portDrop portCO)]) := by
      refine KeptIdle.trans ?_ ((idle_raise _ _).trans (idle_occ _ _ rfl))
      have := idle_setCo s [] (wrap32 ((s.port portCO).drop0 + 1))
      simpa [State.modPort, Port.countDrop] using this
    split
    · exact k.trans (idle_report _ _ _ _)
    · exact k.trans (idle_report _ _ _ _)

theorem idle_placeOwn (kind tag code status reason : Nat) (params : List Byte) (s : State) :
    KeptIdle s (placeOwn kind tag code status reason params s) := by
  unfold placeOwn
  split
  · exact .refl _
  · refine KeptIdle.trans (t := { s with mgmt := { s.mgmt with cc := (s.mgmt.cc + 1) % 16 } }) ?_
      (idle_portArrive_co _ _ _ _)
    exact { KeptIdle.refl s with
      kept := { Kept.refl s with latched := fun _ _ h => h }, pairs := fun _ => rfl, work := id }

theorem idle_buildNotice (s : State) : KeptIdle s (buildNotice s) := by
  unfold buildNotice
  refine KeptIdle.trans (t := { s with ev := { s.ev with
    pending := 0#51, outstanding := decide ((s.port portCO).q0.length < 8) } }) ?_ (idle_placeOwn _ _ _ _ _ _ _)
  exact { KeptIdle.refl s with kept := kept_ev s _ rfl (fun _ _ h => h), pairs := fun _ => rfl, work := id }

/-- Everything the rest of an event leaves as it was while every timer is STOPPED. -/
theorem afterEvent_idle (s : State) (e : timersIdle s = true) (w : onlyOccurrences s.work = true) :
    KeptIdle s (afterEvent s) := by
  have key : ∀ (n : Nat) (x : State), timersIdle x = true → onlyOccurrences x.work = true →
      KeptIdle x (settle n x) := by
    intro n
    induction n with
    | zero => intro x _ _; exact .refl _
    | succ n ih =>
      intro x ex wx
      have k := idle_followAll x ex
      have ek := k.idle ex
      have wk := k.work wx
      unfold settle
      simp only
      split
      · have h := idle_handOn (followAll x) ek wk
        exact (k.trans h.1).trans (ih _ (h.1.idle ek) h.2)
      · split
        · have h := idle_buildNotice (followAll x)
          exact (k.trans h).trans (ih _ (h.idle ek) (h.work wk))
        · exact k
  exact key _ s e w

end Sys2Proof.Machine
end

