-- ==== Sys2Proof/Laws/Answer.lean ====
section
/-! SUPPORT. How a request is answered: `answered` says once everything that placing the reply and the rest of the event
leave (R189, R192), and `happened` the same of an event without a reply. -/

namespace Sys2Proof.Machine

/-- A change that touches neither the ports nor the chain management unit. -/
def OffChain (s t : State) : Prop := t.ports = s.ports ∧ t.mgmt = s.mgmt

theorem OffChain.refl (s : State) : OffChain s s := ⟨rfl, rfl⟩

theorem OffChain.trans {s t u : State} (h : OffChain s t) (k : OffChain t u) : OffChain s u :=
  ⟨k.1.trans h.1, k.2.trans h.2⟩

theorem off_foldl {α : Type} (f : State → α → State) (h : ∀ s a, OffChain s (f s a)) (l : List α) (s : State) :
    OffChain s (l.foldl f s) := by
  induction l generalizing s with
  | nil => exact .refl _
  | cons a l ih => exact (h s a).trans (ih _)

theorem off_raise (n : Nat) (s : State) : OffChain s (raise n s) := ⟨rfl, rfl⟩
theorem off_setCondition (n : Nat) (b : Bool) (s : State) : OffChain s (setCondition n b s) := ⟨rfl, rfl⟩
theorem off_expire (t : TimerId) (s : State) : OffChain s (expire t s) := ⟨rfl, rfl⟩

theorem off_followSpan (s : State) (t : TimerId) : OffChain s (followSpan s t) := by
  unfold followSpan
  simp only
  repeat' split
  all_goals exact ⟨rfl, rfl⟩

theorem off_follow (s : State) : OffChain s (follow s) := by
  unfold follow followEvents
  refine OffChain.trans ?_ (off_foldl _ off_followSpan _ _)
  exact (off_setCondition _ _ _).trans ((off_foldl _ (fun s l => off_setCondition _ _ s) _ _).trans
    ((off_setCondition _ _ _).trans (off_setCondition _ _ _)))

theorem off_followPair (s : State) (p : PairId) : OffChain s (followPair s p) := by
  unfold followPair setPairState
  repeat' split
  all_goals exact ⟨rfl, rfl⟩

theorem off_followAll (s : State) : OffChain s (followAll s) :=
  ((off_followPair s 0).trans (off_followPair _ 1)).trans (off_follow _)

theorem off_occurAt (src : Source) (s : State) (t : TimerId) : OffChain s (occurAt src s t) := by
  unfold occurAt
  simp only
  repeat' split
  all_goals exact ⟨rfl, rfl⟩

theorem off_abandonGroup (p : LaneId) (s : State) : OffChain s (abandonGroup p s) := by
  unfold abandonGroup discardWaiting
  repeat' split
  all_goals exact ⟨rfl, rfl⟩

theorem off_emptyReady (p : LaneId) (b : Bool) (s : State) : OffChain s (emptyReady p b s) := by
  unfold emptyReady countDropped judgeCongestion
  simp only
  split <;> exact ⟨rfl, rfl⟩

theorem off_releasePath (p : LaneId) (b : Bool) (s : State) : OffChain s (releasePath p b s) := by
  unfold releasePath
  exact (off_abandonGroup p { s with pool := s.pool.release p }).trans (off_emptyReady _ _ _)

theorem off_dropRef (l : LaneId) (s : State) : OffChain s (dropRef l s) := by
  unfold dropRef
  split <;> exact ⟨rfl, rfl⟩

theorem off_departPath (l : LaneId) (s : State) : OffChain s (departPath l s) := by
  unfold departPath
  split
  · split
    · exact (off_abandonGroup _ _).trans (off_dropRef _ _)
    · exact .refl _
  · exact (off_releasePath _ _ _).trans (off_dropRef _ _)

theorem off_research (l : LaneId) (s : State) : OffChain s (research l s) := by
  unfold research
  split
  · unfold releaseToSearch
    refine OffChain.trans ?_ (off_follow _)
    exact ((off_departPath l s).trans (off_raise (evReleased l) _)).trans ⟨rfl, rfl⟩
  · exact .refl _

theorem off_performAction (t : TimerId) (s : State) : OffChain s (performAction t s) := by
  unfold performAction
  simp only
  repeat' split
  all_goals first | exact off_research _ _ | exact ⟨rfl, rfl⟩

theorem off_deliver (s : State) (w : Work) : OffChain s (deliver s w) := by
  unfold deliver
  split
  · exact off_foldl _ (off_occurAt _) _ _
  · exact off_performAction _ _

theorem off_handOn (s : State) : OffChain s (handOn s) :=
  OffChain.trans (t := { s with work := [] }) ⟨rfl, rfl⟩ (off_foldl _ off_deliver _ _)

/-- At a part whose address is 31 the rest of an event places nothing (R192). -/
theorem off_settle (n : Nat) (s : State) (h : s.mgmt.addr = 31) : OffChain s (settle n s) := by
  induction n generalizing s with
  | zero => exact .refl _
  | succ n ih =>
    have k := off_followAll s
    have hk : (followAll s).mgmt.addr = 31 := by rw [k.2]; exact h
    unfold settle
    simp only
    split
    · have m := k.trans (off_handOn (followAll s))
      exact m.trans (ih _ (by rw [m.2]; exact h))
    · split
      · rename_i hd
        simp [noticeDue, hk] at hd
      · exact k

/-- A packet of class 0 that finds room joins its class (R138). -/
theorem portArrive_room (p : PortId) (restamp own : Bool) (pkt : Packet) (s : State) (h : (s.port p).q0.length < 8) :
    portArrive p 0 restamp own pkt s =
      s.setPort p { s.port p with q0 := (s.port p).q0 ++ [⟨pkt, 0, restamp, own, s.time⟩] } := by
  simp only [portArrive, if_pos h]

/-- Where nothing is left to do, the rest of an event does nothing (R200). -/
theorem afterEvent_quiet (a : State) (h : quiet a = true) : afterEvent a = a := by
  simp only [quiet, Bool.and_eq_true, decide_eq_true_eq, Bool.not_eq_true'] at h
  exact settle_quiet roundLimit a h.1.1 h.1.2 h.2

/-- What an event leaves whose main effects give `a`. -/
theorem happened (a : State) : Happened a (afterEvent a) := ⟨afterEvent_kept a, afterEvent_idle a, rfl, afterEvent_quiet a⟩

/-- `Happened` holds of one state only. -/
theorem happened_iff (a t : State) : Happened a t ↔ t = afterEvent a := ⟨(·.rest), fun h => h ▸ happened a⟩

theorem idle_sendReply (tag code : Nat) (r : Reply) (s : State) : KeptIdle s (sendReply tag code r s) :=
  idle_placeOwn _ _ _ _ _ _ _

/-- What a request leaves whose effects give `a` and whose reply is `r` (R189, R192). -/
theorem answered (tag code : Nat) (r : Reply) (a : State) :
    Answered tag code r a (afterEvent (sendReply tag code r a)) where
  kept := (kept_sendReply tag code r a).trans (afterEvent_kept _)
  idle := fun e w =>
    have k := idle_sendReply tag code r a
    k.trans (afterEvent_idle _ (k.idle e) (k.work w))
  sent := happened _
  reply := fun ha hq => by
    obtain ⟨own, h⟩ := (afterEvent_kept (sendReply tag code r a)).portCo
    refine ⟨own, ?_⟩
    have hs : ((sendReply tag code r a).port portCO).q0 =
        (a.port portCO).q0 ++ [⟨replyPacket a tag code r, 0, false, true, a.time⟩] := by
      unfold sendReply placeOwn
      rw [if_neg ha]
      simp only
      rw [portArrive_room _ _ _ _ { a with mgmt := { a.mgmt with cc := (a.mgmt.cc + 1) % 16 } } hq]
      simp [replyPacket]
      rfl
    rw [h]
    simp [hs]
  silent := fun ha => by
    have hs : sendReply tag code r a = a := by simp [sendReply, placeOwn, ha]
    rw [hs]
    have k := off_settle roundLimit a ha
    exact ⟨by unfold State.port afterEvent; rw [k.1], by unfold afterEvent; rw [k.2]⟩

end Sys2Proof.Machine
end

