-- ==== Sys2Proof/Laws/Memory.lean ====
section
/-! SUPPORT. The page contents: a read after a write gives what was written, a write leaves every other place, and every
write keeps the canonical form. -/

namespace Sys2Proof.Machine

theorem risingFrom_mono {lo lo' : Nat} {m : List (Nat × PoolCell)} (h : risingFrom lo m = true) (hl : lo' ≤ lo) :
    risingFrom lo' m = true := by
  cases m with
  | nil => rfl
  | cons e m =>
    simp only [risingFrom, Bool.and_eq_true, decide_eq_true_eq] at *
    exact ⟨Nat.le_trans hl h.1, h.2⟩

/-- Nothing is listed below the bound a rising list starts at. -/
theorem readCell_below {lo : Nat} {m : List (Nat × PoolCell)} (h : risingFrom lo m = true) (a : Nat) (ha : a < lo) :
    readCell m a = unlistedCell := by
  induction m generalizing lo with
  | nil => rfl
  | cons e m ih =>
    obtain ⟨b, c⟩ := e
    simp only [risingFrom, Bool.and_eq_true, decide_eq_true_eq] at h
    have hb : a ≠ b := by omega
    simp only [readCell, hb, if_false]
    exact ih h.2 (by omega)

/-- A read of the address written gives the value written. -/
theorem readCell_writeCell_self {lo : Nat} {m : List (Nat × PoolCell)} (h : risingFrom lo m = true) (a : Nat)
    (v : PoolCell) : readCell (writeCell m a v) a = v := by
  induction m generalizing lo with
  | nil =>
    unfold writeCell
    split
    · simp [readCell, *]
    · simp [readCell]
  | cons e m ih =>
    obtain ⟨b, c⟩ := e
    simp only [risingFrom, Bool.and_eq_true, decide_eq_true_eq] at h
    unfold writeCell
    split
    · rename_i hab
      split
      · rename_i hv
        rw [hv]
        exact readCell_below (lo := b) (by simp [risingFrom, h.2]) a hab
      · simp [readCell]
    · split
      · rename_i hab
        split
        · rename_i hv
          rw [hv]
          exact readCell_below h.2 a (by omega)
        · simp [readCell]
      · rename_i h1 h2
        simp only [readCell, h2, if_false]
        exact ih h.2

/-- A write leaves every other address. -/
theorem readCell_writeCell_ne (m : List (Nat × PoolCell)) (a b : Nat) (v : PoolCell) (hab : b ≠ a) :
    readCell (writeCell m a v) b = readCell m b := by
  induction m with
  | nil =>
    unfold writeCell
    split <;> simp [readCell, hab]
  | cons e m ih =>
    obtain ⟨k, c⟩ := e
    unfold writeCell
    split
    · split <;> simp [readCell, hab]
    · split
      · rename_i hk
        split <;> simp [readCell, ← hk, hab]
      · simp [readCell, ih]

theorem risingFrom_writeCell {lo : Nat} {m : List (Nat × PoolCell)} (h : risingFrom lo m = true) (a : Nat) (v : PoolCell)
    (ha : lo ≤ a) : risingFrom lo (writeCell m a v) = true := by
  induction m generalizing lo with
  | nil =>
    unfold writeCell
    split <;> simp [risingFrom, ha]
  | cons e m ih =>
    obtain ⟨b, c⟩ := e
    have h' := h
    simp only [risingFrom, Bool.and_eq_true, decide_eq_true_eq] at h
    unfold writeCell
    split
    · rename_i hab
      split
      · exact h'
      · simp only [risingFrom, Bool.and_eq_true, decide_eq_true_eq]
        exact ⟨ha, by omega, h.2⟩
    · split
      · rename_i hab
        split
        · exact risingFrom_mono h.2 (by omega)
        · simp only [risingFrom, Bool.and_eq_true, decide_eq_true_eq]
          exact ⟨ha, hab ▸ h.2⟩
      · simp only [risingFrom, Bool.and_eq_true, decide_eq_true_eq]
        exact ⟨h.1, ih h.2 (by omega)⟩

theorem all_writeCell (m : List (Nat × PoolCell)) (a : Nat) (v : PoolCell)
    (h : m.all (fun e => decide (e.2 ≠ unlistedCell)) = true) :
    (writeCell m a v).all (fun e => decide (e.2 ≠ unlistedCell)) = true := by
  induction m with
  | nil =>
    unfold writeCell
    split <;> simp [*]
  | cons e m ih =>
    obtain ⟨b, c⟩ := e
    have h' := h
    simp only [List.all_cons, Bool.and_eq_true] at h
    unfold writeCell
    split
    · split
      · exact h'
      · simp only [List.all_cons, Bool.and_eq_true]
        exact ⟨by simpa using ‹¬v = unlistedCell›, h.1, h.2⟩
    · split
      · split
        · exact h.2
        · simp only [List.all_cons, Bool.and_eq_true]
          exact ⟨by simpa using ‹¬v = unlistedCell›, h.2⟩
      · simp only [List.all_cons, Bool.and_eq_true]
        exact ⟨h.1, ih h.2⟩

/-- A write keeps the canonical form. -/
theorem cellsWf_writeCell (m : List (Nat × PoolCell)) (a : Nat) (v : PoolCell) (h : cellsWf m = true) :
    cellsWf (writeCell m a v) = true := by
  simp only [cellsWf, Bool.and_eq_true] at *
  exact ⟨risingFrom_writeCell h.1 a v (Nat.zero_le _), all_writeCell m a v h.2⟩

/-- A write at a lane's page and place keeps the canonical form (R91). -/
theorem cellsWf_writeAt (p : Pool) (pages : List Nat) (i k : Nat) (v : PoolCell) (h : cellsWf p.cells = true) :
    cellsWf (p.writeAt pages i k v).cells = true := by
  unfold Pool.writeAt
  split
  · exact h
  · exact cellsWf_writeCell _ _ _ h

/-- Writing a symbol's cells keeps the canonical form (R91). -/
theorem cellsWf_writeCells (pages : List Nat) (g : PipeParams) (half : Half) (f c : Nat) (vs : List PoolCell) (p : Pool)
    (h : cellsWf p.cells = true) : cellsWf (writeCells pages g half f c vs p).cells = true := by
  induction vs generalizing c p with
  | nil => exact h
  | cons v vs ih => exact ih _ _ (cellsWf_writeAt _ _ _ _ _ h)

/-- A symbol placed on a data path keeps the canonical form (R90). -/
theorem cellsWf_placeCells (p : LaneId) (cells : List PoolCell) (s : State) (h : cellsWf s.pool.cells = true) :
    cellsWf (placeCells p cells s).pool.cells = true := by
  unfold placeCells
  split
  · exact cellsWf_writeCells _ _ _ _ _ _ _ h
  · exact h

/-- The page contents at reset are in canonical form. -/
theorem reset_cellsWf : cellsWf State.reset.pool.cells = true := rfl

end Sys2Proof.Machine
end

