-- ==== Sys2Proof/Laws/Path.lean ====
section
/-! SUPPORT. What the work on a data path can do: writing cells, accounting for groups, combining and completing a pair's
symbols touch a lane's group, ready list and dropped counter, a pair's symbols and counts, and the decoder (R77, R79, R90,
R93, R102). `PathKept` says it once. -/

namespace Sys2Proof.Machine

/-- What work on a data path leaves of a state. -/
structure PathKept (s t : State) : Prop where
  lanes : ∀ j, t.lane j = { s.lane j with
    group := (t.lane j).group, writeHalf := (t.lane j).writeHalf, ready := (t.lane j).ready
    counters := { (s.lane j).counters with dropped := (t.lane j).counters.dropped } }
  pairs : ∀ p, t.pairAt p = { s.pairAt p with
    pstate := (t.pairAt p).pstate, store := (t.pairAt p).store, waiting := (t.pairAt p).waiting
    contrib := (t.pairAt p).contrib, doneFrame := (t.pairAt p).doneFrame }
  pageMap : t.pool.pageMap = s.pool.pageMap
  reserved : t.pool.reserved = s.pool.reserved
  rest : t = { s with
    lanes := t.lanes, pairs := t.pairs, pool := t.pool, dec := t.dec, ev := t.ev, log := t.log, work := t.work }

theorem PathKept.refl (s : State) : PathKept s s := ⟨fun _ => rfl, fun _ => rfl, rfl, rfl, rfl⟩

theorem PathKept.trans {s t u : State} (h : PathKept s t) (k : PathKept t u) : PathKept s u where
  lanes := fun j => by rw [k.lanes j, h.lanes j]
  pairs := fun p => by rw [k.pairs p, h.pairs p]
  pageMap := k.pageMap.trans h.pageMap
  reserved := k.reserved.trans h.reserved
  rest := by rw [k.rest, h.rest]

theorem PathKept.formed {s t : State} (h : PathKept s t) (p : PairId) : (t.pairAt p).formed = (s.pairAt p).formed := by
  rw [h.pairs p]

theorem PathKept.ref {s t : State} (h : PathKept s t) (p : PairId) : (t.pairAt p).ref = (s.pairAt p).ref := by
  rw [h.pairs p]

@[simp] theorem PathKept.paired {s t : State} (h : PathKept s t) (l : LaneId) : paired t l = paired s l := by
  simp only [Machine.paired, h.formed]

theorem PathKept.pathOf {s t : State} (h : PathKept s t) (l : LaneId) : pathOf t l = pathOf s l := by
  simp only [Machine.pathOf, h.paired]

theorem PathKept.drivesPath {s t : State} (h : PathKept s t) (l : LaneId) : drivesPath t l = drivesPath s l := by
  simp only [Machine.drivesPath, h.paired, h.ref]

theorem PathKept.selectId {s t : State} (h : PathKept s t) (l : LaneId) : selectId t l = selectId s l := by
  simp only [Machine.selectId, h.pathOf]
  rw [h.lanes]

/-- A change of one lane that stays within what work on a path may change. -/
theorem path_setLane (s : State) (l : LaneId) (c : Lane) (h : c = { s.lane l with
    group := c.group, writeHalf := c.writeHalf, ready := c.ready
    counters := { (s.lane l).counters with dropped := c.counters.dropped } }) : PathKept s (s.setLane l c) where
  lanes := fun j => by
    by_cases hj : j = l
    · subst hj; rw [lane_setLane_self]; exact h
    · rw [lane_setLane_ne _ _ _ _ hj]
  pairs := fun _ => rfl
  pageMap := rfl
  reserved := rfl
  rest := rfl

/-- A change of one pair that stays within what work on a path may change. -/
theorem path_setPair (s : State) (p : PairId) (c : Pair) (h : c = { s.pairAt p with
    pstate := c.pstate, store := c.store, waiting := c.waiting, contrib := c.contrib, doneFrame := c.doneFrame }) :
    PathKept s (s.setPair p c) where
  lanes := fun _ => rfl
  pairs := fun q => by
    by_cases hq : q = p
    · subst hq; rw [pairAt_setPair_self]; exact h
    · rw [pairAt_setPair_ne _ _ _ _ hq]
  pageMap := rfl
  reserved := rfl
  rest := rfl

/-- A change of events, reports or work. -/
theorem path_rest (s : State) (e : EventUnit) (x : FaultLog) (w : List Work) (d : Decoder) :
    PathKept s { s with ev := e, log := x, work := w, dec := d } := ⟨fun _ => rfl, fun _ => rfl, rfl, rfl, rfl⟩

theorem path_raise (n : Nat) (s : State) : PathKept s (raise n s) := path_rest s _ s.log s.work s.dec

theorem path_addWork (ws : List Work) (s : State) : PathKept s (s.addWork ws) := path_rest s s.ev s.log _ s.dec

theorem path_report (source : Nat) (reason : FaultReason) (info : Nat) (s : State) :
    PathKept s (report source reason info s) := by
  unfold report
  split
  · exact path_rest s s.ev _ s.work s.dec
  · split
    · exact path_rest s _ _ s.work s.dec
    · exact path_rest s _ _ s.work s.dec

theorem path_judgeCongestion (s : State) : PathKept s (judgeCongestion s) := path_rest s _ s.log s.work _

theorem path_takeIfIdle (s : State) : PathKept s (takeIfIdle s) := by
  unfold takeIfIdle
  split
  · exact .refl s
  · split
    · exact .refl s
    · split
      · exact .refl s
      · unfold takeHead
        refine .trans ?_ (path_judgeCongestion _)
        refine .trans (path_setLane s _ _ ?_) (path_rest _ _ _ _ _)
        rfl

theorem writeCells_map (pages : List Nat) (g : PipeParams) (half : Half) (f c : Nat) (vs : List PoolCell) (p : Pool) :
    (writeCells pages g half f c vs p).pageMap = p.pageMap ∧ (writeCells pages g half f c vs p).reserved = p.reserved := by
  induction vs generalizing c p with
  | nil => exact ⟨rfl, rfl⟩
  | cons v vs ih =>
    simp only [writeCells]
    refine ⟨(ih _ _).1.trans ?_, (ih _ _).2.trans ?_⟩ <;> · unfold Pool.writeAt; split <;> rfl

theorem path_placeCells (p : LaneId) (cells : List PoolCell) (s : State) : PathKept s (placeCells p cells s) := by
  unfold placeCells
  split
  · rename_i pos g _ _
    have hw := writeCells_map (s.pool.pagesOf p) g pos.half pos.frame pos.cell cells s.pool
    refine PathKept.trans (t := { s with
      pool := writeCells (s.pool.pagesOf p) g pos.half pos.frame pos.cell cells s.pool }) ?_ (path_setLane _ _ _ rfl)
    exact ⟨fun _ => rfl, fun _ => rfl, hw.1, hw.2, rfl⟩
  · exact .refl s

theorem path_frameAccounting (p : LaneId) (s : State) : PathKept s (frameAccounting p s) := by
  unfold frameAccounting
  split
  · split
    · exact path_setLane s p _ rfl
    · unfold completeGroup
      refine .trans ?_ (path_takeIfIdle _)
      refine .trans ?_ (path_judgeCongestion _)
      refine .trans ?_ (path_setLane _ p _ rfl)
      refine .trans ?_ (path_setLane _ p _ rfl)
      split
      · exact .refl s
      · refine .trans ?_ (path_report _ _ _ _)
        exact (path_setLane s p _ rfl).trans (path_addWork _ _)
  · exact .refl s

theorem path_setPairState (p : PairId) (v : PairState) (s : State) : PathKept s (setPairState p v s) := by
  unfold setPairState
  split
  · exact .refl s
  · exact (path_setPair s p _ rfl).trans (path_raise _ _)

theorem path_pathCompletion (p : PairId) (x : WaitingSymbol) (s : State) : PathKept s (pathCompletion p x s) := by
  unfold pathCompletion
  refine .trans ?_ (path_frameAccounting _ _)
  refine .trans ?_ (path_setPair _ p _ rfl)
  dsimp only
  repeat' split
  all_goals first
    | exact path_setPairState _ _ _
    | exact (path_setPairState _ _ _).trans (path_report _ _ _ _)

theorem path_flushWaiting (p : PairId) (ws : List WaitingSymbol) (s : State) : PathKept s (flushWaiting p ws s) := by
  induction ws generalizing s with
  | nil => exact path_setPair s p _ rfl
  | cons x xs ih =>
    unfold flushWaiting
    split
    · refine .trans ?_ (ih _)
      have k := (path_placeCells (primaryOf p) x.cells s).trans (path_setPair _ p { (placeCells (primaryOf p) x.cells s).pairAt p
        with contrib := ((placeCells (primaryOf p) x.cells s).pairAt p).contrib + (if x.contributed then 1 else 0) } rfl)
      split
      · exact k.trans (path_pathCompletion _ _ _)
      · exact k
    · exact path_setPair s p _ rfl

theorem path_flush (p : PairId) (s : State) : PathKept s (flush p s) := path_flushWaiting _ _ _

theorem path_ageWaiting (p : PairId) (s : State) : PathKept s (ageWaiting p s) :=
  (path_setPair s p _ rfl).trans (path_flush _ _)

theorem path_decideAll (p : PairId) (s : State) : PathKept s (decideAll p s) :=
  (path_setPair s p _ rfl).trans (path_flush _ _)

theorem path_writeLeft (l : LaneId) (ws : List WaitingSymbol) (s : State) : PathKept s (writeLeft l ws s) := by
  induction ws generalizing s with
  | nil => exact .refl s
  | cons x xs ih =>
    unfold writeLeft
    refine .trans ?_ (ih _)
    split
    · exact (path_placeCells _ _ _).trans (path_frameAccounting _ _)
    · exact path_placeCells _ _ _

theorem path_takeLeft (l : LaneId) (s : State) : PathKept s (takeLeft l s) := by
  unfold takeLeft
  split
  · exact (path_setPair s _ _ rfl).trans (path_writeLeft _ _ _)
  · exact .refl s

theorem path_referenceSymbol (p : PairId) (partner : LaneId) (x : WaitingSymbol) (s : State) :
    PathKept s (referenceSymbol p partner x s) := by
  unfold referenceSymbol
  exact (path_setPair s p _ rfl).trans (path_flush _ _)

theorem path_partnerSymbol (p : PairId) (y : StoredSymbol) (s : State) : PathKept s (partnerSymbol p y s) := by
  unfold partnerSymbol
  exact (path_setPair s p _ rfl).trans (path_flush _ _)

theorem path_deliverCells (l : LaneId) (y : Layout) (idx : Nat) (cells : List PoolCell) (s : State) :
    PathKept s (deliverCells l y idx cells s) := by
  unfold deliverCells
  dsimp only
  repeat' split
  all_goals first
    | exact path_referenceSymbol _ _ _ _
    | exact path_partnerSymbol _ _ _
    | exact path_placeCells _ _ _
    | exact .refl s

/-- A symbol event in LOCK begins by counting the symbol, and then works on the path alone (R41, R77; log 21). -/
theorem path_beginLockSymbol (l : LaneId) (s : State) :
    PathKept (s.modLane l (fun c => { c with counters := { c.counters with symbols := wrap32 (c.counters.symbols + 1) } }))
      (beginLockSymbol l s) := by
  unfold beginLockSymbol
  simp only
  split
  · exact path_ageWaiting _ _
  · exact path_takeLeft _ _

end Sys2Proof.Machine
end

