-- ==== Sys2Proof/Laws/PerInstr.lean ====
section
/-! SUPPORT. Statements made of every command, one lemma per constructor. `RowCode`: the parameters a row's bytes carry
have the length that the request dictionary asks of its code (R188 step 2, 11.5). -/

-- One declaration after another: the many lemmas here, elaborated side by side, ask for more threads than the check's
-- memory limit allows.
set_option Elab.async false

namespace Sys2Proof.Machine

@[simp] theorem beBytes_length (k n : Nat) : (beBytes k n).length = k := by
  induction k with
  | zero => rfl
  | succ k ih => simp [beBytes, ih]

@[simp] theorem flagBytes_length (k n : Nat) : (flagBytes k n).length = k := by
  induction k generalizing n with
  | zero => rfl
  | succ k ih => simp [flagBytes, ih]

@[simp] theorem b1_length (n : Nat) : (b1 n).length = 1 := beBytes_length 1 n
@[simp] theorem b2_length (n : Nat) : (b2 n).length = 2 := beBytes_length 2 n
@[simp] theorem b4_length (n : Nat) : (b4 n).length = 4 := beBytes_length 4 n
@[simp] theorem b6_length (n : Nat) : (b6 n).length = 6 := beBytes_length 6 n
@[simp] theorem bBool_length (b : Bool) : (bBool b).length = 1 := beBytes_length 1 _

@[simp] theorem wireEntry_length (e : EntryForm) : (wireEntry e).length = 8 := by simp [wireEntry]
@[simp] theorem wireSetup_length (f : SetupForm) : (wireSetup f).length = 23 := by simp [wireSetup]
@[simp] theorem wireOrigin_length (f : OriginForm) : (wireOrigin f).length = 12 := by simp [wireOrigin]
@[simp] theorem wireMonitor_length (f : MonitorForm) : (wireMonitor f).length = 19 := by simp [wireMonitor]
@[simp] theorem wirePair_length (x : KindIndex) : (wirePair x).length = 2 := by simp [wirePair]
@[simp] theorem wireTimer_length (f : TimerForm) : (wireTimer f).length = 10 := by simp [wireTimer]

theorem wireSegment_length (g : SegmentForm) : (wireSegment g).length = 7 + 8 * g.entries.length := by
  have h : ∀ l : List EntryForm, (l.flatMap wireEntry).length = 8 * l.length := by
    intro l
    induction l with
    | nil => rfl
    | cons e l ih => simp [ih]; omega
  simp [wireSegment, h]
  omega

end Sys2Proof.Machine

namespace Sys2Proof.Laws.RowCode

open Sys2Proof.Machine

/-- The parameters of a row's packet have the length its code asks for; those of MAP LOAD are 7 bytes and 8 for each
entry (R188, 11.5). An event has no packet. -/
def Statement (c : Instr) : Prop :=
  ∀ h code ps, wireForm c = some (h, code, ps) →
    (code ≠ 0x20 → paramLength code = some ps.length) ∧ (code = 0x20 → ∃ n, ps.length = 7 + 8 * n)

theorem of_none {c : Instr} (h : wireForm c = none) : Statement c := fun _ _ _ e => by rw [h] at e; cases e

theorem of_some {c : Instr} {h : ReqHdr} {code : Nat} {ps : List Byte} (e : wireForm c = some (h, code, ps))
    (hc : code ≠ 0x20) (hl : paramLength code = some ps.length) : Statement c := by
  intro h' code' ps' e'
  rw [e] at e'
  cases e'
  exact ⟨fun _ => hl, fun x => absurd x hc⟩

theorem powerUpReset (straps : BitVec 5) : Statement (.powerUpReset straps) := of_none rfl
theorem linkDown (lane : LaneId) : Statement (.linkDown lane) := of_none rfl
theorem linkUp (lane : LaneId) : Statement (.linkUp lane) := of_none rfl
theorem sampleArrival (lane : LaneId) (i q : Int) (rx : SymbolRx) : Statement (.sampleArrival lane i q rx) :=
  of_none rfl
theorem holdoffExpiry (lane : LaneId) : Statement (.holdoffExpiry lane) := of_none rfl
theorem decodeCompletion (result : Unit) : Statement (.decodeCompletion result) := of_none rfl
theorem slotEvent (port : PortId) : Statement (.slotEvent port) := of_none rfl
theorem coHoldAssert : Statement (.coHoldAssert) := of_none rfl
theorem coHoldRelease : Statement (.coHoldRelease) := of_none rfl
theorem ciUnitArrival (unit : Packet) : Statement (.ciUnitArrival unit) := of_none rfl
theorem timerExpiry (timer : TimerId) : Statement (.timerExpiry timer) := of_none rfl
theorem ident (h : ReqHdr) : Statement (.ident h) := of_some rfl (by decide) (by simp [paramLength])
theorem partSetup (h : ReqHdr) (id : Nat) (notices : Bool) : Statement (.partSetup h id notices) :=
  of_some rfl (by decide) (by simp [paramLength])
theorem partReset (h : ReqHdr) : Statement (.partReset h) := of_some rfl (by decide) (by simp [paramLength])
theorem laneSetup (h : ReqHdr) (lane : Nat) (f : SetupForm) : Statement (.laneSetup h lane f) :=
  of_some rfl (by decide) (by simp [paramLength])
theorem laneStart (h : ReqHdr) (lane : Nat) : Statement (.laneStart h lane) :=
  of_some rfl (by decide) (by simp [paramLength])
theorem laneStop (h : ReqHdr) (lane : Nat) : Statement (.laneStop h lane) :=
  of_some rfl (by decide) (by simp [paramLength])
theorem laneRead (h : ReqHdr) (lane : Nat) (clear : Bool) : Statement (.laneRead h lane clear) :=
  of_some rfl (by decide) (by simp [paramLength])
theorem profileRead (h : ReqHdr) (lane : Nat) : Statement (.profileRead h lane) :=
  of_some rfl (by decide) (by simp [paramLength])
theorem pair (h : ReqHdr) (p : Nat) : Statement (.pair h p) := of_some rfl (by decide) (by simp [paramLength])
theorem unpair (h : ReqHdr) (p : Nat) : Statement (.unpair h p) := of_some rfl (by decide) (by simp [paramLength])
theorem poolSetup (h : ReqHdr) (r0 r1 r2 r3 : Nat) : Statement (.poolSetup h r0 r1 r2 r3) :=
  of_some rfl (by decide) (by simp [paramLength])
theorem poolRead (h : ReqHdr) (start : Nat) : Statement (.poolRead h start) :=
  of_some rfl (by decide) (by simp [paramLength])
theorem decoderSetup (h : ReqHdr) (high low : Nat) : Statement (.decoderSetup h high low) :=
  of_some rfl (by decide) (by simp [paramLength])
theorem decoderRead (h : ReqHdr) (clear : Bool) : Statement (.decoderRead h clear) :=
  of_some rfl (by decide) (by simp [paramLength])
theorem mapLoad (h : ReqHdr) (seg : SegmentForm) : Statement (.mapLoad h seg) := by
  intro h' code ps e
  cases e
  exact ⟨fun x => absurd rfl x, fun _ => ⟨seg.entries.length, wireSegment_length seg⟩⟩
theorem mapAbort (h : ReqHdr) : Statement (.mapAbort h) := of_some rfl (by decide) (by simp [paramLength])
theorem mapEditAdd (h : ReqHdr) (e : EntryForm) : Statement (.mapEditAdd h e) :=
  of_some rfl (by decide) (by simp [paramLength])
theorem mapEditReplace (h : ReqHdr) (e : EntryForm) : Statement (.mapEditReplace h e) :=
  of_some rfl (by decide) (by simp [paramLength])
theorem mapEditRemove (h : ReqHdr) (e : EntryForm) : Statement (.mapEditRemove h e) :=
  of_some rfl (by decide) (by simp [paramLength])
theorem mapRead (h : ReqHdr) (first count : Nat) (clear : Bool) : Statement (.mapRead h first count clear) :=
  of_some rfl (by decide) (by simp [paramLength])
theorem mapInvalidate (h : ReqHdr) (granularity origin id m : Nat) : Statement (.mapInvalidate h granularity origin id m) :=
  of_some rfl (by decide) (by simp [paramLength])
theorem originSetup (h : ReqHdr) (origin : Nat) (f : OriginForm) : Statement (.originSetup h origin f) :=
  of_some rfl (by decide) (by simp [paramLength])
theorem originRead (h : ReqHdr) : Statement (.originRead h) := of_some rfl (by decide) (by simp [paramLength])
theorem portSetup (h : ReqHdr) (port interval high low limit : Nat) : Statement (.portSetup h port interval high low limit) :=
  of_some rfl (by decide) (by simp [paramLength])
theorem portStop (h : ReqHdr) (port : Nat) : Statement (.portStop h port) :=
  of_some rfl (by decide) (by simp [paramLength])
theorem portStart (h : ReqHdr) (port : Nat) : Statement (.portStart h port) :=
  of_some rfl (by decide) (by simp [paramLength])
theorem portFlush (h : ReqHdr) (port : Nat) : Statement (.portFlush h port) :=
  of_some rfl (by decide) (by simp [paramLength])
theorem portRead (h : ReqHdr) (port : Nat) (clear : Bool) : Statement (.portRead h port clear) :=
  of_some rfl (by decide) (by simp [paramLength])
theorem monitorSetup (h : ReqHdr) (monitor : Nat) (f : MonitorForm) : Statement (.monitorSetup h monitor f) :=
  of_some rfl (by decide) (by simp [paramLength])
theorem monitorArm (h : ReqHdr) (monitor : Nat) : Statement (.monitorArm h monitor) :=
  of_some rfl (by decide) (by simp [paramLength])
theorem monitorRead (h : ReqHdr) (monitor part : Nat) (clear : Bool) : Statement (.monitorRead h monitor part clear) :=
  of_some rfl (by decide) (by simp [paramLength])
theorem timerSetup (h : ReqHdr) (timer : Nat) (f : TimerForm) : Statement (.timerSetup h timer f) :=
  of_some rfl (by decide) (by simp [paramLength])
theorem timerStart (h : ReqHdr) (timer : Nat) : Statement (.timerStart h timer) :=
  of_some rfl (by decide) (by simp [paramLength])
theorem timerStop (h : ReqHdr) (timer : Nat) : Statement (.timerStop h timer) :=
  of_some rfl (by decide) (by simp [paramLength])
theorem timerRead (h : ReqHdr) (timer : Nat) (clear : Bool) : Statement (.timerRead h timer clear) :=
  of_some rfl (by decide) (by simp [paramLength])
theorem eventEnable (h : ReqHdr) (enables : BitVec 51) : Statement (.eventEnable h enables) :=
  of_some rfl (by decide) (by simp [paramLength])
theorem eventRead (h : ReqHdr) : Statement (.eventRead h) := of_some rfl (by decide) (by simp [paramLength])
theorem eventClear (h : ReqHdr) (named : BitVec 51) : Statement (.eventClear h named) :=
  of_some rfl (by decide) (by simp [paramLength])
theorem faultRead (h : ReqHdr) : Statement (.faultRead h) := of_some rfl (by decide) (by simp [paramLength])
theorem faultClear (h : ReqHdr) (all : Bool) (places : BitVec 8) : Statement (.faultClear h all places) :=
  of_some rfl (by decide) (by simp [paramLength])
theorem tick (straps : BitVec 5) : Statement (.tick straps) := of_none rfl

end Sys2Proof.Laws.RowCode
end

