-- ==== Sys2Proof/Laws/Signal.lean ====
section
/-! SUPPORT. What a symbol's carriers give (R10), and what a preamble test and a decode can answer (R7, R107): the outcomes of
a shown record by its CRC and its checks, and the end of a codeword whose copy is all erasures. Proofs cite these instead of
unfolding the definitions. -/

namespace Sys2Proof.Machine

/-- The carriers that satisfy a test: below the mode's Ka, each with its value. -/
theorem mem_carriersOn (on : Nat → Bool) (m : Mode) (x : SymbolRx) (v : CarrierRx) (c : Nat) :
    (v, c) ∈ carriersOn on m x ↔ on c = true ∧ c < activeCarriers m ∧ x.carriers[c]? = some v := by
  simp only [carriersOn, List.mem_filter, List.mem_zipIdx_iff_getElem?, List.getElem?_take]
  split <;> simp_all [and_comm]

/-- They stand in ascending order. -/
theorem carriersOn_ascending (on : Nat → Bool) (m : Mode) (x : SymbolRx) :
    (carriersOn on m x).Pairwise (fun a b => a.2 < b.2) := by
  refine List.Pairwise.filter _ (List.pairwise_iff_getElem.mpr ?_)
  intro i j hi hj hij
  simpa using hij

/-- A symbol with all the carriers of its mode has as many as the test admits. -/
theorem carriersOn_length (on : Nat → Bool) (m : Mode) (x : SymbolRx) (h : activeCarriers m ≤ x.carriers.length) :
    (carriersOn on m x).length = (List.range (activeCarriers m)).countP on := by
  rw [carriersOn, ← List.countP_eq_length_filter, show (fun v : CarrierRx × Nat => on v.2) = on ∘ Prod.snd from rfl,
    ← List.countP_map, List.zipIdx_map_snd]
  simp [List.range_eq_range', h]

@[simp] theorem preambleOutcome_notShown (k : Option Candidate) : preambleOutcome k .notShown = .notFound := rfl

/-- A record whose CRC is not the one computed over it fails the CRC. -/
theorem preambleOutcome_crcFail (k : Option Candidate) (crc : Nat) (r : FrameRecord) (h : crc ≠ recordCrc r) :
    preambleOutcome k (.shown crc r) = .crcFail := by simp [preambleOutcome, h]

/-- A record that bears its own CRC is judged by the checks of R9. -/
theorem preambleOutcome_checked (k : Candidate) (r : FrameRecord) :
    preambleOutcome (some k) (.shown (recordCrc r) r) =
      (match failingCheck k r with
        | some n => .invalid n
        | none => .valid r) := if_neg (fun h => h rfl)

/-- A VALID outcome is the record shown, with its own CRC and no failing check. -/
theorem preambleOutcome_valid {k : Option Candidate} {x : PreambleRx} {r : FrameRecord} (h : preambleOutcome k x = .valid r) :
    x = .shown (recordCrc r) r ∧ ∃ c, k = some c ∧ failingCheck c r = none := by
  unfold preambleOutcome at h
  split at h
  · cases h
  · split at h
    · cases h
    · rename_i crc rec hc
      split at h
      · cases h
      · split at h
        · cases h
        · rename_i c _ hf
          cases h
          exact ⟨by rw [Decidable.not_not.mp hc], c, rfl, hf⟩

/-- The computed CRC has 16 bits. -/
theorem recordCrc_lt (r : FrameRecord) : recordCrc r < 65536 := (crcBits (recordBits r)).isLt

/-- No check is satisfied by erasures. -/
theorem checksSatisfied_erased {rate : Nat} {bits : List SoftBit} (h : allErased bits = true) :
    checksSatisfied rate bits = false := by simp [checksSatisfied, h]

theorem firstSatisfied_erased {rate : Nat} {copy : List SoftBit} (h : allErased copy = true) (n left : Nat) :
    firstSatisfied rate copy n left = none := by
  induction left generalizing n with
  | zero => rfl
  | succ m ih => simp [firstSatisfied, bitsAfter, h, checksSatisfied_erased h, ih]

/-- The decode of a copy that is all erasures fails. -/
theorem decodeEnd_erased {cw : Codeword} (h : allErased cw.soft = true) : decodeEnd cw = .failed := by
  simp [decodeEnd, checksSatisfied_erased h, firstSatisfied_erased h]

end Sys2Proof.Machine
end

