-- ==== Sys2Proof/Tests/Slice0.lean ====
section
/-! SUPPORT. The model's own tests: ill-formed commands that WellFormed refuses, the spec's worked cases, one step of every
command, and for each statement with hypotheses a concrete case that meets them. Each expected value is the spec's own, or
reckoned by hand from the rule that the test names. -/

namespace Sys2Proof.Tests

open Sys2Proof Sys2Proof.Machine

-- One kernel evaluation at a time: each keeps a stack of its own.
set_option Elab.async false

/-! ### Helpers -/

/-- The state a command leaves. -/
def after (c : Instr) (s : State) : State :=
  match exec c s with
  | .next t => t
  | .fault _ => s
  | .refused _ => s

/-- Status, reason and parameters of the newest packet in CO class 0. -/
def reply (s : State) : Nat × Nat × List Nat :=
  match (s.port portCO).q0.getLast? with
  | none => (99, 99, [])
  | some e => ((byteAt e.packet 8).toNat, (byteAt e.packet 9).toNat, (mgmtParams e.packet).map BitVec.toNat)

/-- A request header with tag 9, addressed to the part. -/
def h9 : ReqHdr := ⟨9, none⟩

/-- A symbol that shows nothing. -/
def bare : SymbolRx := ⟨.notShown, []⟩

/-- A record of one pipe: id 0, 4 points, rate 1/2, one codeword a frame, depth 1. -/
def rec0 : FrameRecord := ⟨7, 4, .m1, .g32, 16, .p0, 1, [⟨0, 0, 0, 7680, 1, 0⟩]⟩

/-- A symbol that shows that record with its own CRC (R7). -/
def preamble : SymbolRx := ⟨.shown (recordCrc rec0) rec0, []⟩

/-- A symbol whose preamble fails its CRC. -/
def badCrc : SymbolRx := ⟨.shown (recordCrc rec0 + 1) rec0, []⟩

/-- A symbol whose preamble fails check 2: D is 15 (R9). -/
def badLayout : SymbolRx := ⟨.shown (recordCrc { rec0 with d := 15 }) { rec0 with d := 15 }, []⟩

/-- A symbol whose first three carriers arrive far from an estimate of 0. -/
def burst : SymbolRx := ⟨.notShown, List.replicate 3 ⟨⟨1000, 0⟩, ⟨1, 0⟩⟩⟩

/-- Its one pilot in mode 1 and pattern P0 where the first pilot stands at carrier `n`. -/
def burstPilots (n : Nat) : List PilotRx := pilotsOn (fun c => decide (c % 3 = n)) .m1 burst

/-- R10: wherever the first pilot of the pattern stands, `burst` has the one pilot that `burstPilots` gives for it. -/
theorem burst_pilots : ∃ n < 3, pilotsOf .m1 .p0 burst = burstPilots n := ⟨_, Nat.mod_lt (Config.firstPilot .m1 .p0) (by decide), rfl⟩

/-- The candidate of mode 1 and guard 1/32 at position 0. -/
def cand : Candidate := ⟨.m1, .g32, 0⟩

theorem outcome_preamble : preambleOutcome (some cand) preamble.preamble = .valid rec0 :=
  (preambleOutcome_checked cand rec0).trans (by decide +kernel)
theorem outcome_badCrc : preambleOutcome (some cand) badCrc.preamble = .crcFail :=
  preambleOutcome_crcFail _ _ _ (by omega)
theorem outcome_badLayout : preambleOutcome (some cand) badLayout.preamble = .invalid 2 :=
  (preambleOutcome_checked cand _).trans (by decide +kernel)

/-- A lane of mode 1, guard 1/32 in a state, one sample before a symbol event. -/
def laneIn (st : LaneState) : Lane :=
  { Lane.reset with
    state := st, candidate := some cand, toGo := 1, sweepPos := 1
    layout := some ⟨7, 3, 16, .p0, some ⟨⟨7680, 0, 0, 1⟩, 0⟩⟩, frame := ⟨5, 16, true, 0, 0, 0, false⟩
    group := some ⟨.a, 0, 0⟩, deadline := some 100 }

/-- All links UP, lane L0 as given, system time 100. -/
def withLane (c : Lane) : State :=
  { State.reset with time := 100, links := Vector.replicate 4 true, lanes := State.reset.lanes.set 0 c }

/-- L0 in a state. -/
def lane0In (st : LaneState) : State := withLane (laneIn st)

/-- A packet of an id with a payload of 184 zero bytes. -/
def packetOfId (id : Nat) : Packet :=
  [0x47#8, BitVec.ofNat 8 (id / 256), BitVec.ofNat 8 id, 0x10#8] ++ List.replicate 184 0#8

/-- The same with the error flag. -/
def erroredOfId (id : Nat) : Packet := withError (packetOfId id)

/-- CI UP. -/
def chained : State := { State.reset with ci := ⟨true, 0⟩ }

/-- A queued packet. -/
def queued (cls id : Nat) : Queued := ⟨packetOfId id, cls, false, false, 0⟩

/-- A timer as given in place of T0. -/
def withTimer (m : Timer) : State := { State.reset with timers := State.reset.timers.set 0 m }

/-- A timer of a mode and run state with reload 9 and counter 4. -/
def timerOf (mode : TimerMode) (run : RunState) : Timer :=
  ⟨⟨mode, 0, 9, ⟨0, 0⟩, ⟨0, 0⟩, ⟨0, 0⟩⟩, run, 4, 0, 0, 0, false, false⟩

/-- A port as given in place of F0. -/
def withF0 (q : Port) : State := { State.reset with ports := State.reset.ports.set 1 q }

/-- F0 after reset. -/
def f0 : Port := State.reset.port 1

/-- A codeword of L0 at rate 1/2, taken at time 0 with budget 2, its copy empty. -/
def word : Codeword := ⟨0, .a, 0, 0, 0, [], .good, false, 2, false, 0⟩

/-- The map of the example of 7.3, with the origins of that example. -/
def exampleMap : MapUnit :=
  { MapUnit.reset with
    slots := [some ⟨⟨⟨0, 256⟩, ⟨.route, 1256, ⟨true, false, true⟩, 1, true⟩⟩, 0⟩,
      some ⟨⟨⟨0, 257⟩, ⟨.drop, 257, ⟨true, false, false⟩, 2, false⟩⟩, 0⟩,
      some ⟨⟨⟨4, 1000⟩, ⟨.route, 1000, ⟨false, true, false⟩, 1, false⟩⟩, 0⟩] ++ List.replicate 1021 none
    origins := MapUnit.reset.origins.set 0 ⟨.hash, ⟨false, true, false⟩, 2, false, 1#64 <<< 39⟩ }

/-- The part with that map and CI UP. -/
def mapped : State := { chained with smap := exampleMap }

/-- The page map of the reservation example of 5.2: L0 owns 180 pages and L2 400. -/
def reservedPool : Pool :=
  ⟨List.replicate 180 (some 0) ++ List.replicate 400 (some 2) ++ List.replicate 444 none, #v[200, 100, 0, 0], []⟩

/-! ### WellFormed refuses what the outside world cannot present -/

theorem test_wf_tag : Instr.wf (.ident ⟨256, none⟩) = false ∧ Instr.wf (.ident ⟨255, none⟩) = true := by decide
theorem test_wf_relay : Instr.wf (.ident ⟨0, some [0x47#8]⟩) = false := by decide
theorem test_wf_sample : Instr.wf (.sampleArrival 0 2048 0 bare) = false ∧ Instr.wf (.sampleArrival 0 0 (-2049) bare) = false ∧
    Instr.wf (.sampleArrival 0 2047 (-2048) bare) = true := by decide +kernel
theorem test_wf_crc : SymbolRx.wf { bare with preamble := .shown 65536 rec0 } = false := by decide +kernel
theorem test_wf_record : FrameRecord.wf { rec0 with version := 16 } = false ∧ FrameRecord.wf { rec0 with pipeCount := 2 } = false ∧
    FrameRecord.wf rec0 = true := by decide +kernel
theorem test_wf_pipe : PipeRecord.wf ⟨64, 0, 0, 0, 0, 0⟩ = false ∧ PipeRecord.wf ⟨63, 7, 7, 1048575, 7, 16777215⟩ = true := by decide +kernel
theorem test_wf_pilot : SymbolRx.wf { bare with carriers := [⟨Cplx.zero, Cplx.zero⟩] } = false := by decide +kernel
theorem test_wf_carriers : SymbolRx.wf { bare with carriers := List.replicate 13825 ⟨Cplx.zero, ⟨1, 0⟩⟩ } = false ∧
    SymbolRx.wf { bare with carriers := List.replicate 13824 ⟨Cplx.zero, ⟨1, 0⟩⟩ } = true := by decide +kernel
/-- R10, R11: counted from carrier 2, every third carrier of seven is a pilot's and the rest carry data. -/
theorem test_carriers : (pilotsOn (fun c => decide (c % 3 = 2)) .m1 ⟨.notShown, List.replicate 7 ⟨⟨1, 0⟩, ⟨1, 0⟩⟩⟩).map (·.carrier) = [2, 5] ∧
    (carriersOn (fun c => !decide (c % 3 = 2)) .m1 ⟨.notShown, List.replicate 7 ⟨⟨1, 0⟩, ⟨1, 0⟩⟩⟩).map (·.2) = [0, 1, 3, 4, 6] := by
  decide +kernel
theorem test_wf_unit : Instr.wf (.ciUnitArrival [0x47#8]) = false ∧ Instr.wf (.ciUnitArrival nullPacket) = true := by decide +kernel
theorem test_wf_setup : SetupForm.wf ⟨15#4, 15#4, 256, 4, 8, 0, 500, 3, 280, 220, 160, 10, 8, 64, 2, 32, 4, 24⟩ = false ∧
    SetupForm.wf ⟨15#4, 15#4, 2, 4, 8, 0, 65536, 3, 280, 220, 160, 10, 8, 64, 2, 32, 4, 24⟩ = false := by decide +kernel
theorem test_wf_entry : EntryForm.wf ⟨0, 0, 4, 1, false, 0, 1#8⟩ = false ∧ EntryForm.wf ⟨0, 65536, 0, 1, false, 0, 1#8⟩ = false := by
  decide +kernel
theorem test_wf_segment : SegmentForm.wf ⟨0, true, true, 65536, 0, 0, []⟩ = false := by decide +kernel
theorem test_wf_origin : OriginForm.wf ⟨256, 1#8, 1, true, 0#64⟩ = false := by decide +kernel
theorem test_wf_monitor : MonitorForm.wf ⟨true, 0, 0, true, 256, 0#64, 0, 0, true, true⟩ = false := by decide +kernel
theorem test_wf_timer : TimerForm.wf ⟨0, 0, 65536, ⟨0, 0⟩, ⟨0, 0⟩, ⟨0, 0⟩⟩ = false ∧ KindIndex.wf ⟨256, 0⟩ = false := by decide +kernel
theorem test_wf_rows : Instr.wf (.laneStart h9 256) = false ∧ Instr.wf (.poolSetup h9 65536 0 0 0) = false ∧
    Instr.wf (.mapRead h9 0 256 true) = false ∧ Instr.wf (.portSetup h9 0 500 256 0 0) = false := by decide +kernel

/-! ### The spec's worked cases -/

/-- The worked case of 9.3: one masked byte 00h gives E1F0h. -/
theorem test_crc_one_byte : crcBytes [0#8] = 0xE1F0#16 ∧ crcBytes [] = 0xFFFF#16 := by decide
/-- The CRC of R7 is the same computation taken bit by bit. -/
theorem test_crc_bits : crcBits (List.replicate 8 false) = 0xE1F0#16 := by decide
/-- The table of R123. -/
theorem test_hash_flags : [1000, 4100, 63, 64].map hashFlag = [39, 5, 63, 1] := by decide
/-- The sweep orders of R23. -/
theorem test_sweep_order : [0, 1, -1, 2, -2].map (nextSweep 2) = [1, -1, 2, -2, 0] ∧ nextSweep 0 0 = 0 ∧ nextSweep 4 (-4) = 0 := by
  decide
/-- A guard equal to its source correlates fully, and no energy gives 0 (R5). -/
theorem test_correlation : correlation [⟨3, 4⟩, ⟨-5, 6⟩] [⟨3, 4⟩, ⟨-5, 6⟩] = 4095 ∧ correlation [⟨0, 0⟩] [⟨0, 0⟩] = 0 ∧
    correlation [⟨1, 0⟩, ⟨1, 0⟩] [⟨1, 0⟩, ⟨-1, 0⟩] = 0 := by decide +kernel
/-- The example of R9: pipe 2 fails check 5, the lower number. -/
theorem test_two_faults : failingCheck ⟨.m3, .g8, 0⟩
    ⟨0, 0, .m3, .g8, 68, .p0, 2, [⟨5, 3, 5, 1048575, 1, 0⟩, ⟨9, 2, 3, 51200, 0, 0⟩]⟩ = some 5 := by decide +kernel
/-- The example of R13: 40 codewords a group, 7 packets a codeword, 4608 data cells a symbol; 704 cells erased at D = 37. -/
theorem test_pipe_geometry : codewordsPerGroup ⟨51200, 2, 3, 2⟩ = 40 ∧ packetsPerCodeword 3 = 7 ∧ dataCells .m3 .p0 = 4608 ∧
    (pipePlaces 4608 37 37 120000 51200).2 = 704 := by decide +kernel
/-- The example of R15: Tg, holdoff and retire age clamp; then Tf = Tg is refused. -/
theorem test_setup_clamp : clampSetup ⟨15#4, 15#4, 2, 4, 8, 0, 20000, 3, 500, 260, 170, 10, 8, 64, 2, 0, 4, 24⟩ =
    { Setup.default with tg := 400, tf := 260, tp := 170, holdoff := 10000, retireAge := 1 } ∧
    setupOk (clampSetup ⟨15#4, 15#4, 2, 4, 8, 0, 10000, 3, 500, 450, 100, 10, 8, 64, 2, 1, 4, 24⟩) = false := by decide +kernel
/-- The worked case of 3.4. -/
theorem test_profile_update : updateProfile Setup.default (-682) 2046 [⟨-1, 4096⟩, ⟨201, 2600⟩, ⟨418, 1100⟩, ⟨640, 900⟩]
    ⟨[⟨0, 4000, 0⟩, ⟨200, 2400, 0⟩, ⟨420, 1200, 5⟩, ⟨903, 70, 31⟩], 256, -14⟩ =
    ⟨[⟨0, 4024, 0⟩, ⟨202, 2450, 0⟩, ⟨419, 1175, 0⟩, ⟨641, 900, 0⟩], 257, -15⟩ := by decide +kernel
/-- The three-echo field of 3.6. -/
theorem test_placement :
    let profile : List Echo := [⟨0, 4000, 0⟩, ⟨200, 2400, 0⟩, ⟨420, 1200, 5⟩]
    metric 8192 256 profile 676 = 57843200 ∧ placeWindow 8192 256 8 (-682) 2046 profile 200 true = (256, false) ∧
      placeWindow 8192 256 8 (-682) 2046 profile 200 false = (200, false) ∧
      placeWindow 8192 256 8 (-682) 2046 profile 676 false = (256, false) := by decide +kernel
/-- The blanking example of R64: σ² 2000, then 2018, 2017, 2016. -/
theorem test_noise : isBlanked (some 2000) 4 41000 = true ∧ noiseAfter (some 2000) true 41000 = some 2000 ∧
    noiseAfter (some 2000) false 2300 = some 2018 ∧ noiseAfter (some 2018) false 1990 = some 2017 ∧
    noiseAfter (some 2017) false 2010 = some 2016 := by decide +kernel
/-- The example of R68: MER 260, Q 252, 242, 212, 234, and the grades. -/
theorem test_quality : merOf 1497600000 3744000 = 260 ∧ qAfter (some 250) 2 260 = 252 ∧ qAfter (some 252) 2 210 = 242 ∧
    qAfter (some 242) 2 120 = 212 ∧ qAfter (some 212) 2 300 = 234 ∧ judgeGrade Setup.default .fair 212 = .poor ∧
    judgeGrade Setup.default .poor 234 = .fair ∧ judgeGrade Setup.default .poor 225 = .poor ∧
    judgeGrade Setup.default .bad 165 = .bad ∧ judgeGrade Setup.default .fair 215 = .poor := by decide +kernel
/-- The example of R78. -/
theorem test_combining : combineCells [⟨1000, -520, 300⟩, ⟨3, 0, 1⟩, ⟨700, 90, 0⟩, ⟨800, 800, 3000⟩]
    [⟨1040, -480, 100⟩, ⟨4, -1, 1⟩, ⟨-20, 15, 0⟩, ⟨810, 790, 2000⟩] =
    [⟨1010, -510, 400⟩, ⟨4, -1, 2⟩, ⟨0, 0, 0⟩, ⟨804, 796, 4095⟩] := by decide +kernel
/-- The example of R97: the runs from page 0 and from page 150. -/
theorem test_page_runs :
    let m := List.replicate 100 (some (3 : LaneId)) ++ List.replicate 64 (some 2) ++ List.replicate 76 (some 1) ++
      List.replicate 20 (some 3) ++ List.replicate 764 none
    runsFrom 0 m = [⟨0, 100, 3⟩, ⟨100, 64, 2⟩, ⟨164, 76, 1⟩, ⟨240, 20, 3⟩] ∧
      runsFrom 150 (m.drop 150) = [⟨150, 14, 2⟩, ⟨164, 76, 1⟩, ⟨240, 20, 3⟩] := by decide +kernel
/-- The example of R103: the lanes chosen are L0, L2, L3, L0, L2, L0. -/
theorem test_round_of_takes :
    let e : ReadyEntry := ⟨.a, 0, 0, 0⟩
    let of : List ReadyEntry → Lane := fun r => { Lane.reset with ready := r }
    let start : State := { State.reset with lanes := #v[of [e, e, e], of [], of [e, e], of [e]] }
    let idle : State → State := fun s => { s with dec := { s.dec with inflight := none } }
    let next : State → State := fun s => takeIfIdle (idle s)
    let owner : State → Option LaneId := fun s => s.dec.inflight.map (·.owner)
    [next start, next (next start), next (next (next start)), next (next (next (next start))),
      next (next (next (next (next start)))), next (next (next (next (next (next start)))))].map owner =
      [some 0, some 2, some 3, some 0, some 2, some 0] := by decide +kernel
/-- The restamps of R144: base and extension of packets 1 and 2. -/
theorem test_restamp :
    let p1 := withClock (packetOfId 0) 8589934590 250
    let p2 := withClock (packetOfId 0) 1000000 299
    (clockBase (correctClock p1 1000), clockExt (correctClock p1 1000)) = (2, 50) ∧
      (clockBase (correctClock p2 6750), clockExt (correctClock p2 6750)) = (1000023, 149) := by decide +kernel
/-- The bytes of the null packet (R141). -/
theorem test_null_packet : nullPacket.length = 188 ∧ pktId nullPacket = 8191 ∧ pktAdapt nullPacket = 1 ∧ byteAt nullPacket 187 = 0xFF#8 := by
  decide +kernel
/-- The seven arrivals of 7.3: the cache they leave, the counters and the queues. -/
theorem test_seven_arrivals :
    let arrive : Nat → Packet → State → State := fun o p s => if toManagement s o p then s else mapArrival o p s
    let t := arrive 4 (packetOfId 500) (arrive 4 (packetOfId 8064) (arrive 4 (packetOfId 1000) (arrive 0 (erroredOfId 300)
      (arrive 0 (packetOfId 1000) (arrive 0 (packetOfId 257) (arrive 0 (packetOfId 256) mapped))))))
    t.smap.cache.map (fun r => (r.key.origin, r.key.id, r.found.map (·.1))) =
      [(4, 500, none), (4, 1000, some 2), (0, 1000, none), (0, 257, some 1), (0, 256, some 0)] ∧
    (t.smap.slots.take 3).map (fun x => x.map (·.counter)) = [some 1, some 1, some 1] ∧
    (t.port 0).q1.map (fun e => (pktId e.packet, e.restamp)) = [(1256, true), (500, false)] ∧
    (t.port 1).q1.map (fun e => pktId e.packet) = [1000] ∧ (t.port 2).q1.map (fun e => pktId e.packet) = [1256] ∧
    t.log.records.map (fun r => (r.source, r.reason, r.info)) = [(8, 6, 1000)] := by decide +kernel
/-- The displacement example of R138. -/
theorem test_displacement :
    let start := withF0 { f0 with q1 := List.replicate 70 (queued 1 7), q2 := List.replicate 25 (queued 2 8) ++ [queued 2 1402] }
    let t := portArrive 1 1 false false (packetOfId 1256) (portArrive 1 1 false false (packetOfId 1256)
      (portArrive 1 2 false false (packetOfId 300) start))
    (t.port 1).q1.length = 72 ∧ (t.port 1).q2.length = 24 ∧ (t.port 1).drop2 = 3 ∧
      t.log.records.map (fun r => (r.source, r.reason, r.info, r.count)) = [(6, 7, 2, 3)] := by decide +kernel
/-- The example of R169: 12 drops at reload 9 and counter 4 expire once and leave 2. -/
theorem test_count_occurrences :
    let m : Timer := { timerOf .count .running with setting := ⟨.count, 0, 9, ⟨0, 0⟩, ⟨3, 0⟩, ⟨0, 0⟩⟩ }
    let t := afterEvent ((withTimer m).addWork (List.replicate 12 (.occ (.cwDropped 0))))
    (t.timer 0).counter = 2 ∧ t.ev.flags.getLsbD 43 = true := by decide +kernel
/-- The example of R173: the ring T2, T4, T3 is refused, a ONESHOT is not. -/
theorem test_ring :
    let count : Nat → TimerSetting := fun u => ⟨.count, 0, 1, ⟨0, 0⟩, ⟨7, u⟩, ⟨0, 0⟩⟩
    let t3 : Timer := { Timer.reset with setting := count 2 }
    let t4 : Timer := { Timer.reset with setting := count 3 }
    let s : State := { State.reset with timers := (State.reset.timers.set 3 t3).set 4 t4 }
    reply (after (.timerSetup h9 2 ⟨1, 0, 1, ⟨0, 0⟩, ⟨7, 4⟩, ⟨0, 0⟩⟩) s) = (2, 7, []) ∧
      reply (after (.timerSetup h9 2 ⟨2, 0, 1, ⟨0, 0⟩, ⟨7, 4⟩, ⟨0, 0⟩⟩) s) = (0, 0, []) := by decide +kernel

/-! ### One step of every command -/

theorem test_step_takes_front : step { State.reset with pending := [.tick 0#5, .linkUp 1] } = exec (.tick 0#5) { State.reset with pending := [.linkUp 1] } := rfl
/-- R42, R185: the straps are the address. -/
theorem test_power_up : (after (.powerUpReset 9#5) (lane0In .lock)).mgmt.addr = 9 ∧ (after (.powerUpReset 9#5) (lane0In .lock)).time = 0 := by
  decide +kernel
/-- R35: LOCK to FADE with reason LINK_DOWN, deadline 100 + 500 × 27,000. -/
theorem test_link_down :
    let t := after (.linkDown 0) (lane0In .lock)
    (t.lane 0).state = .fade ∧ (t.lane 0).reason = .linkDown ∧ (t.lane 0).deadline = some 13500100 ∧
      t.log.records.map (fun r => (r.source, r.reason, r.info)) = [(0, 1, 4)] := by decide +kernel
theorem test_link_up : (after (.linkUp 2) State.reset).links[2] = true := by decide +kernel
/-- R3, R24: a sample is counted in SEARCH and discarded on a link that is DOWN. -/
theorem test_sample : ((after (.sampleArrival 0 3 4 bare) (lane0In .search)).lane 0).attempt = 1 ∧
    ((after (.sampleArrival 0 3 4 bare) { (lane0In .search) with links := Vector.replicate 4 false }).lane 0).attempt = 0 := by decide +kernel
/-- R37: a VALID preamble after four good symbols returns the lane to LOCK. -/
theorem test_recovery (s : State) (h : (s.lane 0).candidate = some cand) (g : 4 ≤ (s.lane 0).goodRun) :
    fadeSymbol 0 preamble s = recover 0 rec0 s := by simp [fadeSymbol, h, outcome_preamble, g]
theorem test_recovered :
    let t := recover 0 rec0 (withLane { laneIn .fade with goodRun := 4 })
    (t.lane 0).state = .lock ∧ (t.lane 0).deadline = none ∧ t.ev.flags.getLsbD 2 = true := by decide +kernel
/-- R38: at its deadline a lane in FADE goes to SEARCH, position 0. -/
theorem test_holdoff : ((after (.holdoffExpiry 0) (lane0In .fade)).lane 0).state = .search ∧
    ((after (.holdoffExpiry 0) (lane0In .fade)).lane 0).sweepPos = 0 ∧ ((after (.holdoffExpiry 0) (lane0In .lock)).lane 0).state = .lock := by
  decide +kernel
/-- R107, R109, R108: a copy of erasures fails after its whole budget of 2, 648 ticks after its take, and the five packets
of rate 1/2 bear the error flag. -/
theorem test_decode :
    let t := after (.decodeCompletion ()) { State.reset with time := 648, dec := { Decoder.reset with inflight := some word } }
    t.dec.inflight = none ∧ (t.lane 0).counters.emitted = 5 ∧ (t.lane 0).counters.failed = 1 ∧ t.dec.stats[0] = ⟨1, 2⟩ ∧
      (packetsOf word).map (fun p => byteAt p 1) = List.replicate 5 0x80#8 := by decide +kernel
/-- R139, R141: an empty running port sends a null packet and sets its next slot. -/
theorem test_slot : ((after (.slotEvent 1) { State.reset with time := 1080 }).port 1).wire = some nullPacket ∧
    ((after (.slotEvent 1) { State.reset with time := 1080 }).port 1).nextSlot = 2160 := by decide +kernel
theorem test_hold_line : (after .coHoldAssert State.reset).co.held = true ∧ (after .coHoldRelease (after .coHoldAssert State.reset)).co.held = false := by
  decide +kernel
/-- R151: the fifth good unit brings CI UP; the third bad one brings it DOWN with CI_FRAMING_LOST. -/
theorem test_framing : (after (.ciUnitArrival nullPacket) { State.reset with ci := ⟨false, 4⟩ }).ci = ⟨true, 0⟩ ∧
    (after (.ciUnitArrival [0x11#8]) { State.reset with ci := ⟨true, 2⟩ }).log.records.map (fun r => (r.source, r.reason, r.info)) =
      [(4, 8, 17)] := by decide +kernel
/-- R168, R172: an INTERVAL timer reloads at its expiry and raises TIMER_EXPIRY. -/
theorem test_timer_expiry :
    let t := after (.timerExpiry 0) (withTimer { timerOf .interval .running with counter := 0, due := true })
    (t.timer 0).counter = 9 ∧ (t.timer 0).due = false ∧ t.ev.flags.getLsbD 43 = true := by decide +kernel
/-- R1, R168: a tick. -/
theorem test_tick : (after (.tick 0#5) { State.reset with time := 281474976710655 }).time = 0 ∧
    ((after (.tick 0#5) (withTimer (timerOf .interval .running))).timer 0).counter = 3 := by decide +kernel
/-- R185: PART RESET reads the straps as they stand then. -/
theorem test_straps : (after (.tick 7#5) State.reset).mgmt.addr = 0 ∧
    (after (.partReset h9) (after (.tick 7#5) State.reset)).mgmt.addr = 7 := by decide +kernel
/-- R194: four lanes, one decoder, address, id 8064, notices, then the lanes. -/
theorem test_ident : reply (after (.ident h9) State.reset) = (0, 0, [4, 1, 0, 31, 128, 0, 0, 0, 0, 0, 0, 0, 0, 0]) := by decide +kernel
/-- R195: an id that the map gives out is refused. -/
theorem test_part_setup : (after (.partSetup h9 700 true) State.reset).mgmt.id = 700 ∧
    reply (after (.partSetup h9 1256 true) mapped) = (2, 7, []) := by decide +kernel
/-- R196: the reply is the first packet, its continuity count 0. -/
theorem test_part_reset : reply (after (.partReset h9) (lane0In .lock)) = (0, 0, []) ∧ (after (.partReset h9) (lane0In .lock)).time = 100 ∧
    ((after (.partReset h9) (lane0In .lock)).lane 0).state = .off := by decide +kernel
theorem test_lane_setup : reply (after (.laneSetup h9 1 ⟨15#4, 15#4, 2, 4, 8, 0, 20000, 3, 500, 260, 170, 10, 8, 64, 2, 0, 4, 24⟩) State.reset) =
    (1, 0, []) := by decide +kernel
theorem test_lane_start : ((after (.laneStart h9 1) State.reset).lane 1).state = .search := by decide +kernel
theorem test_lane_stop : ((after (.laneStop h9 0) (lane0In .lock)).lane 0).state = .off ∧
    ((after (.laneStop h9 0) (lane0In .lock)).lane 0).group = none := by decide +kernel
/-- The example of R22: the reply carries the counters before the clear; they stand behind 35 bytes. -/
theorem test_lane_read :
    let s := withLane { laneIn .lock with counters := { LaneCounters.zero with symbols := 3100442, frames := 45594, wraps := 4 } }
    let t := after (.laneRead h9 0 true) s
    (t.lane 0).counters = LaneCounters.zero ∧ (laneReadBytes s 0 |>.drop 35).take 8 = b4 3100442 ++ b4 45594 := by decide +kernel
theorem test_profile_read : (reply (after (.profileRead h9 0) (lane0In .lock))).2.2.take 2 = [4, 0] := by decide +kernel
theorem test_pair : ((after (.pair h9 1) State.reset).pairAt 1).formed = true ∧ reply (after (.pair h9 0) (lane0In .lock)) = (2, 1, []) := by
  decide +kernel
theorem test_unpair : ((after (.unpair h9 1) (after (.pair h9 1) State.reset)).pairAt 1).formed = false := by decide +kernel
/-- R72: after UNPAIR the group goes on, and the symbol that waited is written at the next symbol event in LOCK (log 21). -/
theorem test_unpair_waiting :
    let x : WaitingSymbol := ⟨5, 2, [⟨1, 2, 3⟩], 0, false, false, 16, true⟩
    let s : State := { lane0In .lock with
      pool := Pool.reset.grant 0 8, pairs := State.reset.pairs.set 0 { Pair.fresh with ref := .primary, waiting := [x] } }
    let t := after (.unpair h9 0) s
    (t.lane 0).group = some ⟨.a, 0, 0⟩ ∧ (t.pairAt 0).waiting = [x] ∧ (t.lane 0).ready = [] ∧
      ((beginLockSymbol 0 t).pairAt 0).waiting = [] ∧ readCell (beginLockSymbol 0 t).pool.cells 0 = ⟨1, 2, 3⟩ := by decide +kernel
/-- The example of R86: refused with L3 500, accepted with L3 300. -/
theorem test_pool_setup : reply (after (.poolSetup h9 200 100 0 500) { State.reset with pool := reservedPool }) = (2, 8, []) ∧
    reply (after (.poolSetup h9 200 100 0 300) { State.reset with pool := reservedPool }) = (0, 0, []) := by decide +kernel
theorem test_pool_read : (reply (after (.poolRead h9 0) State.reset)).2.2.take 2 = [4, 0] := by decide +kernel
/-- The example of R113: 60 and 80 give 60 and 59, CLAMPED. -/
theorem test_decoder_setup : reply (after (.decoderSetup h9 60 80) State.reset) = (1, 0, []) ∧
    (after (.decoderSetup h9 60 80) State.reset).dec.low = 59 := by decide +kernel
theorem test_decoder_read : (reply (after (.decoderRead h9 false) State.reset)).2.2.take 7 = [0, 0, 0, 0, 96, 0, 48] := by decide +kernel
/-- R114, R189: an idle decoder's codeword is given as zeros, as many bytes as one in flight takes. -/
theorem test_decoder_read_idle : inflightBytes Decoder.reset = List.replicate 17 0#8 ∧
    (inflightBytes { Decoder.reset with inflight := some word }).length = 17 := by decide +kernel
/-- R131 to R134: a one-segment load becomes the map. -/
theorem test_map_load :
    let t := after (.mapLoad h9 ⟨1, true, true, 1, 0, 1, [⟨0, 256, 0, 1, true, 1256, 5#8⟩]⟩) State.reset
    reply t = (0, 0, []) ∧ (findKey t.smap.slots ⟨0, 256⟩).map (·.1) = some 0 ∧ t.ev.flags.getLsbD 29 = true := by decide +kernel
/-- R132: a first segment without the first flag is out of sequence, code 1. -/
theorem test_map_load_sequence : (after (.mapLoad h9 ⟨1, false, true, 1, 0, 1, [⟨0, 256, 0, 1, true, 1256, 5#8⟩]⟩) State.reset).log.records.map
    (fun r => (r.source, r.reason, r.info)) = [(8, 10, 1)] := by decide +kernel
theorem test_map_abort : (after (.mapAbort h9) { State.reset with smap := { MapUnit.reset with staging := some ⟨1, 2, 0, []⟩ } }).smap.staging = none := by
  decide +kernel
/-- R128: a new entry takes the lowest empty slot; a key twice is EXISTS. -/
theorem test_map_add : reply (after (.mapEditAdd h9 ⟨1, 300, 0, 1, false, 300, 1#8⟩) mapped) = (0, 0, [0, 3]) ∧
    reply (after (.mapEditAdd h9 ⟨0, 256, 0, 1, false, 300, 1#8⟩) mapped) = (2, 10, []) := by decide +kernel
theorem test_map_replace : reply (after (.mapEditReplace h9 ⟨0, 257, 0, 1, false, 300, 1#8⟩) mapped) = (0, 0, [0, 1]) ∧
    reply (after (.mapEditReplace h9 ⟨0, 257, 0, 1, false, 1256, 1#8⟩) mapped) = (2, 7, []) := by decide +kernel
theorem test_map_remove : reply (after (.mapEditRemove h9 ⟨4, 1000, 0, 0, false, 0, 0#8⟩) mapped) = (0, 0, [0, 2]) ∧
    reply (after (.mapEditRemove h9 ⟨3, 1000, 0, 0, false, 0, 0#8⟩) mapped) = (2, 11, []) := by decide +kernel
theorem test_map_read : (reply (after (.mapRead h9 1 1 false) mapped)).2.2.take 13 = [0, 3, 0, 1, 1, 0, 1, 1, 9, 1, 1, 1, 0] := by decide +kernel
/-- R127: a BLOCK of m = 7 clears the origin and says ORIGIN. -/
theorem test_map_invalidate :
    let m : MapUnit := { exampleMap with cache := [⟨⟨0, 256⟩, none⟩, ⟨⟨4, 500⟩, none⟩] }
    reply (after (.mapInvalidate h9 3 0 0 7) { mapped with smap := m }) = (0, 0, [2, 1]) := by decide +kernel
/-- R188, R189: a wrong length is refused BAD_PARAM with granularity NONE and count 0. -/
theorem test_map_invalidate_length :
    reply (after (.ciUnitArrival (requestPacket 8064 0 9 0x24 [1#8])) chained) = (2, 3, [0, 0]) := by decide +kernel
/-- R117: CI passes to CO at reset, so L1 may not. -/
theorem test_origin_setup : reply (after (.originSetup h9 1 ⟨1, 1#8, 2, true, 0#64⟩) State.reset) = (2, 7, []) ∧
    reply (after (.originSetup h9 1 ⟨1, 2#8, 2, true, 0#64⟩) State.reset) = (0, 0, []) := by decide +kernel
theorem test_origin_read : (reply (after (.originRead h9) State.reset)).2.2.take 4 = [0, 1, 2, 1] := by decide +kernel
theorem test_port_setup : reply (after (.portSetup h9 1 100 0 0 0) State.reset) = (1, 0, []) ∧
    ((after (.portSetup h9 1 100 0 0 0) State.reset).port 1).interval = 500 := by decide +kernel
/-- R146: the reply to a stop comes at the next slot event. -/
theorem test_port_stop :
    let s := after (.portStop h9 1) State.reset
    (s.port 1).pstate = .stopping ∧ (s.port 0).q0 = [] ∧ reply (after (.slotEvent 1) { s with time := 1080 }) = (0, 0, []) := by decide +kernel
/-- R147: an overtaken stop is answered BUSY, then the start DONE. -/
theorem test_port_start : ((after (.portStart h9 1) (after (.portStop ⟨8, none⟩ 1) State.reset)).port 0).q0.map
    (fun e => ((byteAt e.packet 6).toNat, (byteAt e.packet 8).toNat, (byteAt e.packet 9).toNat)) = [(8, 2, 1), (9, 0, 0)] := by decide +kernel
theorem test_port_flush : reply (after (.portFlush h9 1) (withF0 { f0 with pstate := .stopped, q1 := [queued 1 5], q2 := [queued 2 6] })) =
    (0, 0, [2]) ∧ reply (after (.portFlush h9 1) State.reset) = (2, 6, []) := by decide +kernel
theorem test_port_read : (reply (after (.portRead h9 1 false) State.reset)).2.2.take 7 = [0, 0, 4, 56, 0, 0, 0] := by decide +kernel
theorem test_monitor_setup : ((after (.monitorSetup h9 3 ⟨true, 1, 32, true, 200, 3#64, 1, 0, true, true⟩) State.reset).monitor 3).offset = 183 ∧
    reply (after (.monitorSetup h9 3 ⟨true, 5, 32, true, 4, 3#64, 1, 0, true, true⟩) State.reset) = (2, 3, []) := by decide +kernel
theorem test_monitor_arm : ((after (.monitorArm h9 7) State.reset).monitor 7).armed = true := by decide +kernel
theorem test_monitor_read : (reply (after (.monitorRead h9 0 3 false) State.reset)) = (2, 3, []) ∧
    (reply (after (.monitorRead h9 0 1 false) State.reset)).1 = 0 := by decide +kernel
theorem test_timer_setup : ((after (.timerSetup h9 0 ⟨0, 2, 500, ⟨0, 0⟩, ⟨0, 0⟩, ⟨0, 0⟩⟩) State.reset).timer 0).counter = 500 ∧
    reply (after (.timerSetup h9 0 ⟨4, 2, 500, ⟨0, 0⟩, ⟨0, 0⟩, ⟨0, 0⟩⟩) State.reset) = (2, 3, []) := by decide +kernel
theorem test_timer_start : ((after (.timerStart h9 0) (withTimer (timerOf .oneshot .stopped))).timer 0).counter = 9 := by decide +kernel
theorem test_timer_stop : ((after (.timerStop h9 0) (withTimer (timerOf .interval .running))).timer 0).run = .stopped := by decide +kernel
theorem test_timer_read : (reply (after (.timerRead h9 0 false) (withTimer (timerOf .count .running)))).2.2.take 13 =
    [1, 0, 0, 9, 0, 0, 0, 0, 0, 0, 2, 0, 4] := by decide +kernel
/-- R199: an enable joins a raised flag to the pending set. -/
theorem test_event_enable : (after (.eventEnable h9 3#51) { State.reset with ev := ⟨5#51, 0#51, 0#51, false⟩ }).ev.pending = 1#51 := by decide +kernel
theorem test_event_read : (reply (after (.eventRead h9) { State.reset with ev := ⟨256#51, 0#51, 0#51, false⟩ })).2.2.take 3 = [0, 1, 0] := by decide +kernel
/-- R202: a latched flag is cleared, a condition is left. -/
theorem test_event_clear : (after (.eventClear h9 0x8000000D#51) { State.reset with ev := ⟨5#51, 0#51, 0#51, false⟩, co := { State.reset.co with hold := .holding } }).ev.flags.getLsbD 31 = true ∧
    (after (.eventClear h9 4#51) { State.reset with ev := ⟨5#51, 0#51, 0#51, false⟩ }).ev.flags = 1#51 := by decide +kernel
theorem test_fault_read : reply (after (.faultRead h9) { State.reset with log := ⟨[⟨4, 8, 17, 2, 1, 258⟩], false⟩ }) =
    (0, 0, [1, 4, 8, 0, 17, 2, 0, 0, 0, 0, 0, 1, 0, 0, 0, 0, 1, 2, 0]) := by decide +kernel
theorem test_fault_clear : reply (after (.faultClear h9 false 1#8) { State.reset with log := ⟨[⟨4, 8, 17, 2, 1, 258⟩], true⟩ }) = (0, 0, [1]) ∧
    (after (.faultClear h9 false 1#8) { State.reset with log := ⟨[⟨4, 8, 17, 2, 1, 258⟩], true⟩ }).log = ⟨[], false⟩ := by decide +kernel

/-! ### Witnesses: a case that meets the hypotheses of each statement, clause by clause -/
/-- A state that fills every part the invariants speak of, with two commands waiting: L0 in LOCK and the pair of L2 and L3 in
FADE and SEARCH, owned and reserved pages, a written cell, an occupied map, cache and log, queued packets, an enabled and
pending event, a profile. -/
def rich : State :=
  { mapped with
    lanes := #v[{ laneIn .lock with profile := [⟨-3, 100, 0⟩, ⟨0, 4096, 0⟩, ⟨3, 4095, 255⟩] }, Lane.reset, laneIn .fade,
      laneIn .search]
    pairs := State.reset.pairs.set 1 Pair.fresh
    pool := { reservedPool with cells := [(5, ⟨1, 2, 3⟩), (2097151, ⟨0, 0, 1⟩)] }
    smap := { exampleMap with cache := [⟨⟨0, 256⟩, none⟩, ⟨⟨4, 500⟩, none⟩], staging := some ⟨1, 2, 0, []⟩ }
    ports := State.reset.ports.set 1 { f0 with q1 := List.replicate 96 (queued 1 5) }
    log := ⟨[⟨4, 8, 17, 255, 1, 258⟩, ⟨4, 9, 17, 1, 1, 258⟩], true⟩
    ev := ⟨5#51, 4#51, 4#51, false⟩, pending := [.tick 0#5, .linkUp 0] }

/-- L0 and L1 as given, in a formed pair as given. -/
def pairIn (c d : Lane) (x : Pair) : State :=
  { withLane c with
    lanes := ((withLane c).lanes.set 1 d), pairs := State.reset.pairs.set 0 { x with formed := true } }

/-- The pair's layout as `laneIn` holds it. -/
def pathLayout0 : PathLayout := ⟨7, ⟨7680, 0, 0, 1⟩⟩

/-- A lane of `laneIn` in LOCK at the end of its frame, its expected preamble next. -/
def atPreamble : Lane := { laneIn .lock with frame := ⟨16, 16, true, 0, 0, 0, false⟩ }

theorem candidate_laneIn (st : LaneState) : (laneIn st).candidate = some cand := rfl
theorem witness_StepTakesFrontCommand : State.reset.pending = [] := rfl
theorem witness_step_answers : ∃ t, step rich = .next t := ⟨_, rfl⟩
theorem witness_PoolRulesHold : cellsWf rich.pool.cells = true ∧ poolLaw rich.pool = true ∧ pairsOk rich = true ∧
    ownersOk rich = true ∧ rich.pool.owned 0 = 180 ∧ rich.pool.owned 2 = 400 := by decide +kernel
theorem witness_QueueEventAndFaultRulesHold : queuesOk rich = true ∧ pendingOk rich.ev = true ∧ logOk rich.log = true := by
  decide +kernel
theorem witness_MapRulesHold : mapOk rich.mgmt.id rich.smap = true := by decide +kernel
theorem witness_CacheAndOriginRulesHold : cacheOk rich.smap.cache = true ∧ originsOk rich.smap = true := by decide +kernel
theorem witness_ProfileRulesHold : profilesOk rich = true ∧ profileOk (rich.lane 0).profile = true ∧ profileOk [] = true := by
  decide +kernel

/-- The longest parameters: a MAP LOAD of 21 entries, 175 bytes; and a request passed on. -/
theorem witness_RequestPacketActsAsItsRow :
    let g : SegmentForm := ⟨255, true, false, 65535, 0, 21, List.replicate 21 ⟨4, 8190, 0, 2, true, 8190, 7#8⟩⟩
    let s : State := { chained with ci := ⟨true, 2⟩, co := { chained.co with hold := .paused } }
    let pkt := requestPacket s.mgmt.id 31 255 1 []
    (Instr.wf (.mapLoad ⟨255, none⟩ g) = true ∧ wireForm (.mapLoad ⟨255, none⟩ g) = some (⟨255, none⟩, 0x20, wireSegment g) ∧
      (wireSegment g).length ≤ 176 ∧ s.mgmt.addr < 31) ∧
    (Instr.wf (.ident ⟨255, some pkt⟩) = true ∧ wireForm (.ident ⟨255, some pkt⟩) = some (⟨255, some pkt⟩, 1, [])) ∧
    s.ci.up = true ∧ s.mgmt.id < 8192 := by decide +kernel
theorem witness_RelayedPacketGoesFirst : (wireForm (.laneStart h9 0)).isSome = true ∧ ∀ h, Instr.laneStart h9 0 ≠ .partReset h :=
  ⟨rfl, fun _ e => nomatch e⟩
/-- A request for another part, a reply, an errored one; class 0 with room and full; an unlisted code; a wrong length; a MAP
INVALIDATE and a MAP LOAD of wrong length, 6, 177 and one entry short; at its own address and at 31. -/
theorem witness_ManagementPacketsAreSorted :
    let full : State := { chained with ports := chained.ports.set 0 { chained.port 0 with q0 := List.replicate 8 (queued 0 5) } }
    let other := requestPacket 8064 30 9 1 []
    let taken : Packet → Prop := fun u => byteAt u 0 = 0x47#8 ∧ pktId u = chained.mgmt.id ∧ pktError u = false ∧ pktAdapt u = 1 ∧
      mgmtKind u = 1
    let load : Nat → List Byte → Packet := fun a ps => requestPacket 8064 a 9 0x20 ps
    let long := (load 0 []).set 11 177#8
    (byteAt other 0 = 0x47#8 ∧ pktId other = chained.mgmt.id ∧ mgmtAddr other ≠ 31 ∧ mgmtAddr other ≠ chained.mgmt.addr) ∧
    pktError (withError other) = true ∧ mgmtKind (ownPacket 8064 0 2 0 9 1 0 0 []) ≠ 1 ∧ pktAdapt (other.set 3 0x30#8) ≠ 1 ∧
    (chained.port portCO).q0.length < 8 ∧ 8 ≤ (full.port portCO).q0.length ∧ full.ci = ⟨true, 0⟩ ∧ full.co.hold ≠ .paused ∧
    (taken (requestPacket 8064 0 9 4 []) ∧ mgmtAddr (requestPacket 8064 0 9 4 []) = chained.mgmt.addr ∧
      mgmtCode (requestPacket 8064 0 9 4 []) ≠ 0x20 ∧ paramLength (mgmtCode (requestPacket 8064 0 9 4 [])) = none) ∧
    (taken (requestPacket 8064 31 9 1 [0#8]) ∧ mgmtAddr (requestPacket 8064 31 9 1 [0#8]) = 31 ∧
      paramLength 1 = some 0 ∧ mgmtLen (requestPacket 8064 31 9 1 [0#8]) ≠ 0) ∧
    (taken (requestPacket 8064 0 9 0x24 [1#8]) ∧ mgmtLen (requestPacket 8064 0 9 0x24 [1#8]) ≠ 5) ∧
    (taken (load 31 (List.replicate 6 0#8)) ∧ mgmtLen (load 31 (List.replicate 6 0#8)) < 7) ∧
    (taken long ∧ 176 < mgmtLen long) ∧
    (taken (load 0 (List.replicate 6 0#8 ++ [1#8])) ∧ mgmtLen (load 0 (List.replicate 6 0#8 ++ [1#8])) ≠
      7 + 8 * (byteAt (load 0 (List.replicate 6 0#8 ++ [1#8])) 18).toNat) := by decide +kernel
theorem witness_CiFraming : ((⟨false, 3⟩ : ChainIn).run + 1 < 5 ∧ 5 ≤ (⟨false, 4⟩ : ChainIn).run + 1) ∧
    ((⟨true, 1⟩ : ChainIn).run + 1 < 3 ∧ 3 ≤ (⟨true, 2⟩ : ChainIn).run + 1) ∧ byteAt nullPacket 0 = 0x47#8 ∧ byteAt [0x11#8] 0 ≠ 0x47#8 := by
  decide +kernel
/-- Packets for each test and each fate; L1 in DROP, CI in PASS, L0 in HASH with and without its flag, an origin in ALL. -/
theorem witness_MapHandlesArrival :
    let all : MapUnit := { exampleMap with origins := exampleMap.origins.set 1 ⟨.all, ⟨false, true, false⟩, 2, true, 0#64⟩ }
    (pktId (packetOfId 8064) = mapped.mgmt.id ∧ pktId (packetOfId 8191) = 8191 ∧ pktId (packetOfId 256) ≠ mapped.mgmt.id ∧
      pktId (packetOfId 256) ≠ 8191 ∧ pktError (erroredOfId 300) = true ∧ pktId (erroredOfId 300) ≠ 8191 ∧
      (originSetting exampleMap 0).forwardErrored = false ∧ pktError (packetOfId 256) = false) ∧
    ((packetOfId 256).length = 188 ∧ (originSetting all 1).mode = .all) ∧
    ((lookup exampleMap ⟨0, 256⟩).1.map (·.action) = some .route ∧ (lookup exampleMap ⟨0, 257⟩).1.map (·.action) = some .drop) ∧
    ((lookup exampleMap ⟨0, 1000⟩).1 = none ∧ (originSetting exampleMap 0).mode = .hash ∧
      (originSetting exampleMap 0).hash.getLsbD (hashFlag 1000) = true ∧ (lookup exampleMap ⟨0, 63⟩).1 = none ∧
      (originSetting exampleMap 0).hash.getLsbD (hashFlag 63) = false) ∧
    ((lookup exampleMap ⟨4, 500⟩).1 = none ∧ (originSetting exampleMap 4).mode = .pass) ∧
    ((lookup exampleMap ⟨1, 500⟩).1 = none ∧ (originSetting exampleMap 1).mode = .drop) ∧
    (decideFate (offer 0 (packetOfId 257) mapped).smap 0 (packetOfId 257)).1 = none ∧
    (decideFate (offer 0 (packetOfId 256) mapped).smap 0 (packetOfId 256)).1.isSome = true := by decide +kernel
/-- A key in the cache and one that is not; a slot held and empty; a port that is not named and one that is; a passed packet
whose id an entry gives to the port, and one whose id none does. -/
theorem witness_LookupAndClashTest :
    let passed : Nat → Copies := fun id => ⟨packetOfId id, ⟨false, true, false⟩, 1, false, true⟩
    (rich.smap.cache.find? (fun x => decide (x.key = ⟨4, 500⟩)) = some ⟨⟨4, 500⟩, none⟩ ∧
      rich.smap.cache.find? (fun x => decide (x.key = ⟨0, 257⟩)) = none ∧ rich.smap.slots[1023]? = some none ∧
      (rich.smap.slots[0]?.map (fun x => x.map (·.counter))) = some (some 0)) ∧
    (passed 1000).dests.has portCO = false ∧ (passed 1000).dests.has portF0 = true ∧ pktId (passed 8064).packet = mapped.mgmt.id ∧
    (mapped.smap.slots[2]?.map (fun x => x.map (fun y => (y.entry.route.action, y.entry.route.outId, y.entry.route.dests.has portF0)))) =
      some (some (.route, 1000, true)) ∧
    (mapped.smap.slots.all (fun x => match x with
      | none => true
      | some y => decide (y.entry.route.outId = 500 → y.entry.route.dests.has portF0 = false))) = true := by decide +kernel
/-- Class 0 with 7 and 8; the partition with 95 and 96, class 2 empty and not. -/
theorem witness_PortArrival :
    let q : Nat → Nat → Nat → Port := fun a b c =>
      { f0 with q0 := List.replicate a (queued 0 5), q1 := List.replicate b (queued 1 5), q2 := List.replicate c (queued 2 5) }
    (q 7 0 0).q0.length < 8 ∧ 8 ≤ (q 8 0 0).q0.length ∧ (q 0 95 0).q1.length + (q 0 95 0).q2.length < 96 ∧
    (96 ≤ (q 0 96 0).q1.length + (q 0 96 0).q2.length ∧ (q 0 96 0).q2 = []) ∧
    (96 ≤ (q 0 95 1).q1.length + (q 0 95 1).q2.length ∧ (q 0 95 1).q2 = [] ++ [queued 2 5]) := by decide +kernel
/-- Not due and due; a held CO; class 0; a stopping port with and without a stop to answer; heads on the management id before
a packet, and nothing behind them, the part's own among them; a restamp that is skipped behind such heads; the notice of this
part; a CO in each hold state below, at and above its marks. -/
theorem witness_SlotEvents :
    let at0 : Port → State := fun q => withF0 { q with nextSlot := 0 }
    let due : Port → Prop := fun q => (at0 q).time = ((at0 q).port 1).nextSlot
    let held : State := { State.reset with time := 675, co := ChainOut.reset true }
    let co : HoldState → Nat → Nat → State := fun hold n count => { State.reset with
      time := 675, ports := State.reset.ports.set 0 { State.reset.port 0 with q1 := List.replicate n (queued 1 5) }
      co := { State.reset.co with hold := hold, holdCount := count } }
    let notice := ownPacket 8064 0 3 0 0 0 0 0 [0#8]
    (State.reset.time ≠ (State.reset.port 1).nextSlot) ∧ due f0 ∧ f0.pstate = .running ∧ f0.q0 = [] ∧ f0.q1 = [] ∧ f0.q2 = [] ∧
    (held.time = (held.port portCO).nextSlot ∧ held.co.held = true) ∧ due { f0 with q0 := queued 0 5 :: [] } ∧
    (due { f0 with pstate := .stopping, pendingStop := some 8 } ∧ ({ f0 with pstate := .stopping, pendingStop := some 8 } : Port).q0 = []) ∧
    (due { f0 with q1 := [queued 1 8064] ++ queued 1 5 :: [queued 1 6] } ∧ pktId (queued 1 8064).packet = State.reset.mgmt.id ∧
      pktId (queued 1 5).packet ≠ State.reset.mgmt.id) ∧
    due { f0 with q1 := [queued 1 8064], q2 := [queued 2 8064] ++ queued 2 5 :: [] } ∧
    due { f0 with q1 := [queued 1 8064], q2 := [queued 2 8064] } ∧ (byteAt notice 4).toNat = 3 ∧
    ((co .holding 34 14).co.hold = .holding ∧ (co .holding 34 14).co.low < 34 - 1 ∧ (co .holding 34 14).time = ((co .holding 34 14).port 0).nextSlot) ∧
    (33 - 1 ≤ (co .holding 33 15).co.low ∧ (co .holding 33 15).co.limit ≤ 15 + 1 ∧ 14 + 1 < (co .holding 34 14).co.limit) ∧
    ((co .paused 34 16).co.hold = .paused ∧ (co .idle 64 0).co.hold = .idle ∧ 64 - 1 < (co .idle 64 0).co.high ∧
      (co .idle 65 0).co.high ≤ 65 - 1) ∧
    (let clocked := withClock ([0x47#8, 0#8, 5#8, 0x30#8, 7#8, 0x10#8] ++ List.replicate 182 0#8) 1 300
      let gone : Queued := { queued 1 8064 with own := true }
      let e : Queued := { queued 1 5 with packet := clocked, restamp := true }
      due { f0 with q1 := [gone] ++ e :: [] } ∧ pktId gone.packet = State.reset.mgmt.id ∧ pktId e.packet ≠ State.reset.mgmt.id ∧
      ((restamped 1 e State.reset).2.port 1).skipped = 1 ∧ gone.own = true ∧ (queued 1 8064).own = false) := by decide +kernel
/-- A packet that carries a clock reference: adaptation length 7, flag set; extensions 299 and 300. -/
theorem witness_Restamp :
    let clocked : Nat → Packet := fun x => withClock ([0x47#8, 0#8, 5#8, 0x30#8, 7#8, 0x10#8] ++ List.replicate 182 0#8) 1 x
    (clocked 299).length = 188 ∧ carriesClock (clocked 299) = true ∧ clockExt (clocked 299) < 300 ∧ carriesClock (clocked 300) = true ∧
      300 ≤ clockExt (clocked 300) ∧ carriesClock (packetOfId 5) = false ∧
      ({ State.reset with time := 281474976710655 } : State).time < 281474976710656 := by decide +kernel
theorem witness_ChainHold :
    let s : Nat → HoldState → State := fun n hold => { State.reset with
      ports := State.reset.ports.set 0 { State.reset.port 0 with q1 := List.replicate n (queued 1 5) }
      co := { State.reset.co with hold := hold } }
    let d : State → Nat := fun s => (s.port portCO).q1.length + (s.port portCO).q2.length
    ((s 64 .idle).co.high ≤ d (s 64 .idle) ∧ (s 64 .idle).co.hold = .idle) ∧ d (s 63 .idle) < (s 63 .idle).co.high ∧
    (d (s 32 .holding) ≤ (s 32 .holding).co.low ∧ (s 32 .holding).co.hold ≠ .idle) ∧ (s 33 .paused).co.low < d (s 33 .paused) := by decide +kernel
theorem witness_MonitorTakesPacket :
    let m : Monitor := ⟨true, 0, 5, false, 183, 0#64, .pattern, 0xFFFF, true, true, 0, false, none, 65535⟩
    let p := packetOfId 5
    (m.enabled = true ∧ m.armed = true ∧ pktId p = m.id ∧ pktError p = false ∧ m.startOnly = false ∧ m.offset < (payloadSpan p).2) ∧
    maskedCrc m p = m.expected ∧ maskedCrc m p ≠ { m with expected := 0 }.expected ∧ maskedCrc { m with kind := .change } p = 0xFFFF ∧
    ¬({ m with armed := false }.armed = true) := by decide +kernel
/-- First slots 0 and 1023; counts 0, 1, 12 and 13. -/
theorem witness_ReadsChangeNothing : 1023 ≤ 1023 ∧ 0 ≤ 1023 ∧ (0 < 1 ∧ ¬(1 < 1 ∨ 12 < 1) ∧ ¬(12 < 1 ∨ 12 < 12) ∧ 12 < 13) := by decide
/-- Counts 0, 1, 12 and 13; a slot held and an empty one; the last slot; part 2. -/
theorem witness_ClearingReads : mapped.smap.slots[3]? = some none ∧ (mapped.smap.slots[0]?.map (·.isSome)) = some true ∧
    1023 ≤ 1023 ∧ (0 < 1 ∧ ¬(1 < 1 ∨ 12 < 1) ∧ ¬(12 < 1 ∨ 12 < 12) ∧ 12 < 13) ∧ 2 ≤ 2 := by decide +kernel
theorem witness_LaneSetupAndMissingObjects : (4 ≤ 4 ∧ 2 ≤ 2 ∧ 5 ≤ 5 ∧ 3 ≤ 3 ∧ 8 ≤ 8 ∧ 1023 < 1024 ∧ 2 < 3) ∧
    ((lane0In .lock).lane 0).state ≠ .off ∧ (State.reset.lane 0).state = .off ∧
    setupOk (clampSetup ⟨15#4, 15#4, 2, 4, 8, 63, 500, 3, 280, 220, 160, 10, 8, 64, 2, 32, 4, 24⟩) = true ∧
    setupOk (clampSetup ⟨15#4, 15#4, 2, 4, 8, 64, 500, 3, 280, 220, 160, 10, 8, 64, 2, 32, 4, 24⟩) = false := by decide +kernel
/-- A pair formed of lanes that are OFF, and of lanes in LOCK and SEARCH; an even and an odd lane of none. -/
theorem witness_LaneStartAndStop :
    let offPair : State := { State.reset with pairs := State.reset.pairs.set 0 Pair.fresh }
    let onPair : State := { lane0In .lock with pairs := offPair.pairs, lanes := (lane0In .lock).lanes.set 1 (laneIn .search) }
    ((offPair.pairAt (pairOf 1)).formed = true ∧ (1 : LaneId).val % 2 = 1) ∧
    ((offPair.pairAt (pairOf 0)).formed = true ∧ (0 : LaneId).val % 2 = 0 ∧ (offPair.lane 0).state = .off) ∧
    ((onPair.pairAt (pairOf 0)).formed = true ∧ (onPair.lane 0).state ≠ .off) ∧
    ((State.reset.pairAt (pairOf 3)).formed = false ∧ (State.reset.lane 3).state = .off) ∧
    (((lane0In .lock).pairAt (pairOf 0)).formed = false ∧ ((lane0In .lock).lane 0).state ≠ .off) ∧
    ((rich.pairAt (pairOf 1)).formed = false ∧ (1 : LaneId).val % 2 = 1 ∧
      (({ rich with lanes := rich.lanes.set 1 (laneIn .lock) } : State).lane 1).state ≠ .off) := by decide +kernel
/-- Pairs of lanes that are OFF, formed and not; a pair in LOCK and FADE with either reference, a layout and a symbol that
waits; a pair whose lanes are both in SEARCH. -/
theorem witness_PairRequests :
    let x : WaitingSymbol := ⟨5, 2, [⟨1, 2, 3⟩], 0, false, false, 16, true⟩
    let on : RefLane → State := fun r => pairIn (laneIn .lock) (laneIn .fade)
      { Pair.fresh with ref := r, pstate := .dual, layout := some pathLayout0, waiting := [x] }
    let idle : State := { State.reset with pairs := State.reset.pairs.set 0 Pair.fresh }
    let lost := pairIn (laneIn .search) (laneIn .search) Pair.fresh
    ((on .primary).lane (primaryOf 0)).state ≠ .off ∧ ((idle.lane (primaryOf 0)).state = .off ∧
      (idle.lane (secondaryOf 0)).state = .off ∧ (idle.pairAt 0).formed = true) ∧ (State.reset.pairAt 0).formed = false ∧
    (((on .secondary).pairAt 0).formed = true ∧ ((on .secondary).lane (secondaryOf 0)).state ≠ .off ∧
      ((on .secondary).lane (primaryOf 0)).state = .lock ∧ ((on .secondary).pairAt 0).ref = .secondary ∧
      ((on .secondary).pairAt 0).pstate ≠ .none ∧ ((on .primary).pairAt 0).ref ≠ .secondary) ∧
    (((on .primary).pairAt 0).layout = some pathLayout0 ∧ ((on .primary).lane 0).layout = (laneIn .lock).layout ∧
      (laneIn .lock).layout.isSome = true ∧ (lost.pairAt 0).layout = none) ∧
    ((lost.pairAt 0).formed = true ∧ (lost.lane (primaryOf 0)).state ≠ .lock ∧ (lost.lane (primaryOf 0)).state ≠ .fade) := by
  decide +kernel
theorem witness_PoolAndDecoderSetup : (1024 < min 1024 1024 + min 1 1024 + 0 + 0 ∧
    (min 200 1024 + min 100 1024 + 0 + min 500 1024 ≤ 1024 ∧
      reservedPool.freeCount < (200 - reservedPool.owned 0) + (100 - reservedPool.owned 1) + (0 - reservedPool.owned 2) + (500 - reservedPool.owned 3)) ∧
    (200 - reservedPool.owned 0) + (100 - reservedPool.owned 1) + (0 - reservedPool.owned 2) + (324 - reservedPool.owned 3) ≤ reservedPool.freeCount) ∧
    ({ Decoder.reset with congested := true } : Decoder).congested = true ∧ Decoder.reset.congested = false := by decide +kernel
/-- A segment for each test: count 22, a missing entry, no first flag, a bad class, one taken, and four last ones. -/
theorem witness_MapLoadResult :
    let e : EntryForm := ⟨0, 256, 0, 1, true, 1256, 5#8⟩
    let g : Nat → List EntryForm → SegmentForm := fun total es => ⟨1, true, true, total, 0, es.length, es⟩
    let image : List EntryForm → List MapEntry := fun es => (entriesOf es).getD []
    21 < (22 : Nat) ∧ [e].length ≠ 2 ∧ sequenceTest none { g 1 [e] with first := false } = some 1 ∧
    (sequenceTest none (g 1 [e]) = none ∧ entriesOf [{ e with cls := 3 }] = none ∧ (image [e]).length = 1) ∧
    sequenceTest none { g 2 [e] with last := false } = none ∧
    (1024 < (1025 : Nat) ∧ sequenceTest (some ⟨1, 1025, 1024, []⟩) { g 1025 [e] with first := false, offset := 1024 } = none) ∧
    keysDistinct (image [e, e]) = false ∧
    (keysDistinct (image [{ e with outId := 8064 }]) = true ∧ imageConflicts 8064 (image [{ e with outId := 8064 }]) = true) ∧
    (keysDistinct (image [e]) = true ∧ imageConflicts 8064 (image [e]) = false) := by decide +kernel
/-- A load open and none; a bad form; a key held and one not; a full map; a conflict and none; origin 5 and id 8191. -/
theorem witness_MapEditResult :
    let e : EntryForm := ⟨1, 300, 0, 1, false, 300, 1#8⟩
    let filled : List (Option MapSlot) := List.replicate 1024 (exampleMap.slots.head?.getD none)
    ({ exampleMap with staging := some ⟨1, 2, 0, []⟩ } : MapUnit).staging ≠ none ∧ exampleMap.staging = none ∧
    (entryOf { e with cls := 0 } = none ∧ (entryOf e).isSome = true) ∧
    (findKey exampleMap.slots ⟨0, 257⟩).map (·.1) = some 1 ∧ findKey exampleMap.slots ⟨1, 300⟩ = none ∧
    firstEmptyFrom 0 filled = none ∧ firstEmptyFrom 0 exampleMap.slots = some 3 ∧ exampleMap.slots[3]? = some none ∧
    (entryOf e).map (entryConflicts exampleMap.slots none 8064) = some false ∧
    (entryOf { e with outId := 1256 }).map (entryConflicts exampleMap.slots none 8064) = some true ∧
    (entryOf { e with outId := 1256 }).map (entryConflicts exampleMap.slots (some 0) 8064) = some false ∧
    4 < (5 : Nat) ∧ 8190 < (8191 : Nat) := by decide +kernel
/-- Numbers at the ends of their ranges; a bad form of each kind; a port shared with CI, which passes to CO, and one not. -/
theorem witness_MapAbortInvalidateAndOriginSetup :
    (4 ≤ 4 ∧ 8190 ≤ 8190 ∧ 6 ≤ 6 ∧ 7 ≤ 7 ∧ 12 ≤ 12 ∧ 4 < 5 ∧ 8190 < 8191 ∧ 12 < 13) ∧
    (0#8 = 0#8 ∧ (8#8 &&& 0xF8#8) ≠ 0#8 ∧ 3 < (4 : Nat)) ∧
    ((originSetting State.reset.smap 4).mode ≠ .drop ∧ (⟨true, false, false⟩ : Dests).meets (originSetting State.reset.smap 4).dests = true) ∧
    (⟨false, true, false⟩ : Dests).meets (originSetting State.reset.smap 4).dests = false := by decide +kernel
theorem witness_PortRequests : 2 < 3 ∧ ((withF0 { f0 with pstate := .stopped }).port 1).pstate = .stopped ∧ (State.reset.port 1).pstate = .running ∧
    ((withF0 { f0 with pstate := .stopping, pendingStop := some 8 }).port 1).pendingStop = some 8 ∧
    ((withF0 { f0 with pstate := .stopping, pendingStop := some 8 }).port 1).pstate = .stopping ∧
    ((withF0 { f0 with pstate := .stopping }).port 1).pendingStop = none := by decide +kernel
theorem witness_MonitorRequests : 7 < 8 ∧ 4 < 5 ∧ 8190 < 8191 ∧ 1 < 2 ∧ 4 ≤ 4 ∧ 8190 ≤ 8190 ∧ 1 ≤ 1 := by decide
/-- Mode 4; a bad prescale; a running timer with another setting and with its own; a ring and none; each mode, STOPPED and not;
a SPAN whose condition holds and does not. -/
theorem witness_TimerRequests :
    let f : TimerForm := ⟨0, 3, 500, ⟨0, 0⟩, ⟨0, 0⟩, ⟨0, 0⟩⟩
    let running := withTimer (timerOf .interval .running)
    let ringed := withTimer { Timer.reset with setting := ⟨.count, 0, 1, ⟨0, 0⟩, ⟨7, 1⟩, ⟨0, 0⟩⟩ }
    let span := withTimer { timerOf .span .stopped with setting := ⟨.span, 0, 9, ⟨0, 0⟩, ⟨9, 0⟩, ⟨0, 0⟩⟩ }
    (3 < (4 : Nat) ∧ TimerMode.code .interval = f.mode ∧ timerFormOk 0 .interval { f with prescale := 4 } = false ∧
      timerFormOk 0 .interval f = true ∧
      { settingOf .interval f with reload := (running.timer 0).setting.reload } ≠ (running.timer 0).setting ∧
      { settingOf .interval { f with prescale := 0 } with reload := (running.timer 0).setting.reload } = (running.timer 0).setting ∧
      ((State.reset.timer 0).run = .stopped ∧ closesRing State.reset 0 (settingOf .interval f) = false) ∧
      closesRing ringed 1 ⟨.count, 0, 1, ⟨0, 0⟩, ⟨7, 0⟩, ⟨0, 0⟩⟩ = true) ∧
    ((withTimer (timerOf .interval .stopped)).timer 0).run = .stopped ∧ ((withTimer (timerOf .count .running)).timer 0).run ≠ .stopped ∧
    ((withTimer (timerOf .oneshot .waiting)).timer 0).setting.mode = .oneshot ∧ (span.timer 0).setting.mode = .span ∧
    spanCondition span (span.timer 0).setting.source = false ∧
    spanCondition { span with co := ChainOut.reset true } (span.timer 0).setting.source = true := by decide +kernel
/-- Counting timers at counters 0, 1 and 4, one short of its prescale and at it, and expiries that are due. -/
theorem witness_TimersCountTime :
    let m := timerOf .interval .running
    gateOpen (withTimer m) m.setting.gate = true ∧ prescaleTicks m.setting.prescale ≤ m.pre + 1 ∧ 0 < m.counter ∧
    ({ m with pre := 25, setting := { m.setting with prescale := 1 } } : Timer).pre + 1 < prescaleTicks 1 ∧ (prescaleTicks 1 ≤ 26 + 1) ∧
    (timerOf .oneshot .running).setting.mode = .oneshot ∧ ({ timerOf .oneshot .running with counter := 1 } : Timer).counter ≤ 1 ∧
    (timerOf .count .running).setting.mode = .count ∧ ({ timerOf .span .running with measuring := true } : Timer).measuring = true ∧
    ({ m with counter := 0, due := true } : Timer).due = true ∧
    ({ timerOf .oneshot .running with due := true } : Timer).setting.source.kind = 0 ∧ (⟨4, 0⟩ : KindIndex).kind ≠ 0 := by decide +kernel
theorem witness_OccurrencesAndActions :
    sourceOf ⟨3, 0⟩ = some (.cwDropped 0) ∧ sourceOf ⟨0, 0⟩ ≠ some (.cwDropped 0) ∧ 0 < (timerOf .count .running).counter ∧
    (timerOf .oneshot .waiting).run ≠ .stopped ∧ ((lane0In .fade).lane 0).state = .fade ∧ ((lane0In .search).lane 0).state ≠ .lock ∧
    spanCondition (lane0In .fade) ⟨8, 0⟩ = true ∧ spanCondition (lane0In .lock) ⟨8, 0⟩ = false ∧ (8 < 9 ∧ 9 ≤ 9) := by decide +kernel
/-- A command that leaves every timer STOPPED; a part at 31 and not; class 0 with room and full; a round with work left, one
with a notice that is due, and one with neither. -/
theorem witness_NoticeIsBuilt : (∃ t, exec (.linkUp 0) State.reset = .next t ∧ timersIdle t = true) ∧
    State.reset.mgmt.addr ≠ 31 ∧ (State.reset.port portCO).q0.length < 8 ∧ 8 ≤ (List.replicate 8 (queued 0 5)).length ∧
    (let due : State := { State.reset with ev := ⟨4#51, 4#51, 4#51, false⟩, mgmt := { State.reset.mgmt with notices := true } };
      noticeDue due = true ∧ (followAll due).work = [] ∧ noticeDue (followAll due) = true) ∧
    (followAll { State.reset with work := [.occ (.cwDropped 0)] }).work ≠ [] ∧
    ((followAll State.reset).work = [] ∧ noticeDue (followAll State.reset) = false) :=
  ⟨⟨after (.linkUp 0) State.reset, rfl, by decide +kernel⟩, by decide +kernel⟩
theorem witness_EventAndPartRequests : (0 < 51 ∧ 50 < 51) ∧ 8190 < 8191 ∧ 8190 ≤ 8190 ∧ idInUse mapped.smap.slots 1256 = true ∧
    idInUse mapped.smap.slots 1000 = true ∧ idInUse mapped.smap.slots 8190 = false := by decide +kernel
theorem witness_FaultLogResult :
    (∃ r ∈ rich.log.records, r.source = 4 ∧ r.reason = FaultReason.ciFramingLost.code) ∧
    (∀ r ∈ rich.log.records, ¬(r.source = 8 ∧ r.reason = FaultReason.idClash.code)) ∧ rich.log.records.length < 8 ∧
    8 ≤ (List.replicate 8 (⟨4, 8, 17, 2, 1, 258⟩ : FaultRecord)).length ∧
    (∀ r ∈ List.replicate 8 (⟨4, 8, 17, 2, 1, 258⟩ : FaultRecord), ¬(r.source = 8 ∧ r.reason = FaultReason.idClash.code)) := by decide +kernel
theorem witness_LinkEvents : State.reset.links[0] = false ∧ (lane0In .lock).links[0] = true ∧
    [LaneState.off, .search, .mode, .sync, .lock, .fade].map (fun st => ((lane0In st).lane 0).state) =
      [.off, .search, .mode, .sync, .lock, .fade] := by decide +kernel
/-- Before a boundary in MODE; a sample short of an attempt's end and the last; a full guard and block of equal samples, with
and without energy; one that ends a longer run of samples; none; the last sweep position. -/
theorem witness_SearchSamples :
    let st : Setup := { Setup.default with modeSet := 1#4, guardSet := 1#4, searchLength := 1 }
    let c : Lane := { laneIn .search with setup := st, attempt := 16383, samples := List.replicate 2111 ⟨1, 0⟩, sweepPos := 0 }
    c.state = .search ∧ (16382 + 1 < st.searchLength * 16384 ∧ st.searchLength * 16384 ≤ c.attempt + 1) ∧ 1 < (2 : Nat) ∧
    c.sweepPos * c.setup.sweepStep = 0 ∧
    (bestPeak st.modeSet st.guardSet (correctedSample c 1 0 :: c.samples).reverse).map (·.rho) = some 4095 ∧
    bestPeak st.modeSet st.guardSet [⟨1, 0⟩] = none ∧ nextSweep 2 (-2) = 0 ∧ nextSweep 2 0 ≠ 0 ∧
    (({ laneIn .mode with toGo := 2 } : Lane).state = .mode ∧ 1 < ({ laneIn .mode with toGo := 2 } : Lane).toGo) ∧
    (let run : Int → List CInt := fun v => List.replicate 2112 ⟨v, 0⟩
      let energy : List CInt → Int := fun x => (((x.take (guardLen .m1 .g32)).zip
        ((x.drop (sizeN .m1)).take (guardLen .m1 .g32))).map
          (fun z => z.1.re ^ 2 + z.1.im ^ 2 + z.2.re ^ 2 + z.2.im ^ 2)).sum
      energy (run 1) = 128 ∧ energy (run 0) = 0 ∧ guardCorrelation .m1 .g32 (run 1) = 4095 ∧
      (run 1).length = symbolLen .m1 .g32 ∧
      ({ c with samples := run 1 ++ [⟨9, 9⟩] } : Lane).samples.reverse = [⟨9, 9⟩] ++ run 1) := by decide +kernel
/-- MODE with a confirmation and a failure; SYNC with each outcome at 510 and 511, and at 1 and 2 failures; a sweep position
whose advance wraps and one whose does not. -/
theorem witness_ModeAndSyncSymbols :
    let c : Lane := { laneIn .mode with samples := List.replicate 2111 ⟨1, 0⟩, sweepPos := 0, confirm := 3 }
    ((lane0In .mode).links[0] = true ∧ c.toGo ≤ 1 ∧ c.candidate = some cand ∧
      c.setup.floorF ≤ confirmationRho { c with samples := correctedSample c 1 0 :: c.samples } cand ∧
      confirmationRho { c with samples := [⟨1, 0⟩] } cand < c.setup.floorF ∧ (2 + 1 < 4 ∧ 4 ≤ c.confirm + 1) ∧
      (510 + 1 < 512 ∧ 512 ≤ 511 + 1) ∧ (1 + 1 < 3 ∧ 3 ≤ 2 + 1) ∧ nextSweep c.setup.sweepSpan c.sweepPos ≠ 0 ∧
      nextSweep c.setup.sweepSpan (-c.setup.sweepSpan) = 0) ∧
    (preambleOutcome (laneIn .sync).candidate bare.preamble = .notFound ∧
      preambleOutcome (laneIn .sync).candidate badCrc.preamble = .crcFail ∧
      preambleOutcome (laneIn .sync).candidate badLayout.preamble = .invalid 2) :=
  ⟨by decide +kernel, rfl, outcome_badCrc, outcome_badLayout⟩
/-- The record names pipe 0 and no pipe 1; 8 pages are granted to a free pool and refused by a full one; a lane in no pair, and
a lane of a pair with a reference and without one; a record that fails each check, and a CRC that is not its own. -/
theorem witness_SyncTakesRecord :
    let s := lane0In .sync
    let two : RefLane → State := fun r => pairIn (laneIn .sync) (laneIn .lock) { Pair.fresh with ref := r }
    (s.links[0] = true ∧ (s.lane 0).toGo ≤ 1 ∧ (s.lane 0).state = .sync ∧ (s.lane 0).candidate = some cand ∧
      paired s 0 = false ∧ s.pool.owned 0 = 0 ∧ selectPipe 1 rec0 = none ∧ selectPipe (selectId s 0) rec0 = some ⟨⟨7680, 0, 0, 1⟩, 0⟩ ∧
      s.pool.grants 0 (pageNeed ⟨7680, 0, 0, 1⟩) = true ∧ 0 < (Pool.reset.grant 0 8).owned 0 ∧
      (⟨List.replicate 1024 (some 3), #v[0, 0, 0, 0], []⟩ : Pool).grants 0 (pageNeed ⟨7680, 0, 0, 1⟩) = false ∧
      (paired (two .none) 0 = true ∧ ((two .none).pairAt (pairOf 0)).ref = .none ∧ ((two .none).lane 0).candidate = some cand) ∧
      (paired (two .secondary) 0 = true ∧ ((two .secondary).pairAt (pairOf 0)).ref ≠ .none) ∧
      (let pipe : PipeRecord → FrameRecord := fun p => { rec0 with pipes := [p] };
        [{ rec0 with mode := .m3 }, { rec0 with d := 15 }, { rec0 with pipeCount := 0 }, pipe ⟨0, 4, 0, 7680, 1, 0⟩,
          pipe ⟨0, 0, 0, 7680, 0, 0⟩, pipe ⟨0, 0, 0, 7681, 1, 0⟩].map (failingCheck cand) =
            [some 1, some 2, some 3, some 4, some 5, some 6]) ∧
      rec0.pipes = [] ++ ⟨0, 0, 0, 7680, 1, 0⟩ :: []) ∧
    preambleOutcome (some cand) preamble.preamble = .valid rec0 ∧ preambleOutcome (some cand) badCrc.preamble = .crcFail ∧
    recordCrc rec0 + 1 ≠ recordCrc rec0 := ⟨by decide +kernel, outcome_preamble, outcome_badCrc, Nat.succ_ne_self _⟩
/-- Grants to a free pool, of a whole pool, and of the last page beside reservations; L0 in LOCK with its 8 pages and two cells
to write at the end of the frame; a lane of a pair, and a primary and a secondary of none. -/
theorem witness_PagesAreGrantedAndWritten :
    let s : State := { lane0In .lock with pool := Pool.reset.grant 0 8 }
    let g : PipeParams := ⟨7680, 0, 0, 1⟩
    (Pool.reset.grants 0 8 = true ∧ Pool.reset.grants 1 1024 = true ∧ reservedPool.grants 3 324 = true) ∧
    (cellsWf s.pool.cells = true ∧ (s.lane 0).group = some ⟨.a, 0, 0⟩ ∧ pathParams s 0 = some g ∧ 0 < g.depth ∧
      pageNeed g ≤ s.pool.owned 0 ∧ 0 < g.depth ∧ 7678 + [(⟨1, 2, 3⟩ : PoolCell), ⟨4, 5, 6⟩].length ≤ g.cells) ∧
    paired (pairIn (laneIn .lock) (laneIn .lock) Pair.fresh) 0 = true ∧ paired s 0 = false ∧ (0 : LaneId).val % 2 = 0 ∧
    paired s 1 = false ∧ (1 : LaneId).val % 2 = 1 := by decide +kernel
/-- L0 in LOCK, the loss run at 7, with a bare, a bursting and a preamble-bearing symbol; pilots with energy and without. -/
theorem witness_LockDataSymbol :
    let c : Lane := { laneIn .lock with lossRun := 7, quality := { Quality.cleared with noise := some 1 } }
    let s := withLane c
    s.links[0] = true ∧ (s.lane 0).toGo ≤ 1 ∧ (s.lane 0).state = .lock ∧ (s.lane 0).candidate = some cand ∧
    (s.lane 0).layout = some ⟨7, 3, 16, .p0, some ⟨⟨7680, 0, 0, 1⟩, 0⟩⟩ ∧ (s.lane 0).frame.pos < (s.lane 0).frame.d ∧ (s.lane 0).lossRun < 8 ∧
    (∀ n < 3, isBlanked c.quality.noise c.setup.impulseJ (pilotError c.quality.estimate (burstPilots n)) = true ∧
      ((burstPilots n).map (fun p => p.rx.re ^ 2 + p.rx.im ^ 2)).sum ≠ 0) ∧
    isBlanked c.quality.noise c.setup.impulseJ (pilotError c.quality.estimate (pilotsOf .m1 .p0 bare)) = false ∧
    pilotCorrelation c.quality.estimate (pilotsOf .m1 .p0 bare) < c.setup.floorF ∧ pilotsOf .m1 .p0 bare = [] := by decide +kernel
/-- The last data symbol of a frame, and one before it; a lane in no pair, a reference with a group and a record and without, a
partner, a lane of a pair with no reference; a loss run at 6 and 7. -/
theorem witness_DataSymbolReachesPath :
    let c : Nat → Lane := fun n => { laneIn .lock with frame := ⟨15, 16, true, 0, 0, 0, false⟩, lossRun := n }
    let torn : Lane := { laneIn .lock with frame := ⟨14, 16, false, 0, 0, 0, false⟩, group := none }
    let two : Lane → RefLane → State := fun d r => pairIn d (laneIn .lock) { Pair.fresh with ref := r, layout := some pathLayout0 }
    let b : State → State := fun s => beginLockSymbol 0 (s.setLane 0 { s.lane 0 with toGo := symbolLength (s.lane 0) })
    let ready : State → Prop := fun s => s.links[0] = true ∧ (s.lane 0).toGo ≤ 1 ∧ (s.lane 0).state = .lock ∧
      (s.lane 0).candidate = some cand ∧ (s.lane 0).layout.isSome = true ∧ (s.lane 0).frame.pos < (s.lane 0).frame.d
    ready (withLane (c 7)) ∧ ready (two (c 6) .primary) ∧ ready (two torn .secondary) ∧
    ((c 7).frame.pos + 1 = (c 7).frame.d ∧ (c 7).frame.valid = true ∧ paired (withLane (c 7)) 0 = false) ∧
    (paired (two (c 6) .primary) 0 = true ∧ ((two (c 6) .primary).pairAt 0).ref = refName 0 ∧
      ((b (two (c 6) .primary)).lane (pathOf (two (c 6) .primary) 0)).group.isSome = true) ∧
    (torn.frame.valid = false ∧ torn.frame.pos + 1 ≠ torn.frame.d ∧
      ((b (two torn .primary)).lane (pathOf (two torn .primary) 0)).group = none) ∧
    ((two torn .secondary).pairAt 0).ref = refName (partnerOf 0) ∧ ((two torn .none).pairAt 0).ref = .none ∧
    drivesPath (two (c 6) .primary) 0 = true ∧ drivesPath (two (c 6) .secondary) 0 = false ∧
    ((withLane (c 7)).pairAt (pairOf 0)).waiting = [] ∧
    pilotCorrelation (c 7).quality.estimate (pilotsOf .m1 .p0 bare) < (c 7).setup.floorF ∧ 6 + 1 < 8 ∧ 8 ≤ 7 + 1 := by decide +kernel
/-- The first and the second failure, INVALID and not, of a lane that drives its data path and of one that does not. -/
theorem witness_ExpectedPreambleFails :
    let s := withLane { atPreamble with preFail := 1 }
    let two := pairIn atPreamble (laneIn .lock) { Pair.fresh with ref := .secondary }
    (s.links[0] = true ∧ (s.lane 0).toGo ≤ 1 ∧ (s.lane 0).state = .lock ∧ (s.lane 0).candidate = some cand ∧
      (s.lane 0).layout.isSome = true ∧ (s.lane 0).frame.d ≤ (s.lane 0).frame.pos ∧ (0 + 1 < 2 ∧ 2 ≤ (s.lane 0).preFail + 1) ∧
      drivesPath s 0 = true ∧ drivesPath two 0 = false ∧ (two.lane 0).state = .lock) ∧
    (preambleOutcome (some cand) badLayout.preamble = .invalid 2 ∧ preambleOutcome (some cand) badCrc.preamble = .crcFail ∧
      preambleOutcome (some cand) bare.preamble = .notFound) := ⟨by decide +kernel, outcome_badLayout, outcome_badCrc, rfl⟩
/-- A record whose pipe is held and one whose is not; a lane in no pair, one without a reference, one that takes it from a
secondary, the reference, and a partner; a secondary whose primary is in FADE. -/
theorem witness_ExpectedRecordTaken :
    let s := withLane atPreamble
    let two : RefLane → State := fun r => pairIn atPreamble (laneIn .lock) { Pair.fresh with ref := r, layout := some pathLayout0 }
    let held : State → Option PipeParams := fun z => pathParams (beginLockSymbol 0 z) (pathOf z 0)
    (s.links[0] = true ∧ (s.lane 0).toGo ≤ 1 ∧ (s.lane 0).state = .lock ∧ (s.lane 0).candidate = some cand ∧
      (s.lane 0).frame.d ≤ (s.lane 0).frame.pos ∧ paired s 0 = false ∧ held s = some ⟨7680, 0, 0, 1⟩ ∧
      (selectPipe (selectId s 0) rec0).map (·.params) = some ⟨7680, 0, 0, 1⟩ ∧
      held (withLane { atPreamble with layout := some ⟨7, 3, 16, .p0, none⟩ }) = none ∧
      paired (two .none) 0 = true ∧ ((two .none).pairAt (pairOf 0)).ref = .none ∧
      ((two .secondary).pairAt 0).ref = .secondary ∧ ((two .primary).pairAt 0).ref = refName 0 ∧ held (two .primary) = some ⟨7680, 0, 0, 1⟩ ∧
      (((two .primary).pairAt 0).ref ≠ refName 1 ∧ (1 : LaneId).val % 2 = 1 ∧ ((two .primary).lane (partnerOf 1)).state = .lock ∧
        ((pairIn (laneIn .fade) atPreamble { Pair.fresh with ref := .primary }).lane (partnerOf 1)).state ≠ .lock)) ∧
    preambleOutcome (some cand) preamble.preamble = .valid rec0 := ⟨by decide +kernel, outcome_preamble⟩
/-- A record without the pipe; a path that shrinks, one whose growth is granted and one whose is refused; a lane of a pair whose
partner is in FADE and in SEARCH; pages kept and released. -/
theorem witness_LayoutChangeSettlesPages :
    let one : Pool := Pool.reset.grant 0 9
    let full : Pool := { reservedPool with pageMap := List.replicate 1024 (some 3) }
    selectPipe 1 rec0 = none ∧ selectPipe 0 rec0 = some ⟨⟨7680, 0, 0, 1⟩, 0⟩ ∧ pageNeed ⟨7680, 0, 0, 1⟩ = 8 ∧ 8 ≤ one.owned 0 ∧
    (Pool.reset.owned 0 < 8 ∧ Pool.reset.grants 0 (8 - Pool.reset.owned 0) = true) ∧ (full.owned 0 < 8 ∧ full.grants 0 (8 - full.owned 0) = false) ∧
    paired (pairIn (laneIn .lock) (laneIn .fade) Pair.fresh) 0 = true ∧
    ((pairIn (laneIn .lock) (laneIn .fade) Pair.fresh).lane (partnerOf 0)).state = .fade ∧
    ((pairIn (laneIn .lock) (laneIn .search) Pair.fresh).lane (partnerOf 0)).state = .search ∧ paired (lane0In .lock) 0 = false ∧
    (one.shrink 0 8).pageMap[7]? = some (some 0) ∧ one.pageMap[8]? = some (some 0) ∧ (one.shrink 0 8).pageMap[8]? = some none := by
  decide +kernel
/-- Each outcome in FADE; the good run at 3 and 4; the pipe held as the record gives it, and not; a lane in no pair, the
reference, a partner, and a lane of a pair with no reference. -/
theorem witness_FadeSymbols :
    let c : Lane := { laneIn .fade with goodRun := 4, quality := { Quality.cleared with noise := some 1 } }
    let s := withLane c
    let tuned : Nat → Quality := fun n =>
      { Quality.cleared with estimate := some (formEstimate (burstPilots n)), noise := some 1 }
    let two : RefLane → State := fun r => pairIn c (laneIn .fade) { Pair.fresh with ref := r, layout := some pathLayout0 }
    (s.links[0] = true ∧ (s.lane 0).toGo ≤ 1 ∧ (s.lane 0).state = .fade ∧ (s.lane 0).candidate = some cand ∧
      (∀ n < 3, isBlanked c.quality.noise c.setup.impulseJ (pilotError c.quality.estimate (burstPilots n)) = true) ∧
      (isBlanked c.quality.noise c.setup.impulseJ (pilotError c.quality.estimate (pilotsInForce c.candidate c.layout bare)) = false ∧
        pilotCorrelation c.quality.estimate (pilotsInForce c.candidate c.layout bare) < c.setup.floorF) ∧
      (∀ n < 3, isBlanked (tuned n).noise c.setup.impulseJ (pilotError (tuned n).estimate (burstPilots n)) = false ∧
        ¬(pilotCorrelation (tuned n).estimate (burstPilots n) < c.setup.floorF)) ∧
      c.layout.map (·.pattern) = some .p0 ∧ (3 < 4 ∧ 4 ≤ c.goodRun) ∧
      (paired s 0 = false ∧ pathParams s (pathOf s 0) = (selectPipe (selectId s 0) rec0).map (·.params) ∧
        pathParams (two .primary) (pathOf (two .primary) 0) = some ⟨7680, 0, 0, 1⟩ ∧
        pathParams (pairIn c c Pair.fresh) (pathOf (pairIn c c Pair.fresh) 0) = none) ∧
      (paired (two .none) 0 = true ∧ ((two .none).pairAt (pairOf 0)).ref = .none ∧ ((two .primary).pairAt 0).ref = refName 0 ∧
        ((two .secondary).pairAt 0).ref ≠ refName 0 ∧ ((two .secondary).pairAt 0).ref ≠ .none)) ∧
    (preambleOutcome (some cand) badCrc.preamble = .crcFail ∧ preambleOutcome (some cand) badLayout.preamble = .invalid 2 ∧
      preambleOutcome (some cand) preamble.preamble = .valid rec0 ∧ preambleOutcome (some cand) burst.preamble = .notFound) :=
  ⟨by decide +kernel, outcome_badCrc, outcome_badLayout, outcome_preamble, rfl⟩
/-- A deadline that stands and none; a single lane, a lane of a pair whose partner stays, as reference and not, and one whose
partner is in SEARCH. -/
theorem witness_HoldoffExpires :
    let s : State := withLane { laneIn .fade with deadline := some 100 }
    let two : LaneState → RefLane → State := fun st r => pairIn (laneIn .fade) (laneIn st) { Pair.fresh with ref := r }
    (s.lane 0).state = .fade ∧ (s.lane 0).deadline = some s.time ∧ ((lane0In .lock).lane 0).state ≠ .fade ∧ paired s 0 = false ∧
    (paired (two .lock .primary) 0 = true ∧ ((two .lock .primary).lane (partnerOf 0)).state = .lock ∧
      drivesPath (two .lock .primary) 0 = true ∧ drivesPath (two .fade .secondary) 0 = false ∧
      ((two .fade .secondary).lane (partnerOf 0)).state = .fade) ∧
    ((two .search .primary).lane (partnerOf 0)).state = .search := by decide +kernel
/-- Peaks offered to the earlier of two records equally near, to the nearer, and to none; two offered to one record, and a record
without one; a record smoothed up and down by a step and by 1, and one at its target. -/
theorem witness_EchoObservationAndMatch :
    activeCarriers .m1 ≤ (List.replicate 1728 (⟨⟨1, 0⟩, ⟨1, 0⟩⟩ : CarrierRx)).length ∧ cand.mode = .m1 ∧
    let profile : List Echo := [⟨0, 4000, 0⟩, ⟨4, 2400, 254⟩]
    offeredTo profile ⟨2, 5⟩ = some 0 ∧ offeredTo profile ⟨3, 5⟩ = some 1 ∧ offeredTo profile ⟨7, 5⟩ = none ∧
    observe 0 64 [5, 10, 10, 0] = [⟨1, 4096⟩] ∧ observe 0 64 [0, 0] = [] ∧
    (matchRecords profile [⟨1, 9⟩, ⟨2, 9⟩]).map (·.2) = [some ⟨1, 9⟩, none] ∧
    Int.tdiv ((4096 : Int) - 4000) 4 ≠ 0 ∧ Int.tdiv ((4001 : Int) - 4000) 4 = 0 ∧ Int.tdiv ((3999 : Int) - 4000) 4 = 0 := by
  decide +kernel
/-- Neighbours 2 and 3 apart; a peak 2 and 3 from a record; a list of 7 and of 8 records; a stronger peak and one as strong; a
record at its retire age; a strongest record away from 0. -/
theorem witness_EchoListStages :
    let line : Nat → List Echo := fun n => (List.range n).map (fun (k : Nat) => ⟨3 * (k : Int), 100 + k, 0⟩)
    ([] ++ (⟨0, 5, 1⟩ : Echo) :: ⟨2, 6, 0⟩ :: [⟨5, 1, 0⟩] = [⟨0, 5, 1⟩, ⟨2, 6, 0⟩, ⟨5, 1, 0⟩] ∧
      mergeStage 3 [⟨0, 5, 1⟩, ⟨2, 6, 0⟩, ⟨5, 1, 0⟩] = [⟨2, 6, 0⟩, ⟨5, 1, 0⟩]) ∧
    ((line 8).Pairwise (fun a b => a.delay < b.delay) ∧ (line 7).length < 8 ∧ 8 ≤ (line 8).length) ∧
    ((∃ e ∈ line 7, (e.delay - (20 : Int)).natAbs ≤ 2) ∧ ∀ e ∈ line 8, 2 < (e.delay - (24 : Int)).natAbs) ∧
    (insertPeak (line 8) ⟨24, 101⟩).length = 8 ∧ insertPeak (line 8) ⟨24, 100⟩ = line 8 ∧
    (retireStage 32 [⟨0, 5, 31⟩, ⟨3, 5, 32⟩] = [⟨0, 5, 31⟩]) ∧
    (∀ e ∈ line 3, e.power < 102 ∨ (e.power = 102 ∧ (6 : Int) ≤ e.delay)) ∧ (⟨6, 102, 0⟩ : Echo) ∈ line 3 := by decide +kernel
/-- A pilot's own carrier, one between two pilots, one before the first and one after the last; no pilots and one; an estimate
rising and falling by a step, by 1, and at its value; a gain of 0 and one that is not; cells inside a pipe, and erased ones. -/
theorem witness_CellsAreEqualized :
    let est : List PilotGain := [⟨3, ⟨2, 0⟩⟩, ⟨6, ⟨4, 0⟩⟩]
    est.Pairwise (fun a b => a.carrier < b.carrier) ∧ (∃ g ∈ est, g.carrier = 6) ∧ (3 < 4 ∧ 4 < 6) ∧ 2 < 3 ∧ 6 < 7 ∧
    gainAt (some est) 5 = ⟨10 / 3, 0⟩ ∧ (∀ n < 3, burstPilots n ≠ []) ∧ pilotsOf .m1 .p0 bare = [] ∧
    (Int.tdiv ((2300 : Int) - 2000) 16 ≠ 0 ∧ Int.tdiv ((2010 : Int) - 2000) 16 = 0 ∧ Int.tdiv ((1990 : Int) - 2000) 16 = 0 ∧ 1 ≤ 2000) ∧
    equalize 1 ⟨0, 0⟩ ⟨5, 5⟩ = ⟨0, 0, 0⟩ ∧ equalize 256 ⟨2, 0⟩ ⟨1, -1⟩ = ⟨512, -512, 4⟩ ∧
    (symbolCells 1152 2 2 ⟨⟨1920, 3, 0, 1⟩, 1000⟩ (some est) (some 256) false [⟨5, ⟨1, 0⟩⟩]).length = 1152 + 616 := by decide +kernel
/-- No symbol and one; E of 0, S of 0, neither; Q none and 250; each grade step. -/
theorem witness_QualityOfFrame :
    (⟨1, 16, true, 0, 0, 0, false⟩ : FramePos).merN = 0 ∧ (⟨1, 16, true, 5, 0, 1, false⟩ : FramePos).merE = 0 ∧
    (⟨1, 16, true, 0, 5, 1, false⟩ : FramePos).merS = 0 ∧ merOf 400 1 = 260 ∧ Int.tdiv (260 - 250) 4 ≠ 0 ∧ Int.tdiv (251 - 250) 4 = 0 ∧
    Int.tdiv (249 - 250) 4 = 0 ∧ gradeRank .poor < gradeRank .fair ∧ gradeAt 280 220 160 225 = .fair ∧ gradeAt 290 230 170 225 = .poor ∧
    gradeAt 290 230 170 230 = .fair := by decide +kernel
theorem witness_WindowPlacement :
    let profile : List Echo := [⟨0, 4000, 0⟩, ⟨200, 2400, 0⟩]
    profile ≠ [] ∧ (-683 < (-682 : Int) ∧ 2046 + (256 : Int) < 2303) ∧ 0 < metric 8192 256 profile 676 ∧ metric 8192 256 [⟨0, 1, 0⟩] 4352 ≤ 0 := by
  decide +kernel
/-- A symbol that waits and the partner's of its counter and index, and of another; cells of reliability 0 and not; a store of 2
and of 3; symbols decided and not, the last of a frame and not; a lane of a pair, a secondary and a primary of none. -/
theorem witness_SymbolsCombine :
    let x : WaitingSymbol := ⟨5, 1, [⟨3, 0, 1⟩, ⟨0, 0, 0⟩], 0, false, false, 16, true⟩
    let y : StoredSymbol := ⟨1, some 5, 1, [⟨4, -1, 1⟩, ⟨1, 1, 0⟩]⟩
    let s := pairIn (laneIn .lock) (laneIn .lock) { Pair.fresh with ref := .primary, layout := some pathLayout0, store := [y], waiting := [x] }
    (x.decided = false ∧ y.counter = some x.counter ∧ y.index = x.index ∧ { y with index := 2 }.index ≠ x.index ∧
      x.cells[0]? = some ⟨3, 0, 1⟩ ∧ y.cells[0]? = some ⟨4, -1, 1⟩ ∧ (x.cells[1]? = some ⟨0, 0, 0⟩ ∧ y.cells[1]? = some ⟨1, 1, 0⟩) ∧
      ([] : List PoolCell)[0]? = none) ∧
    (partnerFits s 0 1 = true ∧ (∃ z ∈ (s.pairAt 0).store, z.lane = 1 ∧ z.counter = some x.counter ∧ z.index = x.index) ∧
      partnerFits { s with lanes := s.lanes.set 1 { laneIn .lock with layout := none } } 0 1 = false) ∧
    ([y] ++ [y] = [] ++ [y, y] ∧ [y, y, y] ++ [y] = [y] ++ [y, y, y]) ∧
    ({ x with decided := true }.decided = true ∧ x.index ≠ x.d ∧ { x with index := 16 }.index = x.d) ∧
    paired s 0 = true ∧ paired State.reset 0 = false ∧ (0 : LaneId).val % 2 = 0 ∧ (1 : LaneId).val % 2 = 1 := by decide +kernel
/-- A data path whose parameters are the record's and one whose are not; an old frame complete with the counter that follows, and
neither; with a group and without. -/
theorem witness_ReferenceMoves :
    let two : Nat → Option Nat → Lane → State := fun last done c => pairIn c (laneIn .lock)
      { Pair.fresh with ref := .secondary, layout := some pathLayout0, lastFrame := last, doneFrame := done }
    let s := two 3 (some 3) (laneIn .lock)
    let d := decideAll 0 s
    paired s 0 = true ∧ ((s.pairAt 0).layout.map (·.params)) = (selectPipe (selectId s 0) rec0).map (·.params) ∧
    ((d.pairAt 0).doneFrame = some (d.pairAt 0).lastFrame ∧ rec0.counter = ((d.pairAt 0).lastFrame + 1) % 256 ∧
      (d.lane (primaryOf 0)).group.isSome = true) ∧
    ((decideAll 0 (two 3 none (laneIn .lock))).pairAt 0).doneFrame ≠ some 3 ∧
    rec0.counter ≠ (((decideAll 0 (two 4 (some 4) (laneIn .lock))).pairAt 0).lastFrame + 1) % 256 ∧
    ((decideAll 0 (two 3 (some 3) { laneIn .lock with group := none })).lane 0).group = none ∧
    ((pairIn (laneIn .lock) (laneIn .lock) Pair.fresh).pairAt 0).layout = none := by decide +kernel
/-- Contributions of half the frame and of one less, by either reference; a partner in LOCK at both ends that contributed to
none; a pair state that stays and one that changes; a pair with a lane in LOCK and with none. -/
theorem witness_DataPathCompletes :
    let x : WaitingSymbol := ⟨255, 16, [], 0, true, false, 16, true⟩
    let two : RefLane → Nat → State := fun r n => pairIn (laneIn .lock) (laneIn .lock) { Pair.fresh with ref := r, contrib := n }
    (x.d ≤ 2 * 8 ∧ 2 * 7 < x.d ∧ x.index = x.d ∧ x.counter < 256) ∧ ((two .primary 0).pairAt 0).ref ≠ .secondary ∧
    ((two .secondary 7).pairAt 0).ref = .secondary ∧
    (x.partnerLock = true ∧ ((two .primary 0).lane (secondaryOf 0)).state = .lock ∧ ((two .primary 0).pairAt 0).contrib = 0 ∧
      (((two .primary 0).lane (secondaryOf 0)).layout.map (·.lastFrame)) = some 3) ∧
    ((two .primary 0).pairAt 0).pstate = .none ∧ ((two .primary 0).pairAt 0).pstate ≠ .dual ∧
    (((pairIn (laneIn .fade) (laneIn .sync) Pair.fresh).pairAt 0).formed = true ∧
      ((pairIn (laneIn .fade) (laneIn .sync) Pair.fresh).lane (primaryOf 0)).state ≠ .lock ∧
      ((pairIn (laneIn .fade) (laneIn .sync) Pair.fresh).lane (secondaryOf 0)).state ≠ .lock) := by decide +kernel
theorem witness_GroupAccounting :
    let s := lane0In .lock
    (s.lane 0).group = some ⟨.a, 0, 0⟩ ∧ pathParams s 0 = some ⟨7680, 0, 0, 1⟩ ∧ 0 + 1 < 2 ∧ 1 ≤ 0 + 1 := by decide +kernel
/-- A codeword's cells and places within its lane's pipe; a busy decoder; an idle one with nothing ready; an idle one whose pointer is two lanes before the list. -/
theorem witness_DecoderTakes :
    let s : State := { State.reset with lanes := State.reset.lanes.set 2 { Lane.reset with ready := [⟨.a, 0, 0, 0⟩] } }
    ({ Decoder.reset with inflight := some word } : Decoder).inflight = some word ∧
    (State.reset.dec.inflight = none ∧ ∀ l, (State.reset.lane l).ready = []) ∧
    (s.dec.inflight = none ∧ (2 : LaneId).val = (s.dec.pointer.val + 2) % 4 ∧ (s.lane 0).ready = [] ∧ (s.lane 1).ready = [] ∧
      (s.lane 2).ready = ⟨.a, 0, 0, 0⟩ :: []) ∧
    (pathParams (lane0In .lock) 0 = some ⟨7680, 0, 0, 1⟩ ∧ 3 ≤ 3 ∧ 1919 < 15360 / 8 ∧ 7 < 8 ∧ 7679 < 15360 / 2 ∧ 1 < 2) := by decide +kernel
/-- Copies with and without a bit that is no erasure; a decode that fails; packets of it and their places; a time that is due
and one that is not; a codeword marked and not. -/
theorem witness_DecodeCompletes :
    let soft : Codeword := { word with soft := [⟨true, 5⟩, ⟨false, 0⟩] }
    let s : Nat → State := fun n => { State.reset with time := n, dec := { Decoder.reset with inflight := some word } }
    ((∃ b ∈ soft.soft, b.mag ≠ 0) ∧ 0 < 1 ∧ 1 < soft.soft.length) ∧ (∀ b ∈ word.soft, b.mag = 0) ∧ decodeEnd word = .failed ∧
    ((packetsOf word)[4]?.isSome = true ∧ (packetsOf word)[5]?.isSome = false ∧ 187 < 188) ∧
    (State.reset.dec.inflight = none ∧ (s 648).dec.inflight = some word ∧ iterationsRun word = 2 ∧
      (s 648).time = (word.takeTime + (108 + 270 * iterationsRun word)) % 281474976710656 ∧
      (s 647).time ≠ (word.takeTime + (108 + 270 * iterationsRun word)) % 281474976710656) ∧
    ({ word with marked := true } : Codeword).marked = true ∧ word.marked = false := by decide +kernel

end Sys2Proof.Tests
end

section
/-! SUPPORT. The timer bank at a tick and at an expiry (R166, R168, R170 to R172). -/

namespace Sys2Proof.Machine

/-! ### One timer at a tick -/

/-- One timer after a tick at which its gate and its SPAN condition stand as in `s` (R166). -/
def timerAfterTick (s : State) (tm : Timer) : Timer := if countsTime s tm then tm.takeTick else tm

theorem timerAfterTick_idle {s : State} {tm : Timer} (h : countsTime s tm = false) : timerAfterTick s tm = tm := by
  simp [timerAfterTick, h]

theorem timerAfterTick_counts {s : State} {tm : Timer} (h : countsTime s tm = true) :
    timerAfterTick s tm = tm.takeTick := by
  simp [timerAfterTick, h]

/-- Which timers count time (R168, R170, R171): never one of mode COUNT. -/
theorem countsTime_iff (s : State) (tm : Timer) : countsTime s tm = true ↔ tm.run = .running ∧
    ((tm.setting.mode = .interval ∧ gateOpen s tm.setting.gate = true) ∨ tm.setting.mode = .oneshot ∨
      (tm.setting.mode = .span ∧ tm.measuring = true)) := by
  cases hm : tm.setting.mode <;> simp [countsTime, hm]

/-- A tick that is not the last of its prescale is only gathered (R166). -/
theorem takeTick_gathers {tm : Timer} (h : tm.pre + 1 < prescaleTicks tm.setting.prescale) :
    tm.takeTick = { tm with pre := tm.pre + 1 } := by
  rw [Timer.takeTick, if_neg (Nat.not_le.mpr h)]

/-- The last tick of a prescale is a count (R166). -/
theorem takeTick_counts {tm : Timer} (h : prescaleTicks tm.setting.prescale ≤ tm.pre + 1) :
    tm.takeTick = { tm with pre := 0 }.takeCount := by
  rw [Timer.takeTick, if_pos h]

/-! What a count does in each mode. -/

theorem takeCount_interval_down {tm : Timer} (hm : tm.setting.mode = .interval) (h : 0 < tm.counter) :
    tm.takeCount = { tm with counter := tm.counter - 1 } := by
  simp [Timer.takeCount, hm, h]

theorem takeCount_interval_due {tm : Timer} (hm : tm.setting.mode = .interval) (h : tm.counter = 0) :
    tm.takeCount = { tm with due := true } := by
  simp [Timer.takeCount, hm, h]

theorem takeCount_oneshot_down {tm : Timer} (hm : tm.setting.mode = .oneshot) (h : 1 < tm.counter) :
    tm.takeCount = { tm with counter := tm.counter - 1 } := by
  simp [Timer.takeCount, hm, h]

theorem takeCount_oneshot_due {tm : Timer} (hm : tm.setting.mode = .oneshot) (h : tm.counter ≤ 1) :
    tm.takeCount = { tm with due := true } := by
  simp [Timer.takeCount, hm, Nat.not_lt.mpr h]

theorem takeCount_span {tm : Timer} (hm : tm.setting.mode = .span) :
    tm.takeCount = { tm with counter := min 65535 (tm.counter + 1) } := by
  simp [Timer.takeCount, hm]

/-! ### The bank at a tick -/

/-- What one timer's tick does to the bank: that timer takes it, the others stand (R166). -/
theorem timer_tickTimer (s : State) (t i : TimerId) :
    (tickTimer s t).timer i = if i = t then timerAfterTick s (s.timer t) else s.timer i := by
  unfold tickTimer timerAfterTick
  by_cases hi : i = t
  · subst hi
    split <;> simp
  · rw [if_neg hi]
    split
    · rw [timer_modTimer_ne _ _ _ _ hi]
    · rfl

/-- One timer's tick touches the timers alone. -/
theorem tickTimer_rest (s : State) (t : TimerId) : tickTimer s t = { s with timers := (tickTimer s t).timers } := by
  unfold tickTimer
  split <;> rfl

theorem timerAfterTick_tickTimer (s : State) (t : TimerId) (tm : Timer) :
    timerAfterTick (tickTimer s t) tm = timerAfterTick s tm := by
  rw [tickTimer_rest]
  rfl

/-- Several timers' ticks touch the timers alone. -/
theorem foldl_tickTimer_rest (l : List TimerId) (s : State) :
    l.foldl tickTimer s = { s with timers := (l.foldl tickTimer s).timers } := by
  induction l generalizing s with
  | nil => rfl
  | cons t l ih =>
    rw [List.foldl_cons, ih (tickTimer s t), tickTimer_rest s t]

/-- Where each of several timers ticks once, it does so as it stood at the first. -/
theorem timer_foldl_tickTimer {l : List TimerId} (hl : l.Nodup) (s : State) (i : TimerId) :
    (l.foldl tickTimer s).timer i = if i ∈ l then timerAfterTick s (s.timer i) else s.timer i := by
  induction l generalizing s with
  | nil => simp
  | cons t l ih =>
    obtain ⟨ht, hl⟩ := List.nodup_cons.mp hl
    rw [List.foldl_cons, ih hl, timerAfterTick_tickTimer, timer_tickTimer]
    by_cases hi : i = t
    · subst hi
      simp [ht]
    · simp [hi]

/-- Every timer takes a tick as the state before it stands (R166; log 30). -/
theorem timer_tickAll (straps : BitVec 5) (s : State) (i : TimerId) :
    (tickAll straps s).timer i = timerAfterTick s (s.timer i) := by
  have all : i ∈ allTimers := by revert i; decide
  unfold tickAll
  rw [timer_foldl_tickTimer (by decide), if_pos all]
  rfl

/-- Besides the timers a tick moves the clock and the straps alone (R1; log 8). -/
theorem tickAll_rest (straps : BitVec 5) (s : State) :
    tickAll straps s =
      { s with time := (s.time + 1) % 281474976710656, straps := straps, timers := (tickAll straps s).timers } :=
  foldl_tickTimer_rest allTimers _

/-! ### Expiry -/

theorem timerExpires_notDue {t : TimerId} {s : State} (h : (s.timer t).due = false) : timerExpires t s = s := by
  simp [timerExpires, h]

/-- A timer that is due expires: it takes its state after the expiry, TIMER_EXPIRY is raised, and the action and the
occurrence are to be handed on (R172). -/
theorem timerExpires_due {t : TimerId} {s : State} (h : (s.timer t).due = true) :
    timerExpires t s =
      (raise (43 + t.val) (s.setTimer t (s.timer t).afterExpiry)).addWork [.act t, .occ (.timerExpiry t)] := by
  rw [timerExpires, if_pos h]
  rfl

theorem afterExpiry_interval {tm : Timer} (hm : tm.setting.mode = .interval) :
    tm.afterExpiry = { tm with counter := tm.setting.reload, due := false } := by
  simp [Timer.afterExpiry, hm]

/-- A ONESHOT without a source stops. -/
theorem afterExpiry_oneshot_stops {tm : Timer} (hm : tm.setting.mode = .oneshot) (hk : tm.setting.source.kind = 0) :
    tm.afterExpiry = { tm with counter := 0, run := .stopped, due := false } := by
  simp [Timer.afterExpiry, hm, hk]

/-- A ONESHOT with a source waits for its next occurrence. -/
theorem afterExpiry_oneshot_waits {tm : Timer} (hm : tm.setting.mode = .oneshot) (hk : tm.setting.source.kind ≠ 0) :
    tm.afterExpiry = { tm with counter := 0, run := .waiting, due := false } := by
  simp [Timer.afterExpiry, hm, hk]

theorem exec_tick (straps : BitVec 5) (s : State) : exec (.tick straps) s = .next (afterEvent (tickAll straps s)) := rfl

theorem exec_timerExpiry (t : TimerId) (s : State) :
    exec (.timerExpiry t) s = .next (afterEvent (timerExpires t s)) := rfl

/-- Settles O33: a tick by what it does to each timer, an expiry by the mode of the timer that is due. -/
theorem timersCountTime : Obligations.TimersCountTime := by
  refine ⟨fun straps s => ⟨tickAll straps s, _, exec_tick straps s, happened _, tickAll_rest straps s, fun i => ?_⟩,
    fun i s => ⟨_, exec_timerExpiry i s, ?_, ?_, ?_, ?_⟩⟩
  · rw [timer_tickAll]
    refine ⟨fun idle => ?_, fun counting more => ?_, fun counting last => ?_⟩
    · exact timerAfterTick_idle (Bool.eq_false_iff.mpr (mt (countsTime_iff s _).mp idle))
    · rw [timerAfterTick_counts ((countsTime_iff s _).mpr counting), takeTick_gathers more]
    · rw [timerAfterTick_counts ((countsTime_iff s _).mpr counting), takeTick_counts last]
      exact ⟨fun hm hc => takeCount_interval_down hm hc, fun hm hc => takeCount_interval_due hm hc,
        fun hm hc => takeCount_oneshot_down hm hc, fun hm hc => takeCount_oneshot_due hm hc, fun hm => takeCount_span hm⟩
  · intro due
    rw [timerExpires_notDue due]
    exact happened s
  · intro due hm
    rw [timerExpires_due due, afterExpiry_interval hm]
    exact happened _
  · intro due hm hk
    rw [timerExpires_due due, afterExpiry_oneshot_stops hm hk]
    exact happened _
  · intro due hm hk
    rw [timerExpires_due due, afterExpiry_oneshot_waits hm hk]
    exact happened _

end Sys2Proof.Machine
end

section
/-! SUPPORT. What belongs to no block of the part: the clock, the level of the straps, and the queue of commands (R1, R185;
log 1). `State.outer` reads the three, and every work of a block leaves them: one lemma per function of the model, in the
model's order, each from the lemmas of what the function calls. `exec_outer` says it once for every command. -/

namespace Sys2Proof.Machine

/-- The clock, the straps and the queue. -/
def State.outer (s : State) : Nat × BitVec 5 × List Instr := (s.time, s.straps, s.pending)

/-- An update reads at its three fields, which the lemmas of the state's updates then simplify. -/
@[simp] theorem outer_mk (time : Nat) (links : Vector Bool 4) (straps : BitVec 5) (lanes : Vector Lane 4)
    (pairs : Vector Pair 2) (pool : Pool) (dec : Decoder) (smap : MapUnit) (ports : Vector Port 3) (co : ChainOut)
    (ci : ChainIn) (monitors : Vector Monitor 8) (timers : Vector Timer 8) (mgmt : Mgmt) (ev : EventUnit) (log : FaultLog)
    (work : List Work) (pending : List Instr) :
    State.outer ⟨time, links, straps, lanes, pairs, pool, dec, smap, ports, co, ci, monitors, timers, mgmt, ev, log, work,
      pending⟩ = (time, straps, pending) := rfl

@[simp] theorem outer_eta (s : State) : (s.time, s.straps, s.pending) = s.outer := rfl

@[simp] theorem outer_ite (c : Prop) [Decidable c] (s t : State) :
    (if c then s else t).outer = if c then s.outer else t.outer := apply_ite State.outer c s t

theorem outer_eq_iff {s t : State} :
    t.outer = s.outer ↔ t.time = s.time ∧ t.straps = s.straps ∧ t.pending = s.pending := by
  rw [State.outer, State.outer, Prod.mk.injEq, Prod.mk.injEq]

/-- The rest of an event leaves the three. -/
theorem Kept.outer {s t : State} (h : Kept s t) : t.outer = s.outer := outer_eq_iff.mpr ⟨h.time, h.straps, h.pending⟩

/-- Work on a data path leaves the three. -/
theorem PathKept.outer {s t : State} (h : PathKept s t) : t.outer = s.outer := by
  rw [h.rest]
  rfl

/-- Steps that leave the three compose over a list. -/
theorem outer_foldl {α : Type} (f : State → α → State) (h : ∀ s a, (f s a).outer = s.outer) (l : List α)
    (s : State) : (l.foldl f s).outer = s.outer := by
  induction l generalizing s with
  | nil => rfl
  | cons a l ih => rw [List.foldl_cons, ih, h]

/-! ### The state's updates -/

@[simp] theorem outer_setLane (s : State) (l : LaneId) (c : Lane) : (s.setLane l c).outer = s.outer := rfl
@[simp] theorem outer_modLane (s : State) (l : LaneId) (f : Lane → Lane) : (s.modLane l f).outer = s.outer := rfl
@[simp] theorem outer_setPair (s : State) (p : PairId) (c : Pair) : (s.setPair p c).outer = s.outer := rfl
@[simp] theorem outer_modPair (s : State) (p : PairId) (f : Pair → Pair) : (s.modPair p f).outer = s.outer := rfl
@[simp] theorem outer_setPort (s : State) (p : PortId) (c : Port) : (s.setPort p c).outer = s.outer := rfl
@[simp] theorem outer_modPort (s : State) (p : PortId) (f : Port → Port) : (s.modPort p f).outer = s.outer := rfl
@[simp] theorem outer_setMonitor (s : State) (m : MonitorId) (c : Monitor) : (s.setMonitor m c).outer = s.outer := rfl
@[simp] theorem outer_setTimer (s : State) (t : TimerId) (c : Timer) : (s.setTimer t c).outer = s.outer := rfl
@[simp] theorem outer_modTimer (s : State) (t : TimerId) (f : Timer → Timer) : (s.modTimer t f).outer = s.outer := rfl
@[simp] theorem outer_addWork (s : State) (ws : List Work) : (s.addWork ws).outer = s.outer := rfl
@[simp] theorem outer_raise (n : Nat) (s : State) : (raise n s).outer = s.outer := rfl
@[simp] theorem outer_setCondition (n : Nat) (b : Bool) (s : State) : (setCondition n b s).outer = s.outer := rfl

/-! ### Events, and the rest of one -/

@[simp] theorem outer_report (source : Nat) (reason : FaultReason) (info : Nat) (s : State) :
    (report source reason info s).outer = s.outer := (kept_report source reason info s).outer

@[simp] theorem outer_follow (s : State) : (follow s).outer = s.outer := (kept_follow s).outer

@[simp] theorem outer_afterEvent (s : State) : (afterEvent s).outer = s.outer := (afterEvent_kept s).outer

@[simp] theorem outer_sendReply (tag code : Nat) (r : Reply) (s : State) : (sendReply tag code r s).outer = s.outer :=
  (kept_sendReply tag code r s).outer

@[simp] theorem outer_forward (pkt : Packet) (s : State) : (forward pkt s).outer = s.outer := (kept_forward pkt s).outer

@[simp] theorem outer_relayFirst (h : ReqHdr) (s : State) : (relayFirst h s).outer = s.outer := (kept_relayFirst h s).outer

/-! ### Ports (Chapter 8) -/

@[simp] theorem outer_judgeHold (s : State) : (judgeHold s).outer = s.outer := rfl

@[simp] theorem outer_judgeHoldAt (p : PortId) (s : State) : (judgeHoldAt p s).outer = s.outer := by simp [judgeHoldAt]

@[simp] theorem outer_queueDrop (p : PortId) (cls : Nat) (own : Bool) (pkt : Packet) (s : State) :
    (queueDrop p cls own pkt s).outer = s.outer := by simp [queueDrop]

/-- A packet that arrives at a port joins a class or makes a drop (R138). -/
@[simp] theorem outer_portArrive (p : PortId) (cls : Nat) (restamp own : Bool) (pkt : Packet) (s : State) :
    (portArrive p cls restamp own pkt s).outer = s.outer := by
  unfold portArrive
  dsimp only
  split
  case h_1 => simp
  case h_2 =>
    split
    · simp
    · split <;> simp
  case h_3 => simp

@[simp] theorem outer_restamped (p : PortId) (e : Queued) (s : State) : (restamped p e s).2.outer = s.outer := by
  unfold restamped
  split
  · split <;> simp
  · rfl

@[simp] theorem outer_putWire (p : PortId) (w : Option Packet) (s : State) : (putWire p w s).outer = s.outer := rfl

@[simp] theorem outer_sendQueued (p : PortId) (e : Queued) (s : State) : (sendQueued p e s).outer = s.outer := by
  simp [sendQueued]

@[simp] theorem outer_sendClass2 (p : PortId) (q : List Queued) (s : State) : (sendClass2 p q s).outer = s.outer := by
  induction q generalizing s with
  | nil => rfl
  | cons e q ih => simp [sendClass2, ih]

@[simp] theorem outer_sendClass1 (p : PortId) (q : List Queued) (s : State) : (sendClass1 p q s).outer = s.outer := by
  induction q generalizing s with
  | nil => simp [sendClass1]
  | cons e q ih => simp [sendClass1, ih]

@[simp] theorem outer_slotSend (p : PortId) (s : State) : (slotSend p s).outer = s.outer := by
  unfold slotSend
  dsimp only
  split
  · simp
  · split <;> simp

@[simp] theorem outer_countHoldSlot (was : Bool) (s : State) : (countHoldSlot was s).outer = s.outer := by
  simp [countHoldSlot]

@[simp] theorem outer_slotEvent (p : PortId) (s : State) : (slotEvent p s).outer = s.outer := by
  unfold slotEvent
  dsimp only
  generalize (if (s.port p).pstate = .stopping then (s.port p).pendingStop else none) = stop
  cases stop <;> simp

/-! ### Monitors and the map (Chapters 9 and 7) -/

@[simp] theorem outer_offerTo (origin : Nat) (pkt : Packet) (s : State) (i : MonitorId) :
    (offerTo origin pkt s i).outer = s.outer := by simp [offerTo]

@[simp] theorem outer_offer (origin : Nat) (pkt : Packet) (s : State) : (offer origin pkt s).outer = s.outer :=
  outer_foldl _ (outer_offerTo origin pkt) _ _

@[simp] theorem outer_handCopy (c : Copies) (s : State) (p : PortId) : (handCopy c s p).outer = s.outer := by
  simp [handCopy]

@[simp] theorem outer_handCopies (c : Copies) (s : State) : (handCopies c s).outer = s.outer :=
  outer_foldl _ (outer_handCopy c) _ _

/-- An arrival is discarded, reported, or offered and handed over (R121 to R124). -/
@[simp] theorem outer_mapArrival (origin : Nat) (pkt : Packet) (s : State) : (mapArrival origin pkt s).outer = s.outer := by
  unfold mapArrival
  split
  · rfl
  · split
    · simp
    · split
      · rfl
      · dsimp only
        split <;> simp

/-! ### The decoder and the pool (Chapters 6 and 5) -/

@[simp] theorem outer_judgeCongestion (s : State) : (judgeCongestion s).outer = s.outer := rfl

@[simp] theorem outer_takeIfIdle (s : State) : (takeIfIdle s).outer = s.outer := (path_takeIfIdle s).outer

@[simp] theorem outer_emptyReady (p : LaneId) (counted : Bool) (s : State) : (emptyReady p counted s).outer = s.outer :=
  (kept_emptyReady p counted s).outer

@[simp] theorem outer_abandonGroup (p : LaneId) (s : State) : (abandonGroup p s).outer = s.outer :=
  (kept_abandonGroup p s).outer

@[simp] theorem outer_beginGroup (p : LaneId) (half : Half) (s : State) : (beginGroup p half s).outer = s.outer := rfl

@[simp] theorem outer_beginAgain (p : LaneId) (s : State) : (beginAgain p s).outer = s.outer := by simp [beginAgain]

@[simp] theorem outer_releasePath (p : LaneId) (counted : Bool) (s : State) : (releasePath p counted s).outer = s.outer :=
  (kept_releasePath p counted s).outer

@[simp] theorem outer_requestPages (p : LaneId) (n : Nat) (s : State) : (requestPages p n s).2.outer = s.outer := by
  unfold requestPages
  split <;> rfl

@[simp] theorem outer_settlePages (p : LaneId) (need : Nat) (s : State) : (settlePages p need s).2.outer = s.outer := by
  unfold settlePages
  dsimp only
  split
  · rfl
  · split <;> simp

@[simp] theorem outer_frameAccounting (p : LaneId) (s : State) : (frameAccounting p s).outer = s.outer :=
  (path_frameAccounting p s).outer

/-! ### Data paths (4.3) -/

@[simp] theorem outer_setPairState (p : PairId) (v : PairState) (s : State) : (setPairState p v s).outer = s.outer :=
  (path_setPairState p v s).outer

@[simp] theorem outer_abandonIfDriving (l : LaneId) (s : State) : (abandonIfDriving l s).outer = s.outer := by
  simp [abandonIfDriving]

@[simp] theorem outer_dropRef (l : LaneId) (s : State) : (dropRef l s).outer = s.outer := (kept_dropRef l s).outer

@[simp] theorem outer_departPath (l : LaneId) (s : State) : (departPath l s).outer = s.outer := (kept_departPath l s).outer

@[simp] theorem outer_releaseToSearch (l : LaneId) (s : State) : (releaseToSearch l s).outer = s.outer := by
  simp [releaseToSearch]

@[simp] theorem outer_enterFade (l : LaneId) (r : Reason) (s : State) : (enterFade l r s).outer = s.outer := by
  simp [enterFade]

@[simp] theorem outer_setPathLayout (l : LaneId) (r : FrameRecord) (s : State) :
    (setPathLayout l r s).outer = s.outer := by simp [setPathLayout]

@[simp] theorem outer_pathToSync (l : LaneId) (reason : Reason) (s : State) : (pathToSync l reason s).outer = s.outer := by
  simp [pathToSync]

/-- A layout change goes to SYNC, or settles the pages and begins a group or goes to SYNC (R34). -/
@[simp] theorem outer_layoutChange (l : LaneId) (r : FrameRecord) (s : State) : (layoutChange l r s).outer = s.outer := by
  unfold layoutChange
  dsimp only
  split <;> simp

@[simp] theorem outer_decideAll (p : PairId) (s : State) : (decideAll p s).outer = s.outer := (path_decideAll p s).outer

/-! ### Lanes (Chapter 2) -/

@[simp] theorem outer_advanceSweep (l : LaneId) (s : State) : (advanceSweep l s).outer = s.outer := by simp [advanceSweep]

@[simp] theorem outer_enterMode (l : LaneId) (k : Candidate) (s : State) : (enterMode l k s).outer = s.outer := rfl

@[simp] theorem outer_endAttempt (l : LaneId) (s : State) : (endAttempt l s).outer = s.outer := by
  unfold endAttempt
  dsimp only
  split <;> simp

@[simp] theorem outer_modeSymbol (l : LaneId) (s : State) : (modeSymbol l s).outer = s.outer := by
  unfold modeSymbol
  dsimp only
  split <;> simp

@[simp] theorem outer_lockIn (l : LaneId) (fromSync : Bool) (r : FrameRecord) (pilots : List PilotRx) (s : State) :
    (lockIn l fromSync r pilots s).outer = s.outer := by simp [lockIn]

@[simp] theorem outer_takeReference (l : LaneId) (granted : Bool) (r : FrameRecord) (s : State) :
    (takeReference l granted r s).outer = s.outer := by simp [takeReference]

@[simp] theorem outer_switchReference (l : LaneId) (r : FrameRecord) (s : State) :
    (switchReference l r s).outer = s.outer := by simp [switchReference]

@[simp] theorem outer_pathAtEntry (l : LaneId) (granted : Bool) (r : FrameRecord) (s : State) :
    (pathAtEntry l granted r s).outer = s.outer := by simp [pathAtEntry]

@[simp] theorem outer_lockFromSync (l : LaneId) (granted : Bool) (r : FrameRecord) (pilots : List PilotRx) (s : State) :
    (lockFromSync l granted r pilots s).outer = s.outer := by simp [lockFromSync]

@[simp] theorem outer_checkLayout (l : LaneId) (cur : Option PipeParams) (r : FrameRecord) (s : State) :
    (checkLayout l cur r s).outer = s.outer := by simp [checkLayout]

@[simp] theorem outer_recover (l : LaneId) (r : FrameRecord) (s : State) : (recover l r s).outer = s.outer := by
  simp [recover]

/-- A VALID record in SYNC locks, with pages or with a grant, or leaves a reason (R28). -/
@[simp] theorem outer_syncValid (l : LaneId) (r : FrameRecord) (pilots : List PilotRx) (s : State) :
    (syncValid l r pilots s).outer = s.outer := by
  unfold syncValid
  split <;> simp

@[simp] theorem outer_syncFailure (l : LaneId) (s : State) : (syncFailure l s).outer = s.outer := by simp [syncFailure]

@[simp] theorem outer_syncSymbol (l : LaneId) (x : SymbolRx) (s : State) : (syncSymbol l x s).outer = s.outer := by
  unfold syncSymbol
  split <;> simp

@[simp] theorem outer_countBlanked (l : LaneId) (s : State) : (countBlanked l s).outer = s.outer := rfl

@[simp] theorem outer_deliverCells (l : LaneId) (y : Layout) (idx : Nat) (cells : List PoolCell) (s : State) :
    (deliverCells l y idx cells s).outer = s.outer := (path_deliverCells l y idx cells s).outer

@[simp] theorem outer_completeFrame (l : LaneId) (s : State) : (completeFrame l s).outer = s.outer := by
  simp [completeFrame]

@[simp] theorem outer_dataSymbol (l : LaneId) (k : Candidate) (y : Layout) (x : SymbolRx) (s : State) :
    (dataSymbol l k y x s).outer = s.outer := by simp [dataSymbol]

@[simp] theorem outer_drivingPreamble (l : LaneId) (last : Nat) (held : Option PipeParams) (r : FrameRecord) (s : State) :
    (drivingPreamble l last held r s).outer = s.outer := by simp [drivingPreamble]

@[simp] theorem outer_validExpected (l : LaneId) (y : Layout) (r : FrameRecord) (s : State) :
    (validExpected l y r s).outer = s.outer := by simp [validExpected]

@[simp] theorem outer_failedExpected (l : LaneId) (y : Layout) (wasInvalid : Bool) (s : State) :
    (failedExpected l y wasInvalid s).outer = s.outer := by simp [failedExpected]

@[simp] theorem outer_expectedPreamble (l : LaneId) (y : Layout) (x : SymbolRx) (s : State) :
    (expectedPreamble l y x s).outer = s.outer := by
  unfold expectedPreamble
  split <;> simp

@[simp] theorem outer_beginLockSymbol (l : LaneId) (s : State) : (beginLockSymbol l s).outer = s.outer :=
  (path_beginLockSymbol l s).outer

@[simp] theorem outer_lockSymbol (l : LaneId) (x : SymbolRx) (s : State) : (lockSymbol l x s).outer = s.outer := by
  unfold lockSymbol
  dsimp only
  split <;> simp

@[simp] theorem outer_fadeSymbol (l : LaneId) (x : SymbolRx) (s : State) : (fadeSymbol l x s).outer = s.outer := by
  unfold fadeSymbol
  dsimp only
  split <;> simp

/-- A symbol event is the work of the lane's state (R5). -/
@[simp] theorem outer_symbolEvent (l : LaneId) (x : SymbolRx) (s : State) : (symbolEvent l x s).outer = s.outer := by
  unfold symbolEvent
  split <;> simp

@[simp] theorem outer_countSample (l : LaneId) (x : SymbolRx) (s : State) : (countSample l x s).outer = s.outer := by
  simp [countSample]

@[simp] theorem outer_takeSample (l : LaneId) (i q : Int) (x : SymbolRx) (s : State) :
    (takeSample l i q x s).outer = s.outer := by
  unfold takeSample
  dsimp only
  split
  · rfl
  · split <;> simp

@[simp] theorem outer_laneLinkDown (l : LaneId) (s : State) : (laneLinkDown l s).outer = s.outer := by
  unfold laneLinkDown
  dsimp only
  split <;> simp

@[simp] theorem outer_linkLost (l : LaneId) (s : State) : (linkLost l s).outer = s.outer := by simp [linkLost]

@[simp] theorem outer_linkFound (l : LaneId) (s : State) : (linkFound l s).outer = s.outer := rfl

@[simp] theorem outer_holdoffExpires (l : LaneId) (s : State) : (holdoffExpires l s).outer = s.outer := by
  simp [holdoffExpires]

/-! ### The events with a due time -/

@[simp] theorem outer_timerExpires (t : TimerId) (s : State) : (timerExpires t s).outer = s.outer := by
  simp [timerExpires, expire]

@[simp] theorem outer_nextTake (s : State) : (nextTake s).outer = s.outer := by simp [nextTake]

@[simp] theorem outer_countCompletion (cw : Codeword) (s : State) : (countCompletion cw s).outer = s.outer := by
  have packets := outer_foldl (fun s p => mapArrival cw.owner.val p s) (fun s p => outer_mapArrival _ p s) (packetsOf cw) s
  simp [countCompletion, packets]

@[simp] theorem outer_decodeCompletes (s : State) : (decodeCompletes s).outer = s.outer := by
  unfold decodeCompletes
  split <;> simp

@[simp] theorem outer_slotWhenDue (p : PortId) (s : State) : (slotWhenDue p s).outer = s.outer := by simp [slotWhenDue]

/-! ### Judging requests -/

@[simp] theorem outer_fst_ite (c : Prop) [Decidable c] (x y : State × Answer) :
    (if c then x else y).1.outer = if c then x.1.outer else y.1.outer :=
  apply_ite (fun z : State × Answer => z.1.outer) c x y

@[simp] theorem outer_doIdent (s : State) : (doIdent s).1.outer = s.outer := rfl

@[simp] theorem outer_doPartSetup (id : Nat) (notices : Bool) (s : State) :
    (doPartSetup id notices s).1.outer = s.outer := by
  simp [doPartSetup]

@[simp] theorem outer_doLaneSetup (lane : Nat) (f : SetupForm) (s : State) : (doLaneSetup lane f s).1.outer = s.outer := by
  unfold doLaneSetup
  split <;> simp

@[simp] theorem outer_doLaneStart (lane : Nat) (s : State) : (doLaneStart lane s).1.outer = s.outer := by
  unfold doLaneStart
  split <;> simp

@[simp] theorem outer_markCodeword (l : LaneId) (s : State) : (markCodeword l s).outer = s.outer := by
  unfold markCodeword
  split <;> simp

@[simp] theorem outer_stopLane (l : LaneId) (s : State) : (stopLane l s).outer = s.outer := by simp [stopLane]

@[simp] theorem outer_doLaneStop (lane : Nat) (s : State) : (doLaneStop lane s).1.outer = s.outer := by
  unfold doLaneStop
  split <;> simp

@[simp] theorem outer_doLaneRead (lane : Nat) (clear : Bool) (s : State) : (doLaneRead lane clear s).1.outer = s.outer := by
  unfold doLaneRead
  split <;> simp

@[simp] theorem outer_doProfileRead (lane : Nat) (s : State) : (doProfileRead lane s).1.outer = s.outer := by
  unfold doProfileRead
  split <;> rfl

@[simp] theorem outer_doPair (p : Nat) (s : State) : (doPair p s).1.outer = s.outer := by
  unfold doPair
  split <;> simp

/-- The path of a pair that is dissolved stays with its primary or is released (R72). -/
@[simp] theorem outer_unpairPath (p : PairId) (s : State) : (unpairPath p s).outer = s.outer := by
  unfold unpairPath
  dsimp only
  split
  · cases (s.pairAt p).layout with
    | none => simp
    | some z =>
      dsimp only
      split <;> simp
  · simp

@[simp] theorem outer_unpairNow (p : PairId) (s : State) : (unpairNow p s).outer = s.outer := by simp [unpairNow]

@[simp] theorem outer_doUnpair (p : Nat) (s : State) : (doUnpair p s).1.outer = s.outer := by
  unfold doUnpair
  split <;> simp

@[simp] theorem outer_doPoolSetup (r0 r1 r2 r3 : Nat) (s : State) : (doPoolSetup r0 r1 r2 r3 s).1.outer = s.outer := by
  simp [doPoolSetup]

@[simp] theorem outer_doPoolRead (start : Nat) (s : State) : (doPoolRead start s).1.outer = s.outer := by simp [doPoolRead]

@[simp] theorem outer_doDecoderSetup (high low : Nat) (s : State) : (doDecoderSetup high low s).1.outer = s.outer := rfl

@[simp] theorem outer_doDecoderRead (clear : Bool) (s : State) : (doDecoderRead clear s).1.outer = s.outer := by
  simp [doDecoderRead]

@[simp] theorem outer_failLoad (code : Nat) (r : RefuseReason) (s : State) : (failLoad code r s).1.outer = s.outer := by
  simp [failLoad]

@[simp] theorem outer_finishLoad (total : Nat) (es : List MapEntry) (s : State) :
    (finishLoad total es s).1.outer = s.outer := by simp [finishLoad]

/-- A segment fails, is staged, or ends its load (R131 to R134). -/
@[simp] theorem outer_doMapLoad (g : SegmentForm) (s : State) : (doMapLoad g s).1.outer = s.outer := by
  unfold doMapLoad
  split
  · simp
  · split
    · simp
    · split <;> simp

@[simp] theorem outer_doMapAbort (s : State) : (doMapAbort s).1.outer = s.outer := rfl

@[simp] theorem outer_doMapEditAdd (f : EntryForm) (s : State) : (doMapEditAdd f s).1.outer = s.outer := by
  unfold doMapEditAdd
  dsimp only
  split
  · rfl
  · split
    · rfl
    · split
      · rfl
      · split <;> simp

@[simp] theorem outer_doMapEditReplace (f : EntryForm) (s : State) : (doMapEditReplace f s).1.outer = s.outer := by
  unfold doMapEditReplace
  split
  · rfl
  · split <;> simp

@[simp] theorem outer_doMapEditRemove (f : EntryForm) (s : State) : (doMapEditRemove f s).1.outer = s.outer := by
  unfold doMapEditRemove
  split <;> rfl

@[simp] theorem outer_doMapEditUnknown (s : State) : (doMapEditUnknown s).1.outer = s.outer := rfl

@[simp] theorem outer_doMapRead (first count : Nat) (clear : Bool) (s : State) :
    (doMapRead first count clear s).1.outer = s.outer := by simp [doMapRead]

@[simp] theorem outer_doMapInvalidate (granularity origin id m : Nat) (s : State) :
    (doMapInvalidate granularity origin id m s).1.outer = s.outer := by
  unfold doMapInvalidate
  split <;> rfl

@[simp] theorem outer_doOriginSetup (origin : Nat) (f : OriginForm) (s : State) :
    (doOriginSetup origin f s).1.outer = s.outer := by
  unfold doOriginSetup
  split
  · split <;> simp
  · rfl

@[simp] theorem outer_doOriginRead (s : State) : (doOriginRead s).1.outer = s.outer := rfl

@[simp] theorem outer_doPortSetup (port interval high low limit : Nat) (s : State) :
    (doPortSetup port interval high low limit s).1.outer = s.outer := by
  unfold doPortSetup
  split <;> simp

@[simp] theorem outer_doPortStop (port tag : Nat) (s : State) : (doPortStop port tag s).1.outer = s.outer := by
  unfold doPortStop
  split
  · rfl
  · split <;> rfl

@[simp] theorem outer_answerOvertaken (stop : Option Nat) (s : State) : (answerOvertaken stop s).outer = s.outer := by
  cases stop <;> simp [answerOvertaken]

@[simp] theorem outer_doPortStart (port : Nat) (s : State) : (doPortStart port s).1.outer = s.outer := by
  unfold doPortStart
  split
  · rfl
  · split <;> simp

@[simp] theorem outer_doPortFlush (port : Nat) (s : State) : (doPortFlush port s).1.outer = s.outer := by
  unfold doPortFlush
  split <;> simp

@[simp] theorem outer_doPortRead (port : Nat) (clear : Bool) (s : State) : (doPortRead port clear s).1.outer = s.outer := by
  unfold doPortRead
  split <;> simp [clearPortCounts]

@[simp] theorem outer_doMonitorSetup (monitor : Nat) (f : MonitorForm) (s : State) :
    (doMonitorSetup monitor f s).1.outer = s.outer := by
  unfold doMonitorSetup
  split
  · rfl
  · split <;> simp

@[simp] theorem outer_doMonitorArm (monitor : Nat) (s : State) : (doMonitorArm monitor s).1.outer = s.outer := by
  unfold doMonitorArm
  split <;> rfl

@[simp] theorem outer_doMonitorRead (monitor part : Nat) (clear : Bool) (s : State) :
    (doMonitorRead monitor part clear s).1.outer = s.outer := by
  unfold doMonitorRead
  dsimp only
  split
  · rfl
  · split <;> simp

/-- TIMER SETUP refuses, or sets the one timer (R173). -/
@[simp] theorem outer_doTimerSetup (timer : Nat) (f : TimerForm) (s : State) :
    (doTimerSetup timer f s).1.outer = s.outer := by
  unfold doTimerSetup
  split
  · rfl
  · split <;> simp

@[simp] theorem outer_doTimerStart (timer : Nat) (s : State) : (doTimerStart timer s).1.outer = s.outer := by
  unfold doTimerStart
  split <;> rfl

@[simp] theorem outer_doTimerStop (timer : Nat) (s : State) : (doTimerStop timer s).1.outer = s.outer := by
  unfold doTimerStop
  split <;> rfl

@[simp] theorem outer_doTimerRead (timer : Nat) (clear : Bool) (s : State) :
    (doTimerRead timer clear s).1.outer = s.outer := by
  unfold doTimerRead
  split <;> simp

@[simp] theorem outer_doEventEnable (enables : BitVec 51) (s : State) : (doEventEnable enables s).1.outer = s.outer := rfl

@[simp] theorem outer_doEventRead (s : State) : (doEventRead s).1.outer = s.outer := rfl

@[simp] theorem outer_doEventClear (named : BitVec 51) (s : State) : (doEventClear named s).1.outer = s.outer := rfl

@[simp] theorem outer_doFaultRead (s : State) : (doFaultRead s).1.outer = s.outer := rfl

@[simp] theorem outer_doFaultClear (all : Bool) (places : BitVec 8) (s : State) :
    (doFaultClear all places s).1.outer = s.outer := rfl

/-! ### Requests and units on the chain (Chapter 11) -/

@[simp] theorem outer_placeReply (tag code : Nat) (x : State × Answer) : (placeReply tag code x).outer = x.1.outer := by
  unfold placeReply
  split <;> simp

/-- A request whose judging leaves the three leaves them (R188 to R190). -/
theorem outer_answerRequest (h : ReqHdr) (code : Nat) {judge : State → State × Answer}
    (hj : ∀ s, (judge s).1.outer = s.outer) (s : State) : (answerRequest h code judge s).outer = s.outer := by
  rw [answerRequest, outer_placeReply, hj, outer_relayFirst]

theorem outer_takeRequest (h : ReqHdr) (code : Nat) {judge : State → State × Answer}
    (hj : ∀ s, (judge s).1.outer = s.outer) (s : State) : (takeRequest h code judge s).outer = s.outer := by
  rw [takeRequest, outer_afterEvent, outer_answerRequest h code hj]

@[simp] theorem outer_softReset (s : State) : (softReset s).outer = s.outer := rfl

@[simp] theorem outer_answerPartReset (h : ReqHdr) (s : State) : (answerPartReset h s).outer = s.outer := by
  simp [answerPartReset]

@[simp] theorem outer_judgeMapEdit (ps : List Byte) (s : State) : (judgeMapEdit ps s).1.outer = s.outer := by
  unfold judgeMapEdit
  split <;> simp

@[simp] theorem outer_judgeMapLoad (len : Nat) (ps : List Byte) (s : State) : (judgeMapLoad len ps s).1.outer = s.outer := by
  simp [judgeMapLoad]

/-- Every code of the dictionary is judged by a rule that leaves the three (11.5). -/
@[simp] theorem outer_judgeParams (tag code : Nat) (ps : List Byte) (s : State) :
    (judgeParams tag code ps s).1.outer = s.outer := by
  unfold judgeParams
  split <;> simp

@[simp] theorem outer_judgeRequest (tag code len : Nat) (ps : List Byte) (s : State) :
    (judgeRequest tag code len ps s).1.outer = s.outer := by
  unfold judgeRequest
  split
  · simp
  · split <;> simp

@[simp] theorem outer_takeWireRequest (relay : Option Packet) (pkt : Packet) (s : State) :
    (takeWireRequest relay pkt s).outer = s.outer := by
  have judged := outer_answerRequest ⟨mgmtTag pkt, relay⟩ (mgmtCode pkt)
    (outer_judgeRequest (mgmtTag pkt) (mgmtCode pkt) (mgmtLen pkt) (mgmtParams pkt)) s
  simp [takeWireRequest, judged]

@[simp] theorem outer_mgmtArrival (pkt : Packet) (s : State) : (mgmtArrival pkt s).outer = s.outer := by simp [mgmtArrival]

@[simp] theorem outer_handUnit (u : Packet) (s : State) : (handUnit u s).outer = s.outer := by simp [handUnit]

@[simp] theorem outer_renewHold (s : State) : (renewHold s).outer = s.outer := by simp [renewHold]

@[simp] theorem outer_frameUnit (u : Packet) (s : State) : (frameUnit u s).outer = s.outer := by simp [frameUnit]

/-! ### The two that move them -/

theorem outer_powerUp (straps : BitVec 5) (s : State) : (powerUp straps s).outer = (0, straps, s.pending) := rfl

theorem outer_tickAll (straps : BitVec 5) (s : State) :
    (tickAll straps s).outer = ((s.time + 1) % 281474976710656, straps, s.pending) := by
  rw [tickAll_rest]
  rfl

/-- The clock, the straps and the queue after a command: only TICK and POWER_UP_RESET move the first two (R1, R185). -/
def outerAfter (c : Instr) (s : State) : Nat × BitVec 5 × List Instr :=
  match c with
  | .tick straps => ((s.time + 1) % 281474976710656, straps, s.pending)
  | .powerUpReset straps => (0, straps, s.pending)
  | _ => s.outer

/-- An event that its work has led to `a`. -/
theorem answers_event {c : Instr} {a s : State} (hc : exec c s = .next (afterEvent a)) (ha : a.outer = outerAfter c s) :
    ∃ t, exec c s = .next t ∧ t.outer = outerAfter c s :=
  ⟨_, hc, (outer_afterEvent a).trans ha⟩

/-- A request whose judging leaves the clock, the straps and the queue. -/
theorem answers_request {c : Instr} {h : ReqHdr} {code : Nat} {judge : State → State × Answer} {s : State}
    (hc : exec c s = .next (takeRequest h code judge s)) (hj : ∀ s, (judge s).1.outer = s.outer)
    (hs : outerAfter c s = s.outer) : ∃ t, exec c s = .next t ∧ t.outer = outerAfter c s :=
  ⟨_, hc, (outer_takeRequest h code hj s).trans hs.symm⟩

/-- Every command answers a next state; what it leaves of clock, straps and queue is `outerAfter`. -/
theorem exec_outer (c : Instr) (s : State) : ∃ t, exec c s = .next t ∧ t.outer = outerAfter c s := by
  cases c with
  | powerUpReset straps => exact ⟨_, rfl, outer_powerUp straps s⟩
  | tick straps => exact answers_event rfl (outer_tickAll straps s)
  | linkDown l => exact answers_event rfl (outer_linkLost l s)
  | linkUp l => exact answers_event rfl (outer_linkFound l s)
  | sampleArrival l i q x => exact answers_event rfl (outer_takeSample l i q x s)
  | holdoffExpiry l => exact answers_event rfl (outer_holdoffExpires l s)
  | decodeCompletion _ => exact answers_event rfl (outer_decodeCompletes s)
  | slotEvent p => exact answers_event rfl (outer_slotWhenDue p s)
  | coHoldAssert => exact answers_event (a := { s with co := { s.co with held := true } }) rfl rfl
  | coHoldRelease => exact answers_event (a := { s with co := { s.co with held := false } }) rfl rfl
  | ciUnitArrival u => exact answers_event rfl ((outer_frameUnit u _).trans (outer_renewHold s))
  | timerExpiry t => exact answers_event rfl (outer_timerExpires t s)
  | partReset h => exact answers_event rfl (outer_answerPartReset h s)
  | ident h => exact answers_request rfl outer_doIdent rfl
  | partSetup h id notices => exact answers_request rfl (outer_doPartSetup id notices) rfl
  | laneSetup h lane f => exact answers_request rfl (outer_doLaneSetup lane f) rfl
  | laneStart h lane => exact answers_request rfl (outer_doLaneStart lane) rfl
  | laneStop h lane => exact answers_request rfl (outer_doLaneStop lane) rfl
  | laneRead h lane clear => exact answers_request rfl (outer_doLaneRead lane clear) rfl
  | profileRead h lane => exact answers_request rfl (outer_doProfileRead lane) rfl
  | pair h p => exact answers_request rfl (outer_doPair p) rfl
  | unpair h p => exact answers_request rfl (outer_doUnpair p) rfl
  | poolSetup h r0 r1 r2 r3 => exact answers_request rfl (outer_doPoolSetup r0 r1 r2 r3) rfl
  | poolRead h start => exact answers_request rfl (outer_doPoolRead start) rfl
  | decoderSetup h high low => exact answers_request rfl (outer_doDecoderSetup high low) rfl
  | decoderRead h clear => exact answers_request rfl (outer_doDecoderRead clear) rfl
  | mapLoad h g => exact answers_request rfl (outer_doMapLoad g) rfl
  | mapAbort h => exact answers_request rfl outer_doMapAbort rfl
  | mapEditAdd h e => exact answers_request rfl (outer_doMapEditAdd e) rfl
  | mapEditReplace h e => exact answers_request rfl (outer_doMapEditReplace e) rfl
  | mapEditRemove h e => exact answers_request rfl (outer_doMapEditRemove e) rfl
  | mapRead h first count clear => exact answers_request rfl (outer_doMapRead first count clear) rfl
  | mapInvalidate h granularity origin id m =>
    exact answers_request rfl (outer_doMapInvalidate granularity origin id m) rfl
  | originSetup h origin f => exact answers_request rfl (outer_doOriginSetup origin f) rfl
  | originRead h => exact answers_request rfl outer_doOriginRead rfl
  | portSetup h port interval high low limit =>
    exact answers_request rfl (outer_doPortSetup port interval high low limit) rfl
  | portStop h port => exact answers_request rfl (outer_doPortStop port h.tag) rfl
  | portStart h port => exact answers_request rfl (outer_doPortStart port) rfl
  | portFlush h port => exact answers_request rfl (outer_doPortFlush port) rfl
  | portRead h port clear => exact answers_request rfl (outer_doPortRead port clear) rfl
  | monitorSetup h monitor f => exact answers_request rfl (outer_doMonitorSetup monitor f) rfl
  | monitorArm h monitor => exact answers_request rfl (outer_doMonitorArm monitor) rfl
  | monitorRead h monitor part clear => exact answers_request rfl (outer_doMonitorRead monitor part clear) rfl
  | timerSetup h timer f => exact answers_request rfl (outer_doTimerSetup timer f) rfl
  | timerStart h timer => exact answers_request rfl (outer_doTimerStart timer) rfl
  | timerStop h timer => exact answers_request rfl (outer_doTimerStop timer) rfl
  | timerRead h timer clear => exact answers_request rfl (outer_doTimerRead timer clear) rfl
  | eventEnable h enables => exact answers_request rfl (outer_doEventEnable enables) rfl
  | eventRead h => exact answers_request rfl outer_doEventRead rfl
  | eventClear h named => exact answers_request rfl (outer_doEventClear named) rfl
  | faultRead h => exact answers_request rfl outer_doFaultRead rfl
  | faultClear h all places => exact answers_request rfl (outer_doFaultClear all places) rfl

/-! ### The queue -/

/-- A step takes the front command and leaves it the queue's rest (log 1). -/
theorem step_cons (c : Instr) (rest : List Instr) (s : State) :
    step { s with pending := c :: rest } = exec c { s with pending := rest } := rfl

/-- On an empty queue the part idles. -/
theorem step_idle {s : State} (h : s.pending = []) : step s = .next s := by
  unfold step
  rw [h]

/-- The three parts of `outerAfter`. -/
theorem outerAfter_eq (c : Instr) (s : State) : outerAfter c s =
    (match c with
      | .tick _ => (s.time + 1) % 281474976710656
      | .powerUpReset _ => 0
      | _ => s.time,
    match c with
      | .tick straps => straps
      | .powerUpReset straps => straps
      | _ => s.straps,
    s.pending) := by
  cases c <;> rfl

/-- Settles O1: a step by the queue's two shapes, a command by what it leaves of clock, straps and queue. -/
theorem stepTakesFrontCommand : Obligations.StepTakesFrontCommand := by
  refine ⟨step_cons, fun s h => step_idle h, fun c s => ?_⟩
  obtain ⟨t, ht, hout⟩ := exec_outer c s
  rw [outerAfter_eq, State.outer, Prod.mk.injEq, Prod.mk.injEq] at hout
  obtain ⟨htime, hstraps, hpending⟩ := hout
  exact ⟨t, ht, hpending, htime, hstraps⟩

end Sys2Proof.Machine
end

section
/-! SUPPORT. The power-up reset, and the requests that read, with their clear flags (R42; R22, R58, R97, R114, R118, R130,
R150, R163, R176, R194, R202, R204). `request_answered` says once how a request that is answered at once is taken. -/

namespace Sys2Proof.Machine

/-! ### The power-up reset -/

theorem port_powerUp (straps : BitVec 5) (s : State) (p : PortId) :
    (powerUp straps s).port p = Port.reset 0 (if p = portCO then 675 else 1080) none := by
  fin_cases p <;> rfl

/-- Every block after the power-up reset (R42, R46, R65, R81, R98, R115, R136, R154, R164, R177). -/
theorem blocksReset_powerUp (straps : BitVec 5) (s : State) : blocksReset (powerUp straps s) := by
  have lanes (l : LaneId) : (powerUp straps s).lane l = Lane.reset := by simp [State.lane, powerUp, State.reset]
  have pairs (p : PairId) : (powerUp straps s).pairAt p = Pair.reset := by simp [State.pairAt, powerUp, State.reset]
  have monitors (m : MonitorId) : (powerUp straps s).monitor m = Monitor.reset := by
    simp [State.monitor, powerUp, State.reset]
  have timers (i : TimerId) : (powerUp straps s).timer i = Timer.reset := by simp [State.timer, powerUp, State.reset]
  refine ⟨lanes, pairs, ⟨rfl, ?pool⟩, ⟨rfl, rfl, rfl, rfl, rfl, ?stats⟩, ⟨rfl, rfl, rfl, ?origins, rfl⟩, ?ports,
    ⟨rfl, rfl, rfl, rfl, rfl, rfl⟩, rfl, monitors, timers, rfl, rfl, rfl⟩
  case pool => intro l; exact Vector.getElem_replicate l.isLt
  case stats => intro l; exact Vector.getElem_replicate l.isLt
  case origins => intro o ho; interval_cases o <;> rfl
  case ports => intro p; rw [port_powerUp]; exact ⟨rfl, rfl, rfl, rfl, rfl, rfl, rfl, rfl, rfl⟩

/-- Settles O2: the state after the reset, block by block. -/
theorem powerUpReset : Obligations.PowerUpReset := by
  intro straps s
  refine ⟨powerUp straps s, rfl, blocksReset_powerUp straps s, rfl, rfl, rfl, rfl, rfl, ?ports, rfl, rfl, rfl, rfl⟩
  case ports =>
    intro p
    rw [port_powerUp]
    refine ⟨rfl, ?slot, rfl⟩
    case slot => simp only [Port.reset, wrapTime]; split <;> rfl

/-! ### Requests that are answered at once -/

/-- A request without a packet to pass on leaves what `Answered` says of the state and the reply it is judged to (R189). -/
theorem request_taken {c : Instr} {tag code : Nat} {judge : State → State × Answer} {s : State}
    (hc : exec c s = .next (takeRequest ⟨tag, none⟩ code judge s)) :
    ∃ t, exec c s = .next t ∧ ∀ {a : State} {r : Reply}, judge s = (a, .now r) → Answered tag code r a t := by
  refine ⟨_, hc, fun {a r} hj => ?_⟩
  have taken : takeRequest ⟨tag, none⟩ code judge s = afterEvent (sendReply tag code r a) := by
    simp only [takeRequest, answerRequest, relayFirst, hj, placeReply]
  rw [taken]
  exact answered tag code r a

theorem request_answered {c : Instr} {tag code : Nat} {judge : State → State × Answer} {s a : State} {r : Reply}
    (hc : exec c s = .next (takeRequest ⟨tag, none⟩ code judge s)) (hj : judge s = (a, .now r)) :
    ∃ t, exec c s = .next t ∧ Answered tag code r a t := by
  obtain ⟨t, ht, taken⟩ := request_taken hc
  exact ⟨t, ht, taken hj⟩

@[simp] theorem asLane_val (l : LaneId) : asLane l.val = some l := dif_pos l.isLt
@[simp] theorem asPort_val (p : PortId) : asPort p.val = some p := dif_pos p.isLt
@[simp] theorem asMonitor_val (m : MonitorId) : asMonitor m.val = some m := dif_pos m.isLt
@[simp] theorem asTimer_val (i : TimerId) : asTimer i.val = some i := dif_pos i.isLt

/-! ### What each read is judged to -/

theorem doLaneRead_val (l : LaneId) (clear : Bool) (s : State) : doLaneRead l.val clear s =
    (if clear then s.setLane l { s.lane l with counters := LaneCounters.zero } else s,
      .now (.done (laneReadBytes s l))) := by
  simp [doLaneRead, State.modLane]

theorem doProfileRead_val (l : LaneId) (s : State) :
    doProfileRead l.val s = (s, .now (.done (profileBytes (s.lane l)))) := by
  simp [doProfileRead]

theorem doPoolRead_inRange (s : State) {start : Nat} (h : start ≤ 1023) :
    doPoolRead start s = (s, .now (.done (poolReadBytes s start))) :=
  if_neg (Nat.not_lt.mpr h)

/-- The reply of a MAP READ of `n` slots (R130). -/
def mapReadBytes (m : MapUnit) (first n : Nat) : List Byte :=
  b2 (entryCount m.slots) ++ bBool m.staging.isSome ++ b1 ((m.slots.drop first).take n).length ++
    ((m.slots.drop first).take n).flatMap slotBytes

/-- A count outside 1 to 12 is the one that clamping alters. -/
theorem clamp_ne_iff (lo hi n : Nat) : clamp lo hi n ≠ n ↔ n < lo ∨ hi < n := by
  simp only [clamp]
  split <;> [skip; split] <;> omega

theorem doMapRead_inRange (count : Nat) (clear : Bool) (s : State) {first : Nat} (h : first ≤ 1023) :
    doMapRead first count clear s =
      (if clear then { s with smap := { s.smap with slots := clearRange s.smap.slots first (clamp 1 12 count) } } else s,
        .now ⟨if count < 1 ∨ 12 < count then .clamped else .done, 0, mapReadBytes s.smap first (clamp 1 12 count)⟩) := by
  have status : Reply.clampedIf (decide (clamp 1 12 count ≠ count)) (mapReadBytes s.smap first (clamp 1 12 count)) =
      ⟨if count < 1 ∨ 12 < count then .clamped else .done, 0, mapReadBytes s.smap first (clamp 1 12 count)⟩ := by
    simp only [Reply.clampedIf, decide_eq_true_eq, clamp_ne_iff 1 12 count]
  rw [← status]
  exact if_neg (Nat.not_lt.mpr h)

theorem doPortRead_val (p : PortId) (clear : Bool) (s : State) : doPortRead p.val clear s =
    (if clear then clearPortCounts p s else s,
      .now (.done (portBytes (s.port p) ++ (if p = portCO then coBytes s else [])))) := by
  simp [doPortRead]

/-- The contents of a MONITOR READ of a part that exists (R163). -/
def monitorReadBytes (m : Monitor) (part : Nat) : List Byte :=
  if part = 0 then monitorPart0 m else if part = 1 then monitorPartBytes m 0 else monitorPartBytes m 94

theorem doMonitorRead_val (m : MonitorId) (clear : Bool) (s : State) {part : Nat} (h : part ≤ 2) :
    doMonitorRead m.val part clear s =
      (if clear then s.setMonitor m { s.monitor m with hits := 0, capture := none } else s,
        .now (.done (monitorReadBytes (s.monitor m) part))) := by
  simp only [doMonitorRead, asMonitor_val]
  interval_cases part <;> rfl

theorem doTimerRead_val (i : TimerId) (clear : Bool) (s : State) : doTimerRead i.val clear s =
    (if clear then s.setTimer i { s.timer i with lastSpan := 0, maxSpan := 0 } else s,
      .now (.done (timerBytes (s.timer i)))) := by
  simp [doTimerRead]

/-- Settles O21: each read is judged to the state it finds and its contents. -/
theorem readsChangeNothing : Obligations.ReadsChangeNothing := by
  intro tag s
  refine ⟨request_answered rfl rfl, fun l => request_answered rfl (doLaneRead_val l false s),
    fun l => request_answered rfl (doProfileRead_val l s), fun start h => request_answered rfl (doPoolRead_inRange s h),
    request_answered rfl rfl, fun first count h => request_answered rfl (doMapRead_inRange count false s h),
    request_answered rfl rfl, fun p => request_answered rfl (doPortRead_val p false s), fun m => ⟨?_, ?_, ?_⟩,
    fun i => request_answered rfl (doTimerRead_val i false s), request_answered rfl rfl, request_answered rfl rfl⟩
  · exact request_answered rfl (doMonitorRead_val m false s (part := 0) (by decide))
  · exact request_answered rfl (doMonitorRead_val m false s (part := 1) (by decide))
  · exact request_answered rfl (doMonitorRead_val m false s (part := 2) (by decide))

/-! ### What a clear flag clears -/

/-- A slot with its counter at 0, if it is occupied (R130). -/
def clearCounter (o : Option MapSlot) : Option MapSlot := o.map (fun x => { x with counter := 0 })

/-- Clearing a range clears the counters in it and leaves every other slot (R130). -/
theorem clearRange_getElem? (slots : List (Option MapSlot)) (first n i : Nat) :
    (clearRange slots first n)[i]? =
      if first ≤ i ∧ i < first + n then slots[i]?.map clearCounter else slots[i]? := by
  have parts : clearRange slots first n =
      slots.take first ++ (((slots.drop first).take n).map clearCounter ++ slots.drop (first + n)) :=
    List.append_assoc _ _ _
  rw [parts, List.getElem?_append, List.getElem?_append]
  simp only [List.length_map, List.length_take, List.length_drop, List.getElem?_map, List.getElem?_take, List.getElem?_drop]
  rcases Nat.lt_or_ge i slots.length with inside | outside
  · rcases Nat.lt_or_ge i first with before | reached
    · rw [if_pos (by omega), if_pos before, if_neg (by omega)]
    · have length : min first slots.length = first := by omega
      rw [if_neg (by omega), length]
      rcases Nat.lt_or_ge i (first + n) with within | past
      · rw [if_pos (by omega), if_pos (by omega), if_pos ⟨reached, within⟩, Nat.add_sub_cancel' reached]
      · rw [if_neg (by omega), if_neg (by omega), show first + n + (i - first - min n (slots.length - first)) = i by omega]
  · have none_at (k : Nat) (h : slots.length ≤ k) : slots[k]? = none := List.getElem?_eq_none h
    rw [none_at i outside, if_neg (by omega), if_neg (by omega), none_at _ (by omega)]
    exact (ite_self none).symm

theorem clearPortCounts_eq (p : PortId) (s : State) : clearPortCounts p s =
    { s.setPort p { s.port p with drop0 := 0, drop1 := 0, drop2 := 0, skipped := 0 } with
      co := { s.co with heldSlots := if p = portCO then 0 else s.co.heldSlots } } := by
  unfold clearPortCounts
  split <;> rfl

/-- Settles O22: each read answers from the state it finds; what it clears is the state it is judged to. -/
theorem clearingReads : Obligations.ClearingReads := by
  intro tag s
  refine ⟨fun l => request_answered rfl (doLaneRead_val l true s), ?decoder, ?map, ?port, ?monitor,
    fun i => request_answered rfl (doTimerRead_val i true s)⟩
  case decoder =>
    obtain ⟨t, ht, hans⟩ := request_answered (c := .decoderRead ⟨tag, none⟩ true) (s := s) rfl rfl
    exact ⟨_, t, ht, hans, rfl, fun l => Vector.getElem_replicate l.isLt⟩
  case map =>
    intro first count h
    obtain ⟨t, ht, hans⟩ := request_answered (c := .mapRead ⟨tag, none⟩ first count true) rfl
      (doMapRead_inRange count true s h)
    refine ⟨_, t, ht, hans, rfl, ?occupied, ?empty⟩
    case occupied =>
      intro n x hx
      simp only [if_true, clearRange_getElem?, hx]
      split <;> rfl
    case empty =>
      intro n hn
      simp [clearRange_getElem?, hn, clearCounter]
  case port =>
    intro p
    obtain ⟨t, ht, hans⟩ := request_answered (c := .portRead ⟨tag, none⟩ p.val true) rfl (doPortRead_val p true s)
    exact ⟨_, t, ht, hans, clearPortCounts_eq p s⟩
  case monitor =>
    intro m part h
    obtain ⟨t, ht, hans⟩ := request_answered (c := .monitorRead ⟨tag, none⟩ m.val part true) rfl
      (doMonitorRead_val m true s h)
    exact ⟨t, _, ht, rfl, hans⟩

end Sys2Proof.Machine
end

section
/-! SUPPORT. The bookkeeping that lane events share: updates of one lane or pair that meet, what decides the data path of a
lane (`SameRoles`: pairs formed, references, setup records), and what the following of conditions leaves (R167, R171, R198). -/

namespace Sys2Proof.Machine

/-! ### Updates that meet -/

@[simp] theorem setLane_setLane (s : State) (l : LaneId) (c d : Lane) : (s.setLane l c).setLane l d = s.setLane l d := by
  simp [State.setLane]

@[simp] theorem setLane_lane (s : State) (l : LaneId) : s.setLane l (s.lane l) = s := by
  simp [State.setLane, State.lane]

@[simp] theorem setPair_setPair (s : State) (p : PairId) (x y : Pair) : (s.setPair p x).setPair p y = s.setPair p y := by
  simp [State.setPair]

theorem modLane_eq (s : State) (l : LaneId) (f : Lane → Lane) : s.modLane l f = s.setLane l (f (s.lane l)) := rfl

theorem modPair_eq (s : State) (p : PairId) (f : Pair → Pair) : s.modPair p f = s.setPair p (f (s.pairAt p)) := rfl

/-- A report touches no lane (R203). -/
theorem report_setLane (source : Nat) (reason : FaultReason) (info : Nat) (s : State) (l : LaneId) (c : Lane) :
    report source reason info (s.setLane l c) = (report source reason info s).setLane l c := by
  simp only [report, apply_ite (fun t : State => t.setLane l c)]
  rfl

/-- What a report leaves (R203). -/
theorem report_rest (source : Nat) (reason : FaultReason) (info : Nat) (s : State) :
    report source reason info s =
      { s with ev := (report source reason info s).ev, log := (report source reason info s).log } := by
  unfold report
  split
  · rfl
  · split <;> rfl

@[simp] theorem lane_report (source : Nat) (reason : FaultReason) (info : Nat) (s : State) (l : LaneId) :
    (report source reason info s).lane l = s.lane l := by rw [report_rest]; rfl

/-! ### Lanes and their partners -/

theorem isPrimary_iff (l : LaneId) : isPrimary l = true ↔ l.val % 2 = 0 := by simp [isPrimary]

theorem partnerOf_ne (l : LaneId) : partnerOf l ≠ l := by revert l; decide

/-- The primary of a lane's pair is the lane itself or its partner. -/
theorem primaryOf_pairOf (l : LaneId) : primaryOf (pairOf l) = if isPrimary l = true then l else partnerOf l := by
  revert l; decide

theorem pairOf_primaryOf (p : PairId) : pairOf (primaryOf p) = p := by revert p; decide

/-! ### What decides a lane's data path -/

/-- Two states with the same pairs formed, the same references and the same setup records: every lane has the same data path,
drives it in both or in neither, and selects by the same pipe id. -/
structure SameRoles (s t : State) : Prop where
  formed : ∀ p, (t.pairAt p).formed = (s.pairAt p).formed
  ref : ∀ p, (t.pairAt p).ref = (s.pairAt p).ref
  setup : ∀ l, (t.lane l).setup = (s.lane l).setup

theorem SameRoles.refl (s : State) : SameRoles s s := ⟨fun _ => rfl, fun _ => rfl, fun _ => rfl⟩

theorem SameRoles.trans {s t u : State} (h : SameRoles s t) (k : SameRoles t u) : SameRoles s u where
  formed := fun p => (k.formed p).trans (h.formed p)
  ref := fun p => (k.ref p).trans (h.ref p)
  setup := fun l => (k.setup l).trans (h.setup l)

theorem SameRoles.paired {s t : State} (h : SameRoles s t) (l : LaneId) : paired t l = paired s l := h.formed _

theorem SameRoles.pathOf {s t : State} (h : SameRoles s t) (l : LaneId) : pathOf t l = pathOf s l := by
  simp only [Machine.pathOf, h.paired]

theorem SameRoles.drivesPath {s t : State} (h : SameRoles s t) (l : LaneId) : drivesPath t l = drivesPath s l := by
  simp only [Machine.drivesPath, h.paired, h.ref]

theorem SameRoles.selectId {s t : State} (h : SameRoles s t) (l : LaneId) : selectId t l = selectId s l := by
  simp only [Machine.selectId, h.pathOf, h.setup]

/-- Work on a data path leaves the roles. -/
theorem PathKept.roles {s t : State} (h : PathKept s t) : SameRoles s t where
  formed := h.formed
  ref := h.ref
  setup := fun l => by rw [h.lanes l]

theorem roles_setLane (s : State) (l : LaneId) (c : Lane) (h : c.setup = (s.lane l).setup) : SameRoles s (s.setLane l c) where
  formed := fun _ => rfl
  ref := fun _ => rfl
  setup := fun j => by
    by_cases hj : j = l
    · subst hj; rw [lane_setLane_self, h]
    · rw [lane_setLane_ne _ _ _ _ hj]

theorem roles_setPair (s : State) (p : PairId) (x : Pair) (hf : x.formed = (s.pairAt p).formed)
    (hr : x.ref = (s.pairAt p).ref) : SameRoles s (s.setPair p x) where
  formed := fun q => by
    by_cases hq : q = p
    · subst hq; rw [pairAt_setPair_self, hf]
    · rw [pairAt_setPair_ne _ _ _ _ hq]
  ref := fun q => by
    by_cases hq : q = p
    · subst hq; rw [pairAt_setPair_self, hr]
    · rw [pairAt_setPair_ne _ _ _ _ hq]
  setup := fun _ => rfl

/-- States with the same lanes and pairs. -/
theorem SameRoles.of_eq {s t : State} (hl : t.lanes = s.lanes) (hp : t.pairs = s.pairs) : SameRoles s t where
  formed := fun p => by simp only [State.pairAt, hp]
  ref := fun p => by simp only [State.pairAt, hp]
  setup := fun l => by simp only [State.lane, hl]

/-- A path that no lane drives for another is the lane's own. -/
theorem pathOf_single {s : State} {l : LaneId} (h : paired s l = false) : pathOf s l = l := by simp [pathOf, h]

theorem pathOf_paired {s : State} {l : LaneId} (h : paired s l = true) : pathOf s l = primaryOf (pairOf l) := by
  simp [pathOf, h]

/-- The pair of a lane's path is the lane's pair. -/
theorem pairOf_pathOf (s : State) (l : LaneId) : pairOf (pathOf s l) = pairOf l := by
  unfold pathOf
  split
  · exact pairOf_primaryOf _
  · rfl

theorem paired_pathOf (s : State) (l : LaneId) : paired s (pathOf s l) = paired s l := by
  simp only [paired, pairOf_pathOf]

/-- A lane of a pair drives the path where it is the reference (R75). -/
theorem drivesPath_paired {s : State} {l : LaneId} (h : paired s l = true) :
    drivesPath s l = true ↔ (s.pairAt (pairOf l)).ref = refName l := by
  simp [drivesPath, h]

/-! ### The work on a path that lane events call -/

theorem path_discardWaiting (p : LaneId) (s : State) : PathKept s (discardWaiting p s) := by
  unfold discardWaiting
  split
  · exact path_setPair s _ _ rfl
  · split
    · exact path_setPair s _ _ rfl
    · exact .refl s

theorem path_abandonGroup (p : LaneId) (s : State) : PathKept s (abandonGroup p s) :=
  (path_setLane s p _ rfl).trans (path_discardWaiting _ _)

theorem path_beginGroup (p : LaneId) (half : Half) (s : State) : PathKept s (beginGroup p half s) :=
  path_setLane s p _ rfl

theorem path_beginAgain (p : LaneId) (s : State) : PathKept s (beginAgain p s) :=
  (path_abandonGroup p s).trans (path_beginGroup p _ _)

/-! ### What the following of conditions leaves -/

/-- A change of timers, events and work alone. -/
def FollowsOnly (s t : State) : Prop := t = { s with timers := t.timers, ev := t.ev, work := t.work }

theorem FollowsOnly.refl (s : State) : FollowsOnly s s := rfl

theorem FollowsOnly.trans {s t u : State} (h : FollowsOnly s t) (k : FollowsOnly t u) : FollowsOnly s u := by
  unfold FollowsOnly at h k ⊢
  rw [k, h]

theorem followsOnly_foldl {α : Type} (f : State → α → State) (h : ∀ s a, FollowsOnly s (f s a)) (l : List α)
    (s : State) :
    FollowsOnly s (l.foldl f s) := by
  induction l generalizing s with
  | nil => exact .refl _
  | cons a l ih => exact (h s a).trans (ih _)

theorem followsOnly_followSpan (s : State) (i : TimerId) : FollowsOnly s (followSpan s i) := by
  unfold followSpan
  dsimp only
  split
  · split
    · rfl
    · split
      · split <;> rfl
      · rfl
  · rfl

theorem followsOnly_setCondition (n : Nat) (b : Bool) (s : State) : FollowsOnly s (setCondition n b s) := rfl

theorem followsOnly_followEvents (s : State) : FollowsOnly s (followEvents s) :=
  (followsOnly_setCondition _ _ s).trans ((followsOnly_foldl _ (fun _ _ => followsOnly_setCondition _ _ _) _ _).trans
    ((followsOnly_setCondition _ _ _).trans (followsOnly_setCondition _ _ _)))

/-- Conditions are followed by timers, event flags and work alone (R167, R171, R198). -/
theorem followsOnly_follow (s : State) : FollowsOnly s (follow s) :=
  (followsOnly_followEvents s).trans (followsOnly_foldl _ followsOnly_followSpan _ _)

@[simp] theorem follow_lanes (s : State) : (follow s).lanes = s.lanes := by rw [followsOnly_follow s]
@[simp] theorem follow_pairs (s : State) : (follow s).pairs = s.pairs := by rw [followsOnly_follow s]
@[simp] theorem follow_pool (s : State) : (follow s).pool = s.pool := by rw [followsOnly_follow s]
@[simp] theorem follow_dec (s : State) : (follow s).dec = s.dec := by rw [followsOnly_follow s]
@[simp] theorem follow_smap (s : State) : (follow s).smap = s.smap := by rw [followsOnly_follow s]
@[simp] theorem follow_ports (s : State) : (follow s).ports = s.ports := by rw [followsOnly_follow s]
@[simp] theorem follow_monitors (s : State) : (follow s).monitors = s.monitors := by rw [followsOnly_follow s]
@[simp] theorem follow_time (s : State) : (follow s).time = s.time := by rw [followsOnly_follow s]
@[simp] theorem follow_links (s : State) : (follow s).links = s.links := by rw [followsOnly_follow s]
@[simp] theorem lane_follow (s : State) (l : LaneId) : (follow s).lane l = s.lane l := by simp [State.lane]
@[simp] theorem pairAt_follow (s : State) (p : PairId) : (follow s).pairAt p = s.pairAt p := by simp [State.pairAt]

theorem roles_follow (s : State) : SameRoles s (follow s) := .of_eq (follow_lanes s) (follow_pairs s)

end Sys2Proof.Machine
end

section
/-! SUPPORT. The pages and the ready list of a data path: what a shrink and a release leave of the page map (R88, R89), an
emptied ready list and the congestion flag judged after it (R34, R88, R100, R101), and a released path. -/

namespace Sys2Proof.Machine

/-! ### The page map -/

theorem shrinkMap_cons_ne {l : LaneId} {o : Option LaneId} (h : o ≠ some l) (n : Nat) (m : List (Option LaneId)) :
    shrinkMap l n (o :: m) = o :: shrinkMap l n m := by
  cases n <;> exact if_neg h

theorem shrinkMap_cons_zero (l : LaneId) (m : List (Option LaneId)) :
    shrinkMap l 0 (some l :: m) = none :: shrinkMap l 0 m := if_pos rfl

theorem shrinkMap_cons_succ (l : LaneId) (n : Nat) (m : List (Option LaneId)) :
    shrinkMap l (n + 1) (some l :: m) = some l :: shrinkMap l n m := if_pos rfl

/-- A release is a shrink to no page (R88, R89). -/
theorem releaseMap_eq_shrinkMap (l : LaneId) (m : List (Option LaneId)) : releaseMap l m = shrinkMap l 0 m := by
  induction m with
  | nil => rfl
  | cons o m ih =>
    by_cases h : o = some l
    · subst h
      rw [shrinkMap_cons_zero, ← ih]
      simp [releaseMap]
    · rw [shrinkMap_cons_ne h, ← ih]
      simp [releaseMap, h]

/-- A shrunk lane owns at most what it keeps. -/
theorem count_shrinkMap_self (l : LaneId) (n : Nat) (m : List (Option LaneId)) :
    (shrinkMap l n m).count (some l) = min n (m.count (some l)) := by
  induction m generalizing n with
  | nil => cases n <;> simp [shrinkMap]
  | cons o m ih =>
    by_cases h : o = some l
    · subst h
      cases n with
      | zero => rw [shrinkMap_cons_zero]; simp [ih]
      | succ n => rw [shrinkMap_cons_succ]; simp [ih]
    · rw [shrinkMap_cons_ne h]; simp [h, ih]

/-- The pages a lane gives up are FREE. -/
theorem count_shrinkMap_free (l : LaneId) (n : Nat) (m : List (Option LaneId)) :
    (shrinkMap l n m).count none = m.count none + (m.count (some l) - n) := by
  induction m generalizing n with
  | nil => cases n <;> simp [shrinkMap]
  | cons o m ih =>
    by_cases h : o = some l
    · subst h
      cases n with
      | zero => rw [shrinkMap_cons_zero]; simp [ih]; omega
      | succ n => rw [shrinkMap_cons_succ]; simp [ih]
    · rw [shrinkMap_cons_ne h]
      simp only [List.count_cons, ih, beq_iff_eq, h, if_false]
      omega

/-- Every other owner keeps its pages. -/
theorem count_shrinkMap_other {l k : LaneId} (hk : k ≠ l) (n : Nat) (m : List (Option LaneId)) :
    (shrinkMap l n m).count (some k) = m.count (some k) := by
  induction m generalizing n with
  | nil => cases n <;> rfl
  | cons o m ih =>
    by_cases h : o = some l
    · subst h
      cases n with
      | zero => rw [shrinkMap_cons_zero]; simp [ih, hk.symm]
      | succ n => rw [shrinkMap_cons_succ]; simp [ih, hk.symm]
    · rw [shrinkMap_cons_ne h]; simp [List.count_cons, ih]

/-- A page that is not the lane's stays what it is. -/
theorem shrinkMap_getElem?_other (l : LaneId) (n : Nat) (m : List (Option LaneId)) (i : Nat) (o : Option LaneId)
    (ho : o ≠ some l) (h : m[i]? = some o) : (shrinkMap l n m)[i]? = some o := by
  induction m generalizing n i with
  | nil => simp at h
  | cons x m ih =>
    by_cases hx : x = some l
    · subst hx
      cases i with
      | zero => simp only [List.getElem?_cons_zero, Option.some.injEq] at h; exact absurd h.symm ho
      | succ i =>
        cases n with
        | zero => rw [shrinkMap_cons_zero]; exact ih 0 i h
        | succ n => rw [shrinkMap_cons_succ]; exact ih n i h
    · rw [shrinkMap_cons_ne hx]
      cases i with
      | zero => exact h
      | succ i => exact ih n i h

/-- A lane keeps its lowest-numbered pages (R89). -/
theorem shrinkMap_keeps_lowest (l : LaneId) (n : Nat) (m : List (Option LaneId)) (i j : Nat)
    (kept : (shrinkMap l n m)[i]? = some (some l)) (was : m[j]? = some (some l))
    (gone : (shrinkMap l n m)[j]? = some none) : i < j := by
  induction m generalizing n i j with
  | nil => simp at was
  | cons x m ih =>
    by_cases hx : x = some l
    · subst hx
      cases n with
      | zero =>
        have none_left : some l ∉ shrinkMap l 0 (some l :: m) :=
          List.count_eq_zero.mp (by rw [count_shrinkMap_self, Nat.zero_min])
        exact absurd (List.mem_of_getElem? kept) none_left
      | succ n =>
        rw [shrinkMap_cons_succ] at kept gone
        cases j with
        | zero => simp at gone
        | succ j =>
          cases i with
          | zero => omega
          | succ i => exact Nat.succ_lt_succ (ih n i j kept was gone)
    · rw [shrinkMap_cons_ne hx] at kept gone
      cases j with
      | zero => simp only [List.getElem?_cons_zero, Option.some.injEq] at was; exact absurd was hx
      | succ j =>
        cases i with
        | zero => simp only [List.getElem?_cons_zero, Option.some.injEq] at kept; exact absurd kept hx
        | succ i => exact Nat.succ_lt_succ (ih n i j kept was gone)

theorem owned_release_self (p : Pool) (l : LaneId) : (p.release l).owned l = 0 := by
  rw [Pool.owned, Pool.release, releaseMap_eq_shrinkMap, count_shrinkMap_self, Nat.zero_min]

theorem owned_release_other (p : Pool) {l k : LaneId} (hk : k ≠ l) : (p.release l).owned k = p.owned k := by
  rw [Pool.owned, Pool.release, releaseMap_eq_shrinkMap, count_shrinkMap_other hk]
  rfl

theorem freeCount_release (p : Pool) (l : LaneId) : (p.release l).freeCount = p.freeCount + p.owned l := by
  rw [Pool.freeCount, Pool.release, releaseMap_eq_shrinkMap, count_shrinkMap_free, Nat.sub_zero]
  rfl

/-! ### The congestion flag -/

/-- The flag falls at the low mark and rises at the high mark (R101). -/
theorem congestedAfter_iff (d : Decoder) (total : Nat) :
    congestedAfter d total = true ↔ (if d.congested then d.low < total else d.high ≤ total) := by
  unfold congestedAfter
  split <;> simp

/-- The flag as it is judged, and what follows it (R100, R101). -/
theorem judgeCongestion_flag (s : State) : ∃ flag : Bool,
    judgeCongestion s = { s with
      dec := { s.dec with congested := flag }, ev := if flag then raiseIn s.ev 28 else lowerIn s.ev 28 } ∧
    (flag = true ↔ (if s.dec.congested then s.dec.low < readyTotal s else s.dec.high ≤ readyTotal s)) :=
  ⟨congestedAfter s.dec (readyTotal s), rfl, congestedAfter_iff _ _⟩

/-- The ready total is of the ready lists alone (R100). -/
theorem readyTotal_congr {s t : State} (h : ∀ l, (t.lane l).ready = (s.lane l).ready) : readyTotal t = readyTotal s := by
  simp only [readyTotal, h]

/-! ### A ready list emptied, a path released -/

/-- A lane without its ready list, its codewords counted as dropped or not (R41, R88). -/
def Lane.unready (counted : Bool) (c : Lane) : Lane :=
  { c with
    ready := []
    counters := { c.counters with
      dropped := if counted then wrap32 (c.counters.dropped + c.ready.length) else c.counters.dropped } }

/-- The occurrences of a ready list dropped (R167). -/
def droppedWork (p : LaneId) (counted : Bool) (n : Nat) : List Work :=
  if counted then List.replicate n (.occ (.cwDropped p)) else []

@[simp] theorem addWork_nil (s : State) : s.addWork [] = s := by simp [State.addWork]

theorem emptyReady_eq (p : LaneId) (counted : Bool) (s : State) : emptyReady p counted s =
    judgeCongestion ((s.setLane p ((s.lane p).unready counted)).addWork
      (droppedWork p counted (s.lane p).ready.length)) := by
  cases counted with
  | true => simp [emptyReady, countDropped, modLane_eq, Lane.unready, droppedWork]
  | false => rw [droppedWork, if_neg (by decide), addWork_nil]; rfl

theorem path_emptyReady (p : LaneId) (counted : Bool) (s : State) : PathKept s (emptyReady p counted s) := by
  rw [emptyReady_eq]
  exact (path_setLane s p _ rfl).trans ((path_addWork _ _).trans (path_judgeCongestion _))

theorem discardWaiting_rest (p : LaneId) (s : State) : discardWaiting p s = { s with pairs := (discardWaiting p s).pairs } := by
  unfold discardWaiting
  split
  · rfl
  · split <;> rfl

theorem discardWaiting_paired {p : LaneId} {s : State} (h : paired s p = true) : discardWaiting p s =
    s.setPair (pairOf p) { s.pairAt (pairOf p) with waiting := [], contrib := 0, doneFrame := none } :=
  if_pos h

theorem discardWaiting_single {p : LaneId} {s : State} (h : paired s p = false) : discardWaiting p s =
    if p.val % 2 = 0 then s.setPair (pairOf p) { s.pairAt (pairOf p) with waiting := [] } else s := by
  simp [discardWaiting, h, isPrimary, modPair_eq]

theorem abandonGroup_pool (p : LaneId) (s : State) : (abandonGroup p s).pool = s.pool := by
  rw [abandonGroup, discardWaiting_rest]
  rfl

theorem emptyReady_pool (p : LaneId) (counted : Bool) (s : State) : (emptyReady p counted s).pool = s.pool := by
  rw [emptyReady_eq]
  rfl

/-- A released path before the congestion flag is judged (R88): what its pair keeps is `discardWaiting`'s. -/
def pathReleased (p : LaneId) (counted : Bool) (s : State) : State :=
  { s with
    lanes := s.lanes.set p ({ s.lane p with group := none }.unready counted)
    pairs := (discardWaiting p s).pairs
    pool := s.pool.release p
    work := s.work ++ droppedWork p counted (s.lane p).ready.length }

theorem releasePath_eq (p : LaneId) (counted : Bool) (s : State) :
    releasePath p counted s = judgeCongestion (pathReleased p counted s) := by
  have pairs : (discardWaiting p ({ s with pool := s.pool.release p }.setLane p { s.lane p with group := none })).pairs =
      (discardWaiting p s).pairs := by
    simp only [discardWaiting, apply_ite State.pairs]
    rfl
  have abandoned : abandonGroup p { s with pool := s.pool.release p } =
      ({ s with pool := s.pool.release p, pairs := (discardWaiting p s).pairs }).setLane p
        { s.lane p with group := none } := by
    rw [← pairs]
    exact discardWaiting_rest p _
  show emptyReady p counted (abandonGroup p { s with pool := s.pool.release p }) = _
  rw [abandoned, emptyReady_eq, lane_setLane_self, setLane_setLane]
  rfl

end Sys2Proof.Machine
end

section
/-! SUPPORT. What takes a lane off its data path, and the data path off its pages: a layout change (R34, R76, R88, R89), the
end of a holdoff (R38, R73, R74), LANE START and LANE STOP (R20, R21). -/

namespace Sys2Proof.Machine

/-! ### A layout change -/

theorem setPathLayout_single {l : LaneId} {s : State} (r : FrameRecord) (h : paired s l = false) :
    setPathLayout l r s = s := by
  simp [setPathLayout, h]

theorem setPathLayout_paired {l : LaneId} {s : State} (r : FrameRecord) (h : paired s l = true) :
    setPathLayout l r s = s.setPair (pairOf l) { s.pairAt (pairOf l) with
      layout := (selectPipe (selectId s l) r).map (fun z => ⟨r.version, z.params⟩) } :=
  if_pos h

theorem roles_setPathLayout (l : LaneId) (r : FrameRecord) (s : State) : SameRoles s (setPathLayout l r s) := by
  cases h : paired s l with
  | false => rw [setPathLayout_single r h]; exact .refl s
  | true => rw [setPathLayout_paired r h]; exact roles_setPair s _ _ rfl rfl

theorem setPathLayout_pool (l : LaneId) (r : FrameRecord) (s : State) : (setPathLayout l r s).pool = s.pool := by
  unfold setPathLayout
  split <;> rfl

/-- A path after steps 1 and 2 of a layout change: no group, no ready list, LAYOUT raised (R34). -/
def pathCut (l : LaneId) (s : State) : State :=
  raise (evLayout l) (emptyReady (pathOf s l) true (abandonGroup (pathOf s l) s))

/-- Then the record is the layout of the lane and of its path (R34, R75). -/
def recordTaken (l : LaneId) (r : FrameRecord) (s : State) : State :=
  setPathLayout l r ((pathCut l s).setLane l { (pathCut l s).lane l with layout := some (layoutOf (selectId s l) r) })

theorem roles_pathCut (l : LaneId) (s : State) : SameRoles s (pathCut l s) :=
  ((path_abandonGroup _ s).trans ((path_emptyReady _ true _).trans (path_raise _ _))).roles

theorem roles_recordTaken (l : LaneId) (r : FrameRecord) (s : State) : SameRoles s (recordTaken l r s) := by
  refine ((roles_pathCut l s).trans (roles_setLane _ l _ ?_)).trans (roles_setPathLayout l r _)
  rfl

theorem recordTaken_pool (l : LaneId) (r : FrameRecord) (s : State) : (recordTaken l r s).pool = s.pool := by
  rw [recordTaken, setPathLayout_pool, State.setLane_pool, pathCut, raise_pool, emptyReady_pool, abandonGroup_pool]

/-- A record without the selected pipe releases the path's pages (R34). -/
theorem layoutChange_absent {l : LaneId} {r : FrameRecord} {s : State} (h : selectPipe (selectId s l) r = none) :
    layoutChange l r s = pathToSync l .pipeAbsent (releasePath (pathOf s l) true (recordTaken l r s)) := by
  have cut : raise (evLayout l) (emptyReady (pathOf s l) true (abandonGroup (pathOf s l) s)) = pathCut l s := rfl
  have taken : setPathLayout l r ((pathCut l s).setLane l { (pathCut l s).lane l with
      layout := some (layoutOf (selectId s l) r) }) = recordTaken l r s := rfl
  simp only [layoutChange, cut, modLane_eq, (roles_pathCut l s).selectId l, taken, (roles_recordTaken l r s).selectId l, h]

/-- A pipe whose pages are settled begins a group in half A; a refused growth ends in SYNC (R34, R89). -/
theorem layoutChange_settled {l : LaneId} {r : FrameRecord} {s t : State} {z : PipeSel} {kept : Bool}
    (h : selectPipe (selectId s l) r = some z)
    (settled : settlePages (pathOf s l) (pageNeed z.params) (recordTaken l r s) = (kept, t)) :
    layoutChange l r s = if kept = true then beginGroup (pathOf s l) .a t
      else report (srcLane l) .poolShort (pageNeed z.params) (pathToSync l .poolShort t) := by
  have cut : raise (evLayout l) (emptyReady (pathOf s l) true (abandonGroup (pathOf s l) s)) = pathCut l s := rfl
  have taken : setPathLayout l r ((pathCut l s).setLane l { (pathCut l s).lane l with
      layout := some (layoutOf (selectId s l) r) }) = recordTaken l r s := rfl
  simp only [layoutChange, cut, modLane_eq, (roles_pathCut l s).selectId l, taken, (roles_recordTaken l r s).selectId l, h,
    settled]

theorem settlePages_shrink {p : LaneId} {need : Nat} {s : State} (h : need ≤ s.pool.owned p) :
    settlePages p need s = (true, { s with pool := s.pool.shrink p need }) := if_pos h

theorem settlePages_grow {p : LaneId} {need : Nat} {s : State} (h : s.pool.owned p < need)
    (g : s.pool.grants p (need - s.pool.owned p) = true) :
    settlePages p need s = (true, { s with pool := s.pool.grant p (need - s.pool.owned p) }) := by
  simp [settlePages, Nat.not_le.mpr h, requestPages, g]

theorem settlePages_refused {p : LaneId} {need : Nat} {s : State} (h : s.pool.owned p < need)
    (g : s.pool.grants p (need - s.pool.owned p) = false) :
    settlePages p need s = (false, releasePath p true s) := by
  simp [settlePages, Nat.not_le.mpr h, requestPages, g]

theorem dropRef_single {l : LaneId} {s : State} (h : paired s l = false) : dropRef l s = s := by simp [dropRef, h]

theorem dropRef_paired {l : LaneId} {s : State} (h : paired s l = true) :
    dropRef l s = s.setPair (pairOf l) { s.pairAt (pairOf l) with ref := .none } := if_pos h

theorem inLockOrFade_iff (s : State) (l : LaneId) :
    inLockOrFade s l = true ↔ (s.lane l).state = .lock ∨ (s.lane l).state = .fade := decide_eq_true_iff

/-- A single lane, or one whose partner serves the path no longer, goes to SYNC alone (R34, R76). -/
theorem pathToSync_alone {l : LaneId} {s : State} (why : Reason)
    (h : paired s l = false ∨ inLockOrFade s (partnerOf l) = false) :
    pathToSync l why s = follow ((dropRef l s).setLane l ((s.lane l).toSync why)) := by
  have both : (paired s l && inLockOrFade s (partnerOf l)) = false := by rcases h with h | h <;> simp [h]
  have lane : (dropRef l s).lane l = s.lane l := by unfold dropRef; split <;> rfl
  simp only [pathToSync, both, modLane_eq, lane]
  rfl

/-- With a partner in LOCK or FADE the pair's lanes go to SYNC together (R76). -/
theorem pathToSync_both {l : LaneId} {s : State} (why : Reason) (hp : paired s l = true)
    (ho : inLockOrFade s (partnerOf l) = true) :
    pathToSync l why s = follow (((dropRef l s).setLane l ((s.lane l).toSync why)).setLane (partnerOf l)
      ((s.lane (partnerOf l)).toSync why)) := by
  have lane (j : LaneId) : (dropRef l s).lane j = s.lane j := by unfold dropRef; split <;> rfl
  simp only [pathToSync, hp, ho, modLane_eq, lane, lane_setLane_ne _ _ _ _ (partnerOf_ne l)]
  rfl

/-- Settles O47: the order of R34 and R89, an emptied ready list, the lanes that go to SYNC, and the page map. -/
theorem layoutChangeSettlesPages : Obligations.LayoutChangeSettlesPages := by
  refine ⟨fun l r s => ⟨fun absent => layoutChange_absent absent, fun z altered => ⟨fun enough => ?shrink,
    fun short grants => ?grow, fun short refused => ?refused⟩⟩,
    fun l r s => ⟨setPathLayout_single r, setPathLayout_paired r⟩, fun p s => ?emptied,
    fun l why s => ⟨fun single => ?single, fun pair idle => ?led, fun pair serving => ?both⟩, fun pool l n => ?map⟩
  case shrink =>
    have settled := settlePages_shrink (p := pathOf s l) (need := pageNeed z.params) (s := recordTaken l r s)
      (by rwa [recordTaken_pool])
    rw [layoutChange_settled altered settled, recordTaken_pool]
    rfl
  case grow =>
    have settled := settlePages_grow (p := pathOf s l) (need := pageNeed z.params) (s := recordTaken l r s)
      (by rwa [recordTaken_pool]) (by rwa [recordTaken_pool])
    rw [layoutChange_settled altered settled, recordTaken_pool]
    rfl
  case refused =>
    have settled := settlePages_refused (p := pathOf s l) (need := pageNeed z.params) (s := recordTaken l r s)
      (by rwa [recordTaken_pool]) (by rwa [recordTaken_pool])
    rw [layoutChange_settled altered settled, if_neg Bool.false_ne_true]
    rfl
  case emptied =>
    intro n d
    have emptied : emptyReady p true s = judgeCongestion d := emptyReady_eq p true s
    refine ⟨?_, rfl⟩
    rw [emptied]
    exact judgeCongestion_flag d
  case single => rw [pathToSync_alone why (.inl single), dropRef_single single]; rfl
  case led =>
    have alone : inLockOrFade s (partnerOf l) = false := Bool.eq_false_iff.mpr (idle ∘ (inLockOrFade_iff s _).mp)
    rw [pathToSync_alone why (.inr alone), dropRef_paired pair]
    rfl
  case both =>
    rw [pathToSync_both why pair ((inLockOrFade_iff s _).mpr serving), dropRef_paired pair]
    rfl
  case map =>
    exact ⟨count_shrinkMap_self l n pool.pageMap, count_shrinkMap_free l n pool.pageMap,
      shrinkMap_keeps_lowest l n pool.pageMap, fun i o ho h => shrinkMap_getElem?_other l n pool.pageMap i o ho h, rfl, rfl,
      owned_release_self pool l, freeCount_release pool l, fun k hk => owned_release_other pool hk, rfl, rfl⟩

end Sys2Proof.Machine
end

section
/-! SUPPORT. What takes a lane off its data path for good: the end of a holdoff (R38, R73, R74), LANE START and LANE STOP (R20,
R21). -/

namespace Sys2Proof.Machine

/-! ### A path released, with no reference left -/

theorem dropRef_rest (l : LaneId) (s : State) : dropRef l s = { s with pairs := (dropRef l s).pairs } := by
  unfold dropRef
  split <;> rfl

/-- What no reference leaves of the pairs depends on the pairs alone. -/
theorem dropRef_pairs_congr {s t : State} (h : t.pairs = s.pairs) (l : LaneId) : (dropRef l t).pairs = (dropRef l s).pairs := by
  have same : paired t l = paired s l := by simp only [paired, State.pairAt, h]
  unfold dropRef
  rw [same]
  split
  · simp only [State.modPair, State.setPair, State.pairAt, h]
  · exact h

/-- A lane's path released, and no reference left (R73, R88). -/
def pathGivenUp (l : LaneId) (counted : Bool) (s : State) : State := dropRef l (releasePath (pathOf s l) counted s)

/-- All that a path given up leaves, its pairs apart. -/
theorem pathGivenUp_rest (l : LaneId) (counted : Bool) (s : State) :
    pathGivenUp l counted s = { s with
      lanes := s.lanes.set (pathOf s l) ({ s.lane (pathOf s l) with group := none }.unready counted)
      pairs := (pathGivenUp l counted s).pairs
      pool := s.pool.release (pathOf s l)
      dec := { s.dec with congested := (pathGivenUp l counted s).dec.congested }
      ev := if (pathGivenUp l counted s).dec.congested then raiseIn s.ev 28 else lowerIn s.ev 28
      work := s.work ++ droppedWork (pathOf s l) counted (s.lane (pathOf s l)).ready.length } ∧
    ((pathGivenUp l counted s).dec.congested = true ↔
      (if s.dec.congested then s.dec.low < readyTotal (pathGivenUp l counted s)
        else s.dec.high ≤ readyTotal (pathGivenUp l counted s))) := by
  obtain ⟨flag, judged, low_or_high⟩ := judgeCongestion_flag (pathReleased (pathOf s l) counted s)
  have given : pathGivenUp l counted s = { judgeCongestion (pathReleased (pathOf s l) counted s) with
      pairs := (pathGivenUp l counted s).pairs } := by
    rw [← releasePath_eq]
    exact dropRef_rest l _
  rw [judged] at given
  have congested : (pathGivenUp l counted s).dec.congested = flag := by rw [given]
  have total : readyTotal (pathGivenUp l counted s) = readyTotal (pathReleased (pathOf s l) counted s) :=
    readyTotal_congr (fun j => by rw [given]; rfl)
  rw [congested, total]
  exact ⟨given, low_or_high⟩

/-- The pairs that a path given up leaves are those of the symbols discarded and the reference dropped. -/
theorem pathGivenUp_pairs (l : LaneId) (counted : Bool) (s : State) :
    (pathGivenUp l counted s).pairs = (dropRef l (discardWaiting (pathOf s l) s)).pairs := by
  refine dropRef_pairs_congr ?_ l
  rw [releasePath_eq]
  rfl

/-- A pair's path given up: no reference, no symbol waiting, no count of a frame (R73, R77; log 33). -/
theorem pathGivenUp_paired {l : LaneId} {s : State} (counted : Bool) (h : paired s l = true) :
    (pathGivenUp l counted s).pairs = s.pairs.set (pairOf l)
      { s.pairAt (pairOf l) with ref := .none, waiting := [], contrib := 0, doneFrame := none } := by
  have path : paired s (pathOf s l) = true := (paired_pathOf s l).trans h
  rw [pathGivenUp_pairs, discardWaiting_paired path, pairOf_pathOf, dropRef_paired, pairAt_setPair_self, setPair_setPair]
  · rfl
  · simpa [paired] using h

/-- A single lane's path given up: a primary's waiting symbols, left by an UNPAIR, go with its group (log 21). -/
theorem pathGivenUp_single {l : LaneId} {s : State} (counted : Bool) (h : paired s l = false) :
    (pathGivenUp l counted s).pairs =
      if l.val % 2 = 0 then s.pairs.set (pairOf l) { s.pairAt (pairOf l) with waiting := [] } else s.pairs := by
  rw [pathGivenUp_pairs, pathOf_single h, discardWaiting_single h, dropRef_single]
  · split <;> rfl
  · split
    · simpa [paired] using h
    · exact h

/-! ### The end of a holdoff -/

theorem departPath_given_up {l : LaneId} {s : State} (h : ¬(paired s l = true ∧ inLockOrFade s (partnerOf l) = true)) :
    departPath l s = pathGivenUp l true s := by
  rw [← Bool.and_eq_true] at h
  exact if_neg h

theorem departPath_kept {l : LaneId} {s : State} (h : paired s l = true ∧ inLockOrFade s (partnerOf l) = true) :
    departPath l s = if drivesPath s l = true then dropRef l (abandonGroup (pathOf s l) s) else s := by
  rw [← Bool.and_eq_true] at h
  exact if_pos h

theorem abandonGroup_paired {p : LaneId} {s : State} (h : paired s p = true) : abandonGroup p s =
    (s.setLane p { s.lane p with group := none }).setPair (pairOf p)
      { s.pairAt (pairOf p) with waiting := [], contrib := 0, doneFrame := none } :=
  discardWaiting_paired (s := s.setLane p { s.lane p with group := none }) h

theorem releaseToSearch_eq (l : LaneId) (s : State) : releaseToSearch l s =
    follow ((raise (evReleased l) (departPath l s)).setLane l (((departPath l s).lane l).toSearch 0)) := rfl

/-- At another time, or of a lane that is not in FADE, the end of a holdoff does nothing (R38; log 2). -/
theorem holdoffExpires_early {l : LaneId} {s : State} (h : (s.lane l).state ≠ .fade ∨ (s.lane l).deadline ≠ some s.time) :
    holdoffExpires l s = s := if_neg (fun both => h.elim (· both.1) (· both.2))

theorem holdoffExpires_due {l : LaneId} {s : State} (fade : (s.lane l).state = .fade)
    (due : (s.lane l).deadline = some s.time) : holdoffExpires l s = releaseToSearch l s := if_pos ⟨fade, due⟩

theorem holdoffExpiry_happened (l : LaneId) (s : State) :
    ∃ t, exec (.holdoffExpiry l) s = .next t ∧ Happened (holdoffExpires l s) t := ⟨_, rfl, happened _⟩

end Sys2Proof.Machine

namespace Sys2Proof.Laws

open Sys2Proof.Machine

/-- Settles O49: the deadline's test, and a path that is kept for the other lane or given up. -/
theorem holdoffExpires : Obligations.HoldoffExpires := by
  refine ⟨fun l s => ?expiry, fun l s => ⟨departPath l s, releaseToSearch_eq l s, fun kept follower => ?follower,
    fun kept driver => ?driver, fun gone => ?gone⟩⟩
  case expiry =>
    obtain ⟨t, ht, hap⟩ := holdoffExpiry_happened l s
    exact ⟨t, ht, fun early => holdoffExpires_early early ▸ hap, fun fade due => holdoffExpires_due fade due ▸ hap⟩
  case follower =>
    rw [departPath_kept ⟨kept.1, (inLockOrFade_iff s _).mpr kept.2⟩, follower]
    exact if_neg Bool.false_ne_true
  case driver =>
    have path : paired s (pathOf s l) = true := (paired_pathOf s l).trans kept.1
    rw [departPath_kept ⟨kept.1, (inLockOrFade_iff s _).mpr kept.2⟩, if_pos driver,
      dropRef_paired (((path_abandonGroup _ s).paired l).trans kept.1), abandonGroup_paired path, pairOf_pathOf,
      pairAt_setPair_self, setPair_setPair]
  case gone =>
    rw [departPath_given_up (fun h => gone ⟨h.1, (inLockOrFade_iff s _).mp h.2⟩)]
    obtain ⟨rest, congested⟩ := pathGivenUp_rest l true s
    exact ⟨rest, congested, pathGivenUp_paired true, pathGivenUp_single true⟩

end Sys2Proof.Laws
end

section
/-! SUPPORT. LANE START and LANE STOP of a lane that exists (R20, R21, R73). -/

namespace Sys2Proof.Machine

theorem isSecondary_iff (s : State) (l : LaneId) :
    isSecondary s l = true ↔ (s.pairAt (pairOf l)).formed = true ∧ l.val % 2 = 1 := by
  have odd : l.val % 2 ≠ 0 ↔ l.val % 2 = 1 := by omega
  simp [isSecondary, paired, isPrimary, odd]

theorem isSecondary_eq_false {s : State} {l : LaneId} (h : (s.pairAt (pairOf l)).formed = false ∨ l.val % 2 = 0) :
    isSecondary s l = false := by
  refine Bool.eq_false_iff.mpr (fun second => ?_)
  obtain ⟨formed, odd⟩ := (isSecondary_iff s l).mp second
  rcases h with single | even
  · rw [formed] at single; cases single
  · omega

/-- A lane that is no secondary holds its own data path. -/
theorem pathOf_eq_self {s : State} {l : LaneId} (h : isSecondary s l = false) : pathOf s l = l := by
  cases pair : paired s l with
  | false => exact pathOf_single pair
  | true =>
    have primary : isPrimary l = true := by simpa [isSecondary, pair] using h
    rw [pathOf_paired pair, primaryOf_pairOf, if_pos primary]

/-- A change of a lane, and of its partner where the two are paired (R20, R21). -/
def modLanes (l : LaneId) (f : Lane → Lane) (s : State) : State :=
  if paired s l then (s.modLane l f).modLane (partnerOf l) f else s.modLane l f

theorem modLanes_rest (l : LaneId) (f : Lane → Lane) (s : State) :
    modLanes l f s = { s with lanes := (modLanes l f s).lanes } := by
  unfold modLanes
  split <;> rfl

theorem lane_modLanes_member {l k : LaneId} {s : State} (f : Lane → Lane)
    (h : k = l ∨ (paired s l = true ∧ k = partnerOf l)) : (modLanes l f s).lane k = f (s.lane k) := by
  unfold modLanes
  rcases h with rfl | ⟨pair, rfl⟩
  · split
    · rw [lane_modLane_ne _ _ _ _ (partnerOf_ne k).symm, lane_modLane_self]
    · exact lane_modLane_self s k f
  · rw [if_pos pair, lane_modLane_self, lane_modLane_ne _ _ _ _ (partnerOf_ne l)]

theorem lane_modLanes_other {l k : LaneId} {s : State} (f : Lane → Lane) (hk : k ≠ l)
    (h : paired s l = false ∨ k ≠ partnerOf l) : (modLanes l f s).lane k = s.lane k := by
  unfold modLanes
  split
  · rename_i pair
    have ho : k ≠ partnerOf l := h.resolve_left (by simp [pair])
    rw [lane_modLane_ne _ _ _ _ ho, lane_modLane_ne _ _ _ _ hk]
  · exact lane_modLane_ne _ _ _ _ hk

/-! ### LANE START -/

theorem doLaneStart_secondary {l : LaneId} {s : State} (h : isSecondary s l = true) :
    doLaneStart l.val s = (s, .now (.refused .paired)) := by
  simp [doLaneStart, h]

theorem doLaneStart_busy {l : LaneId} {s : State} (h : isSecondary s l = false) (busy : (s.lane l).state ≠ .off) :
    doLaneStart l.val s = (s, .now (.refused .busy)) := by
  simp [doLaneStart, h, busy]

theorem doLaneStart_off {l : LaneId} {s : State} (h : isSecondary s l = false) (off : (s.lane l).state = .off) :
    doLaneStart l.val s = (modLanes l Lane.start s, .now (.done [])) := by
  simp [doLaneStart, h, off, modLanes]

/-! ### LANE STOP -/

theorem doLaneStop_secondary {l : LaneId} {s : State} (h : isSecondary s l = true) :
    doLaneStop l.val s = (s, .now (.refused .paired)) := by
  simp [doLaneStop, h]

theorem doLaneStop_off {l : LaneId} {s : State} (h : isSecondary s l = false) (off : (s.lane l).state = .off) :
    doLaneStop l.val s = (s, .now (.done [])) := by
  simp [doLaneStop, h, off]

theorem doLaneStop_on {l : LaneId} {s : State} (h : isSecondary s l = false) (on : (s.lane l).state ≠ .off) :
    doLaneStop l.val s = (stopLane l s, .now (.done [])) := by
  simp [doLaneStop, h, on]

/-- The codeword in flight marked if it is a lane's (R111). -/
def markIfOwned (l : LaneId) (cw : Codeword) : Codeword := if cw.owner = l then { cw with marked := true } else cw

theorem markCodeword_eq (l : LaneId) (s : State) :
    markCodeword l s = { s with dec := { s.dec with inflight := s.dec.inflight.map (markIfOwned l) } } := by
  obtain ⟨time, links, straps, lanes, pairs, pool, ⟨inflight, pointer, congested, high, low, stats⟩, rest⟩ := s
  cases inflight with
  | none => rfl
  | some cw =>
    simp only [markCodeword, Option.map_some, markIfOwned]
    split <;> rfl

theorem dropRef_markCodeword (l : LaneId) (s : State) : dropRef l (markCodeword l s) = markCodeword l (dropRef l s) := by
  have same : paired (markCodeword l s) l = paired s l := by rw [markCodeword_eq]; rfl
  unfold dropRef
  rw [same]
  split
  · simp only [markCodeword_eq]
    rfl
  · rfl

/-- A stop in the order of its parts: the path given up, the codeword marked, the lanes OFF (R21, R73). -/
theorem stopLane_eq {l : LaneId} {s : State} (h : isSecondary s l = false) :
    stopLane l s = modLanes l Lane.toOff (markCodeword l (pathGivenUp l false s)) := by
  have given : dropRef l (markCodeword l (releasePath l false s)) = markCodeword l (pathGivenUp l false s) := by
    rw [dropRef_markCodeword, pathGivenUp, pathOf_eq_self h]
  have pair : paired (markCodeword l (pathGivenUp l false s)) l = paired s l := by
    rw [markCodeword_eq]
    exact ((kept_releasePath _ false s).trans (kept_dropRef l _)).formed (pairOf l)
  simp only [stopLane, given, modLanes, pair]

theorem lane_markCodeword (l k : LaneId) (s : State) : (markCodeword l s).lane k = s.lane k := by
  rw [markCodeword_eq]
  rfl

theorem lane_congr {s t : State} (h : t.lanes = s.lanes) (k : LaneId) : t.lane k = s.lane k := by simp only [State.lane, h]

theorem pairAt_congr {s t : State} (h : t.pairs = s.pairs) (p : PairId) : t.pairAt p = s.pairAt p := by
  simp only [State.pairAt, h]

theorem pairAt_pathGivenUp_paired {l : LaneId} {s : State} (counted : Bool) (h : paired s l = true) :
    (pathGivenUp l counted s).pairAt (pairOf l) =
      { s.pairAt (pairOf l) with ref := .none, waiting := [], contrib := 0, doneFrame := none } := by
  have pairs := pathGivenUp_paired counted h
  exact (pairAt_congr (s := s.setPair (pairOf l) _) pairs _).trans (pairAt_setPair_self s _ _)

theorem pairAt_pathGivenUp_single {l : LaneId} {s : State} (counted : Bool) (h : paired s l = false) :
    (pathGivenUp l counted s).pairAt (pairOf l) =
      if l.val % 2 = 0 then { s.pairAt (pairOf l) with waiting := [] } else s.pairAt (pairOf l) := by
  have pairs := pathGivenUp_single counted h
  split at pairs
  next even => rw [if_pos even]; exact (pairAt_congr (s := s.setPair (pairOf l) _) pairs _).trans (pairAt_setPair_self s _ _)
  next odd => rw [if_neg odd]; exact pairAt_congr pairs _

theorem pairAt_pathGivenUp_other {l : LaneId} {p : PairId} {s : State} (counted : Bool) (hp : p ≠ pairOf l) :
    (pathGivenUp l counted s).pairAt p = s.pairAt p := by
  have set_other (x : Pair) (pairs : (pathGivenUp l counted s).pairs = (s.setPair (pairOf l) x).pairs) :
      (pathGivenUp l counted s).pairAt p = s.pairAt p := (pairAt_congr pairs p).trans (pairAt_setPair_ne s _ _ x hp)
  cases pair : paired s l with
  | true => exact set_other _ (pathGivenUp_paired counted pair)
  | false =>
    have pairs := pathGivenUp_single counted pair
    split at pairs
    · exact set_other _ pairs
    · exact pairAt_congr pairs p

/-- A path given up without a count changes a lane's group and ready list alone. -/
theorem lane_pathGivenUp_uncounted (l k : LaneId) (s : State) : (pathGivenUp l false s).lane k =
    { s.lane k with
      group := if k = pathOf s l then none else (s.lane k).group
      ready := if k = pathOf s l then [] else (s.lane k).ready } := by
  have lanes : (pathGivenUp l false s).lanes =
      (s.setLane (pathOf s l) ({ s.lane (pathOf s l) with group := none }.unready false)).lanes := by
    rw [(pathGivenUp_rest l false s).1]
    rfl
  rw [lane_congr lanes]
  by_cases hk : k = pathOf s l
  · subst hk
    simp only [lane_setLane_self, if_true]
    rfl
  · simp only [lane_setLane_ne _ _ _ _ hk, hk, if_false]

/-- A path given up without a count hands on no work. -/
theorem pathGivenUp_uncounted (l : LaneId) (s : State) : pathGivenUp l false s = { s with
    lanes := (pathGivenUp l false s).lanes, pairs := (pathGivenUp l false s).pairs, pool := s.pool.release (pathOf s l)
    dec := { s.dec with congested := (pathGivenUp l false s).dec.congested }
    ev := if (pathGivenUp l false s).dec.congested then raiseIn s.ev 28 else lowerIn s.ev 28 } := by
  obtain ⟨rest, -⟩ := pathGivenUp_rest l false s
  rw [droppedWork, if_neg Bool.false_ne_true, List.append_nil] at rest
  rw [rest]

/-- A stop, in full but for the lanes: the path given up, the mark, and the congestion flag judged (R21, R101). -/
theorem stopLane_rest {l : LaneId} {s : State} (h : isSecondary s l = false) :
    stopLane l s = { s with
      lanes := (stopLane l s).lanes
      pairs := (pathGivenUp l false s).pairs
      pool := s.pool.release l
      dec := { s.dec with
        inflight := s.dec.inflight.map (markIfOwned l), congested := (pathGivenUp l false s).dec.congested }
      ev := if (pathGivenUp l false s).dec.congested then raiseIn s.ev 28 else lowerIn s.ev 28 } := by
  have given := pathGivenUp_uncounted l s
  rw [pathOf_eq_self h] at given
  have marked : stopLane l s = { markCodeword l (pathGivenUp l false s) with lanes := (stopLane l s).lanes } := by
    rw [stopLane_eq h]
    exact modLanes_rest l _ _
  rw [marked, markCodeword_eq, given]

theorem paired_pathGivenUp (l : LaneId) (counted : Bool) (s : State) : paired (pathGivenUp l counted s) l = paired s l :=
  ((kept_releasePath _ counted s).trans (kept_dropRef l _)).formed (pairOf l)

/-- A stopped lane (R21). -/
theorem lane_stopLane_member {l k : LaneId} {s : State} (h : isSecondary s l = false)
    (hk : k = l ∨ (paired s l = true ∧ k = partnerOf l)) : (stopLane l s).lane k =
    { (s.lane k).toOff with
      group := if k = l then none else (s.lane k).group, ready := if k = l then [] else (s.lane k).ready } := by
  have pair : paired (markCodeword l (pathGivenUp l false s)) l = paired s l := by
    rw [markCodeword_eq]
    exact paired_pathGivenUp l false s
  rw [stopLane_eq h, lane_modLanes_member _ (pair.symm ▸ hk), lane_markCodeword, lane_pathGivenUp_uncounted,
    pathOf_eq_self h]
  rfl

theorem lane_stopLane_other {l k : LaneId} {s : State} (h : isSecondary s l = false) (hk : k ≠ l)
    (ho : paired s l = false ∨ k ≠ partnerOf l) : (stopLane l s).lane k = s.lane k := by
  have pair : paired (markCodeword l (pathGivenUp l false s)) l = paired s l := by
    rw [markCodeword_eq]
    exact paired_pathGivenUp l false s
  rw [stopLane_eq h, lane_modLanes_other _ hk (pair.symm ▸ ho), lane_markCodeword, lane_pathGivenUp_uncounted,
    pathOf_eq_self h, if_neg hk, if_neg hk]

/-- A lane that goes to OFF keeps its ready list, which the release has settled before (R21). -/
theorem ready_stopLane {l : LaneId} {s : State} (h : isSecondary s l = false) (k : LaneId) :
    ((stopLane l s).lane k).ready = ((pathGivenUp l false s).lane k).ready := by
  rw [lane_pathGivenUp_uncounted, pathOf_eq_self h]
  by_cases hk : k = l ∨ (paired s l = true ∧ k = partnerOf l)
  · rw [lane_stopLane_member h hk]
  · obtain ⟨other, apart⟩ := not_or.mp hk
    have ho : paired s l = false ∨ k ≠ partnerOf l := by
      cases pair : paired s l with
      | false => exact .inl rfl
      | true => exact .inr (fun partner => apart ⟨pair, partner⟩)
    rw [lane_stopLane_other h other ho]
    simp only [other, if_false]

/-- Settles O24: LANE START and LANE STOP by their tests; a stop is the path given up, the codeword marked, the lanes
OFF. -/
theorem laneStartAndStop : Obligations.LaneStartAndStop := by
  refine ⟨fun tag l s => ?start, fun tag l s => ?stop⟩
  case start =>
    obtain ⟨t, ht, taken⟩ := request_taken (c := .laneStart ⟨tag, none⟩ l.val) (s := s) rfl
    refine ⟨t, ht, fun formed odd => taken (doLaneStart_secondary ((isSecondary_iff s l).mpr ⟨formed, odd⟩)),
      fun first busy => taken (doLaneStart_busy (isSecondary_eq_false first) busy), fun first off =>
      ⟨_, taken (doLaneStart_off (isSecondary_eq_false first) off), modLanes_rest l _ s, fun k hk => ?_,
        fun k hk ho => lane_modLanes_other _ hk ho⟩⟩
    rw [lane_modLanes_member _ hk]
    exact ⟨rfl, rfl, rfl, rfl, rfl, rfl, rfl, rfl, rfl, rfl, rfl, rfl, rfl, rfl, rfl, rfl⟩
  case stop =>
    obtain ⟨t, ht, taken⟩ := request_taken (c := .laneStop ⟨tag, none⟩ l.val) (s := s) rfl
    refine ⟨t, ht, fun formed odd => taken (doLaneStop_secondary ((isSecondary_iff s l).mpr ⟨formed, odd⟩)),
      fun first off => taken (doLaneStop_off (isSecondary_eq_false first) off), fun first on => ⟨stopLane l s,
        taken (doLaneStop_on (isSecondary_eq_false first) on), ?_⟩⟩
    have first_lane := isSecondary_eq_false first
    have self := lane_stopLane_member first_lane (.inl rfl)
    have rest := stopLane_rest first_lane
    have pool : (stopLane l s).pool = s.pool.release l := by rw [rest]
    have pairs : (stopLane l s).pairs = (pathGivenUp l false s).pairs := by rw [rest]
    have flag : (stopLane l s).dec.congested = (pathGivenUp l false s).dec.congested := by rw [rest]
    refine ⟨?whole, fun k hk => ?member, ?group, ?ready, fun k hk ho => lane_stopLane_other first_lane hk ho, ?owned,
      fun k hk => ?others, ?reserved, ?cells, ?dec, ?congested, ?events, fun p hp => ?pairs, fun formed => ?paired,
      fun single even => ?primary, fun single odd => ?secondary⟩
    case whole => rw [rest]
    case member =>
      rw [lane_stopLane_member first_lane hk]
      exact ⟨rfl, rfl, rfl, rfl, rfl, rfl, rfl, rfl, rfl, rfl, rfl, rfl, rfl⟩
    case group => rw [self, if_pos rfl]
    case ready => rw [self]; exact if_pos rfl
    case owned => rw [pool, owned_release_self]
    case others => rw [pool, owned_release_other _ hk]
    case reserved => rw [pool]; rfl
    case cells => rw [pool]; rfl
    case dec => rw [rest]; rfl
    case congested =>
      rw [flag, readyTotal_congr (ready_stopLane first_lane)]
      exact (pathGivenUp_rest l false s).2
    case events => rw [rest]
    case pairs => rw [pairAt_congr pairs, pairAt_pathGivenUp_other false hp]
    case paired => rw [pairAt_congr pairs, pairAt_pathGivenUp_paired false formed]
    case primary => rw [pairAt_congr pairs, pairAt_pathGivenUp_single false single, if_pos even]
    case secondary => rw [pairAt_congr pairs, pairAt_pathGivenUp_single false single, if_neg (by omega)]

end Sys2Proof.Machine
end

section
/-! SUPPORT. The symbol events of MODE and SYNC that take no record (R23, R26, R27). `takeSample_mode` and
`takeSample_symbol` say what a sample that ends a symbol does before the lane's state judges the symbol. -/

namespace Sys2Proof.Machine

/-! ### The sample that ends a symbol -/

theorem sampleArrival_happened (l : LaneId) (i q : Int) (x : SymbolRx) (s : State) :
    ∃ t, exec (.sampleArrival l i q x) s = .next t ∧ Happened (takeSample l i q x s) t := ⟨_, rfl, happened _⟩

/-- A lane at the start of its next symbol (R5). -/
def Lane.timed (c : Lane) : Lane := { c with toGo := symbolLength c }

theorem countSample_due {l : LaneId} {x : SymbolRx} {s : State} (due : (s.lane l).toGo ≤ 1) :
    countSample l x s = symbolEvent l x (s.setLane l (s.lane l).timed) := if_pos due

/-- In SYNC, LOCK and FADE a sample only counts (R5). -/
theorem takeSample_symbol {l : LaneId} {s : State} (i q : Int) (x : SymbolRx) (up : s.links[l] = true)
    (due : (s.lane l).toGo ≤ 1) (st : (s.lane l).state = .sync ∨ (s.lane l).state = .lock ∨ (s.lane l).state = .fade) :
    takeSample l i q x s = symbolEvent l x (s.setLane l (s.lane l).timed) := by
  rw [← countSample_due due]
  rcases st with st | st | st <;> simp [takeSample, up, st]

theorem takeSample_sync {l : LaneId} {s : State} (i q : Int) (x : SymbolRx) (up : s.links[l] = true)
    (due : (s.lane l).toGo ≤ 1) (st : (s.lane l).state = .sync) :
    takeSample l i q x s = syncSymbol l x (s.setLane l (s.lane l).timed) := by
  have state : (s.lane l).timed.state = .sync := st
  rw [takeSample_symbol i q x up due (.inl st)]
  simp only [symbolEvent, lane_setLane_self, state]

theorem takeSample_lock {l : LaneId} {s : State} (i q : Int) (x : SymbolRx) (up : s.links[l] = true)
    (due : (s.lane l).toGo ≤ 1) (st : (s.lane l).state = .lock) :
    takeSample l i q x s = lockSymbol l x (s.setLane l (s.lane l).timed) := by
  have state : (s.lane l).timed.state = .lock := st
  rw [takeSample_symbol i q x up due (.inr (.inl st))]
  simp only [symbolEvent, lane_setLane_self, state]

theorem takeSample_fade {l : LaneId} {s : State} (i q : Int) (x : SymbolRx) (up : s.links[l] = true)
    (due : (s.lane l).toGo ≤ 1) (st : (s.lane l).state = .fade) :
    takeSample l i q x s = fadeSymbol l x (s.setLane l (s.lane l).timed) := by
  have state : (s.lane l).timed.state = .fade := st
  rw [takeSample_symbol i q x up due (.inr (.inr st))]
  simp only [symbolEvent, lane_setLane_self, state]

/-- A lane with a sample more (R24). -/
def Lane.sampled (c : Lane) (i q : Int) : Lane := { c with samples := correctedSample c i q :: c.samples }

/-- In MODE the sample is taken too (R24, R26). -/
theorem takeSample_mode {l : LaneId} {s : State} (i q : Int) (x : SymbolRx) (up : s.links[l] = true)
    (due : (s.lane l).toGo ≤ 1) (st : (s.lane l).state = .mode) :
    takeSample l i q x s = modeSymbol l (s.setLane l ((s.lane l).sampled i q).timed) := by
  have counted : takeSample l i q x s = countSample l x (s.setLane l ((s.lane l).sampled i q)) := by
    simp only [takeSample, up, st]
    rfl
  have state : ((s.lane l).sampled i q).timed.state = .mode := st
  rw [counted, countSample_due (by rwa [lane_setLane_self]), setLane_setLane, lane_setLane_self]
  simp only [symbolEvent, lane_setLane_self, state]

/-! ### An advance of the sweep -/

/-- A lane's advance to the next sweep position: into SEARCH with a reason, or a wrap (R23). -/
def sweptOn (l : LaneId) (c : Lane) (why : Reason) (b : State) : State :=
  if nextSweep c.setup.sweepSpan c.sweepPos = 0 then
    raise (evSearchWrap l) (b.setLane l { c.toSearch 0 with
      reason := .noSignal, counters := { c.counters with wraps := min 65535 (c.counters.wraps + 1) } })
  else b.setLane l { c.toSearch (nextSweep c.setup.sweepSpan c.sweepPos) with reason := why }

/-- What a symbol has counted before the advance is cleared by it; only a reason that it set stays (R23, R45). -/
theorem advanceSweep_eq {l : LaneId} {c d : Lane} {why : Reason} (b : State)
    (cleared : ∀ pos, d.toSearch pos = { c.toSearch pos with reason := why }) (same : d.sweepPos = c.sweepPos) :
    advanceSweep l (b.setLane l d) = sweptOn l c why b := by
  have setup : d.setup = c.setup := show (d.toSearch 0).setup = _ by rw [cleared]; rfl
  have counters : d.counters = c.counters := show (d.toSearch 0).counters = _ by rw [cleared]; rfl
  simp only [advanceSweep, modLane_eq, lane_setLane_self, setLane_setLane, cleared, setup, same, sweptOn]
  split
  next wrap => rw [wrap]; rfl
  next => rfl

/-! ### MODE -/

theorem modeSymbol_counts {l : LaneId} {b : State} {d : Lane} {k : Candidate} (hk : d.candidate = some k)
    (pass : d.setup.floorF ≤ confirmationRho d k) (few : d.confirm + 1 < 4) :
    modeSymbol l (b.setLane l d) = b.setLane l { d with confirm := d.confirm + 1 } := by
  simp only [modeSymbol, lane_setLane_self, hk, if_pos pass, if_neg (Nat.not_le.mpr few), modLane_eq, setLane_setLane]

theorem modeSymbol_confirms {l : LaneId} {b : State} {d : Lane} {k : Candidate} (hk : d.candidate = some k)
    (pass : d.setup.floorF ≤ confirmationRho d k) (four : 4 ≤ d.confirm + 1) :
    modeSymbol l (b.setLane l d) = b.setLane l { d with
      state := .sync, confirm := d.confirm + 1, noPreamble := 0, preFail := 0, samples := [], openPl := false } := by
  simp only [modeSymbol, lane_setLane_self, hk, if_pos pass, if_pos four, modLane_eq, setLane_setLane]

theorem modeSymbol_fails {l : LaneId} {b : State} {d : Lane} {k : Candidate} (hk : d.candidate = some k)
    (fail : confirmationRho d k < d.setup.floorF) :
    modeSymbol l (b.setLane l d) = advanceSweep l (b.setLane l d) := by
  simp only [modeSymbol, lane_setLane_self, hk, if_neg (Nat.not_le.mpr fail)]

/-! ### SYNC -/

theorem syncFailure_setLane (l : LaneId) (b : State) (d : Lane) :
    syncFailure l (b.setLane l d) =
      if 3 ≤ d.preFail + 1 then advanceSweep l (b.setLane l { d with noPreamble := 0, preFail := d.preFail + 1 })
      else b.setLane l { d with noPreamble := 0, preFail := d.preFail + 1 } := by
  simp only [syncFailure, modLane_eq, lane_setLane_self, setLane_setLane]

theorem syncSymbol_notFound {l : LaneId} {x : SymbolRx} {b : State} {d : Lane}
    (h : preambleOutcome d.candidate x.preamble = .notFound) :
    syncSymbol l x (b.setLane l d) =
      if 512 ≤ d.noPreamble + 1 then advanceSweep l (b.setLane l { d with noPreamble := d.noPreamble + 1 })
      else b.setLane l { d with noPreamble := d.noPreamble + 1 } := by
  simp only [syncSymbol, lane_setLane_self, h, modLane_eq, setLane_setLane]

theorem syncSymbol_crcFail {l : LaneId} {x : SymbolRx} {b : State} {d : Lane}
    (h : preambleOutcome d.candidate x.preamble = .crcFail) :
    syncSymbol l x (b.setLane l d) = syncFailure l (b.setLane l d) := by
  simp only [syncSymbol, lane_setLane_self, h]

theorem syncSymbol_invalid {l : LaneId} {x : SymbolRx} {b : State} {d : Lane} {n : Nat}
    (h : preambleOutcome d.candidate x.preamble = .invalid n) :
    syncSymbol l x (b.setLane l d) =
      syncFailure l ((report (srcLane l) .layoutBad n b).setLane l { d with reason := .layoutBad }) := by
  simp only [syncSymbol, lane_setLane_self, h, modLane_eq, setLane_setLane, report_setLane]

/-- Settles O40: the states and the outcomes of the preamble test, each with its count and its advance. -/
theorem modeAndSyncSymbols : Obligations.ModeAndSyncSymbols := by
  intro l i q x s c next outcome samples advanced failed up due
  obtain ⟨t, ht, hap⟩ := sampleArrival_happened l i q x s
  have in_sync (sync : c.state = .sync) : takeSample l i q x s = syncSymbol l x (s.setLane l c.timed) :=
    takeSample_sync i q x up due sync
  have swept (d : Lane) (why : Reason) (b : State) (cleared : ∀ pos, d.toSearch pos = { c.toSearch pos with reason := why })
      (same : d.sweepPos = c.sweepPos) : advanceSweep l (b.setLane l d) = advanced why b := advanceSweep_eq b cleared same
  refine ⟨_, t, ht, hap, fun k mode cand => ?mode, fun sync absent => ?absent, fun sync crc => ?crc,
    fun n sync invalid => ?invalid⟩
  case mode =>
    intro rho len
    have length : len = symbolLength c := by simp only [len, symbolLength, cand]
    rw [takeSample_mode i q x up due mode, length]
    exact ⟨fun pass few => modeSymbol_counts (d := (c.sampled i q).timed) cand pass few,
      fun pass four => modeSymbol_confirms (d := (c.sampled i q).timed) cand pass four,
      fun fail => (modeSymbol_fails (d := (c.sampled i q).timed) cand fail).trans (swept _ _ s (fun _ => rfl) rfl)⟩
  case absent =>
    rw [in_sync sync, syncSymbol_notFound (d := c.timed) absent]
    exact ⟨fun few => if_neg (Nat.not_le.mpr few), fun many => (if_pos many).trans (swept _ _ s (fun _ => rfl) rfl)⟩
  case crc =>
    rw [in_sync sync, syncSymbol_crcFail (d := c.timed) crc, syncFailure_setLane]
    exact ⟨fun few => if_neg (Nat.not_le.mpr few), fun three => (if_pos three).trans (swept _ _ s (fun _ => rfl) rfl)⟩
  case invalid =>
    rw [in_sync sync, syncSymbol_invalid (d := c.timed) invalid, syncFailure_setLane, report_setLane]
    exact ⟨fun few => if_neg (Nat.not_le.mpr few), fun three => (if_pos three).trans (swept _ _ _ (fun _ => rfl) rfl)⟩

end Sys2Proof.Machine
end

section
/-! SUPPORT. The expected preamble in LOCK (R31 to R33, R35, R74, R75): its failures with the entry to FADE, and a VALID record
with frame continuity, the layout check and the reference rules. -/

namespace Sys2Proof.Machine

/-! ### A symbol event in LOCK -/

/-- A lane whose symbol is counted (R41). -/
def Lane.counted (c : Lane) : Lane :=
  { c.timed with counters := { c.counters with symbols := wrap32 (c.counters.symbols + 1) } }

/-- The state in which a LOCK symbol is judged: the symbol counted, and what waits on the path aged or written (R41, R77;
log 21). -/
def lockBegun (l : LaneId) (s : State) : State := beginLockSymbol l (s.setLane l (s.lane l).timed)

/-- Besides the count, the beginning of a LOCK symbol is work on the path. -/
theorem path_lockBegun (l : LaneId) (s : State) : PathKept (s.setLane l (s.lane l).counted) (lockBegun l s) := by
  have counted : s.setLane l (s.lane l).counted = (s.setLane l (s.lane l).timed).modLane l (fun c =>
      { c with counters := { c.counters with symbols := wrap32 (c.counters.symbols + 1) } }) := by
    rw [modLane_eq, lane_setLane_self, setLane_setLane]
    rfl
  rw [counted]
  exact path_beginLockSymbol l _

/-- The judging lane: its symbol counted, and what work on the path may have changed. -/
theorem lane_lockBegun_self (l : LaneId) (s : State) : (lockBegun l s).lane l = { (s.lane l).counted with
    group := ((lockBegun l s).lane l).group, writeHalf := ((lockBegun l s).lane l).writeHalf
    ready := ((lockBegun l s).lane l).ready
    counters := { (s.lane l).counted.counters with dropped := ((lockBegun l s).lane l).counters.dropped } } := by
  have kept := (path_lockBegun l s).lanes l
  rwa [lane_setLane_self] at kept

theorem laneState_lockBegun (l j : LaneId) (s : State) : ((lockBegun l s).lane j).state = (s.lane j).state := by
  rw [(path_lockBegun l s).lanes j]
  by_cases hj : j = l
  · subst hj; rw [lane_setLane_self]; rfl
  · rw [lane_setLane_ne _ _ _ _ hj]

theorem roles_lockBegun (l : LaneId) (s : State) : SameRoles s (lockBegun l s) :=
  (roles_setLane s l (s.lane l).counted rfl).trans (path_lockBegun l s).roles

theorem lockSymbol_eq {l : LaneId} {x : SymbolRx} {s : State} {k : Candidate} {y : Layout}
    (hk : ((beginLockSymbol l s).lane l).candidate = some k) (hy : ((beginLockSymbol l s).lane l).layout = some y) :
    lockSymbol l x s =
      if ((beginLockSymbol l s).lane l).frame.pos < ((beginLockSymbol l s).lane l).frame.d then
        dataSymbol l k y x (beginLockSymbol l s)
      else expectedPreamble l y x (beginLockSymbol l s) := by
  simp only [lockSymbol, hk, hy]

/-- A symbol event in LOCK is a data symbol or the expected preamble (R6). -/
theorem takeSample_locked {l : LaneId} {s : State} {k : Candidate} {y : Layout} (i q : Int) (x : SymbolRx)
    (up : s.links[l] = true) (due : (s.lane l).toGo ≤ 1) (st : (s.lane l).state = .lock)
    (hk : (s.lane l).candidate = some k) (hy : (s.lane l).layout = some y) :
    takeSample l i q x s =
      if (s.lane l).frame.pos < (s.lane l).frame.d then dataSymbol l k y x (lockBegun l s)
      else expectedPreamble l y x (lockBegun l s) := by
  have lane := lane_lockBegun_self l s
  have candidate : ((lockBegun l s).lane l).candidate = some k := by rw [lane]; exact hk
  have layout : ((lockBegun l s).lane l).layout = some y := by rw [lane]; exact hy
  have frame : ((lockBegun l s).lane l).frame = (s.lane l).frame := by rw [lane]; rfl
  rw [takeSample_lock i q x up due st, ← frame]
  exact lockSymbol_eq candidate layout

/-! ### Entry to FADE -/

theorem path_abandonIfDriving (l : LaneId) (s : State) : PathKept s (abandonIfDriving l s) := by
  unfold abandonIfDriving
  split
  · exact path_abandonGroup _ s
  · exact .refl s

/-- A lane in FADE until a deadline (R35). -/
def Lane.faded (why : Reason) (deadline : Nat) (c : Lane) : Lane :=
  { c with state := .fade, reason := why, goodRun := 0, deadline := some deadline }

/-- FADED raised and handed on, and the path's group abandoned if the lane drives it (R35, R74). -/
def fadeBegun (l : LaneId) (s : State) : State := abandonIfDriving l ((raise (evFaded l) s).addWork [.occ (.faded l)])

theorem path_fadeBegun (l : LaneId) (s : State) : PathKept s (fadeBegun l s) :=
  (path_raise _ s).trans ((path_addWork _ _).trans (path_abandonIfDriving l _))

theorem enterFade_eq (l : LaneId) (why : Reason) (s : State) : enterFade l why s =
    follow ((fadeBegun l s).setLane l (((fadeBegun l s).lane l).faded why
      (wrapTime (s.time + (s.lane l).setup.holdoff * 27000)))) := by
  have setup : ((fadeBegun l s).lane l).setup = (s.lane l).setup := (path_fadeBegun l s).roles.setup l
  have time : (fadeBegun l s).time = s.time := by rw [(path_fadeBegun l s).rest]
  rw [← setup, ← time]
  rfl

/-! ### Failures of the expected preamble -/

/-- A lane with one failure of its expected preamble more (R31). -/
def failureCounted (l : LaneId) (b : State) : State := b.setLane l { b.lane l with preFail := (b.lane l).preFail + 1 }

theorem roles_failureCounted (l : LaneId) (b : State) : SameRoles b (failureCounted l b) := roles_setLane b l _ rfl

theorem failedExpected_second {l : LaneId} {y : Layout} {invalid : Bool} {b : State} (h : 2 ≤ (b.lane l).preFail + 1) :
    failedExpected l y invalid b = enterFade l (if invalid then .layoutBad else .noSignal) (failureCounted l b) := if_pos h

/-- The frame that a preamble begins at a lane, by the pair and the partner's state (R6, R80). -/
theorem startFrame_eq {s b : State} {l : LaneId} (roles : SameRoles s b)
    (partner : (b.lane (partnerOf l)).state = (s.lane (partnerOf l)).state) (d : Nat) (valid : Bool) :
    startFrame b l d valid =
      ⟨0, d, valid, 0, 0, 0, paired s l && decide ((s.lane (partnerOf l)).state = .lock)⟩ := by
  simp only [startFrame, roles.paired, partner]

theorem abandonIfDriving_eq {s b : State} (l : LaneId) (roles : SameRoles s b) :
    abandonIfDriving l b = if drivesPath s l = true then abandonGroup (pathOf s l) b else b := by
  simp only [abandonIfDriving, roles.drivesPath, roles.pathOf]

/-- The first failure: no group if the lane drives its path, and a frame without a record (R31). -/
theorem failedExpected_first {s b : State} {l : LaneId} (y : Layout) (invalid : Bool) (roles : SameRoles s b)
    (partner : (b.lane (partnerOf l)).state = (s.lane (partnerOf l)).state) (h : (b.lane l).preFail + 1 < 2) :
    failedExpected l y invalid b =
      (let m := failureCounted l b
      let g := if drivesPath s l = true then abandonGroup (pathOf s l) m else m
      g.setLane l { g.lane l with
        frame := ⟨0, y.d, false, 0, 0, 0, paired s l && decide ((s.lane (partnerOf l)).state = .lock)⟩ }) := by
  have counted := roles.trans (roles_failureCounted l b)
  have kept := path_abandonIfDriving l (failureCounted l b)
  have partner_now : ((abandonIfDriving l (failureCounted l b)).lane (partnerOf l)).state =
      (s.lane (partnerOf l)).state := by
    rw [kept.lanes, failureCounted, lane_setLane_ne _ _ _ _ (partnerOf_ne l)]
    exact partner
  have first : failedExpected l y invalid b =
      (abandonIfDriving l (failureCounted l b)).setLane l { (abandonIfDriving l (failureCounted l b)).lane l with
        frame := startFrame (abandonIfDriving l (failureCounted l b)) l y.d false } := if_neg (Nat.not_le.mpr h)
  rw [first, startFrame_eq (counted.trans kept.roles) partner_now, abandonIfDriving_eq l counted]

/-- What a failed test has reported: an INVALID one (R31). -/
def failureTold (l : LaneId) (outcome : PreambleOutcome) (b : State) : State :=
  match outcome with
  | .invalid n => report (srcLane l) .layoutBad n b
  | _ => b

theorem path_failureTold (l : LaneId) (outcome : PreambleOutcome) (b : State) : PathKept b (failureTold l outcome b) := by
  unfold failureTold
  split
  · exact path_report _ _ _ b
  · exact .refl b

theorem lane_failureTold (l j : LaneId) (outcome : PreambleOutcome) (b : State) :
    (failureTold l outcome b).lane j = b.lane j := by
  unfold failureTold
  split
  · exact lane_report _ _ _ b j
  · rfl

/-- Every outcome but VALID is a failure (R31). -/
theorem expectedPreamble_failed {l : LaneId} {y : Layout} {x : SymbolRx} {b : State}
    (h : ∀ r, preambleOutcome (b.lane l).candidate x.preamble ≠ .valid r) :
    ∃ invalid, (invalid = true ↔ ∃ n, preambleOutcome (b.lane l).candidate x.preamble = .invalid n) ∧
      expectedPreamble l y x b =
        failedExpected l y invalid (failureTold l (preambleOutcome (b.lane l).candidate x.preamble) b) := by
  cases outcome : preambleOutcome (b.lane l).candidate x.preamble with
  | valid r => exact absurd outcome (h r)
  | notFound => exact ⟨false, by simp, by simp only [expectedPreamble, outcome, failureTold]⟩
  | crcFail => exact ⟨false, by simp, by simp only [expectedPreamble, outcome, failureTold]⟩
  | invalid n => exact ⟨true, by simp, by simp only [expectedPreamble, outcome, failureTold]⟩

/-- Settles O45: the entry to FADE, and the failures of the expected preamble, first and second. -/
theorem expectedPreambleFails : Obligations.ExpectedPreambleFails := by
  refine ⟨fun l why s => enterFade_eq l why s, ?_⟩
  intro l i q x k y s c outcome b told m up due st hk hy frame fails
  obtain ⟨t, ht, hap⟩ := sampleArrival_happened l i q x s
  have told_eq : told = failureTold l outcome (lockBegun l s) := rfl
  have roles : SameRoles s told := (roles_lockBegun l s).trans (path_failureTold l outcome _).roles
  have partner : (told.lane (partnerOf l)).state = (s.lane (partnerOf l)).state := by
    rw [told_eq, lane_failureTold, laneState_lockBegun]
  have preFail : (told.lane l).preFail = c.preFail := by
    rw [told_eq, lane_failureTold, lane_lockBegun_self]
    rfl
  have counted : failureCounted l told = m := by
    simp only [failureCounted, preFail, m]
  have candidate : ((lockBegun l s).lane l).candidate = c.candidate := by
    rw [lane_lockBegun_self]
    rfl
  obtain ⟨invalid, which, failed⟩ := expectedPreamble_failed (l := l) (y := y) (x := x) (b := lockBegun l s)
    (by rwa [candidate])
  rw [candidate] at which failed
  rw [takeSample_locked i q x up due st hk hy, if_neg (Nat.not_lt.mpr frame), failed] at hap
  refine ⟨_, t, ht, hap, fun first => ?first, fun second heard => ?heard, fun second n bad => ?bad⟩
  case first =>
    have one : (told.lane l).preFail + 1 < 2 := preFail ▸ first
    exact (failedExpected_first y invalid roles partner one).trans (by rw [counted])
  case heard =>
    have valid : invalid = false := Bool.eq_false_iff.mpr (fun h => (which.mp h).elim heard)
    have two : 2 ≤ (told.lane l).preFail + 1 := preFail ▸ second
    rw [valid]
    exact (failedExpected_second two).trans (by rw [counted]; rfl)
  case bad =>
    have two : 2 ≤ (told.lane l).preFail + 1 := preFail ▸ second
    rw [which.mpr ⟨n, bad⟩]
    exact (failedExpected_second two).trans (by rw [counted]; rfl)

end Sys2Proof.Machine
end

section
/-! SUPPORT. A VALID record where the lane takes it for its frame: in LOCK (R31 to R33, R75, R76) and at the return from FADE
(R36, R37). -/

namespace Sys2Proof.Machine

/-! ### The layout check -/

/-- A record leaves the pipe unaltered where the parameters held are those of its selected pipe (R33; log 18). -/
theorem altersPipe_eq_false_iff {held : Option PipeParams} {id : Nat} {r : FrameRecord} :
    altersPipe held id r = false ↔ ∃ w z, held = some w ∧ selectPipe id r = some z ∧ z.params = w := by
  unfold altersPipe
  cases held with
  | none => simp
  | some w =>
    cases selectPipe id r with
    | none => simp
    | some z => exact ⟨fun h => ⟨w, z, rfl, rfl, by simpa using h⟩,
      by rintro ⟨_, _, ⟨⟩, ⟨⟩, h⟩; simpa using h⟩

theorem checkLayout_unaltered {l : LaneId} {held : Option PipeParams} {r : FrameRecord} {s t : State} (roles : SameRoles s t)
    (h : ∃ w z, held = some w ∧ selectPipe (selectId s l) r = some z ∧ z.params = w) :
    checkLayout l held r t = setPathLayout l r t := by
  rw [checkLayout, roles.selectId, altersPipe_eq_false_iff.mpr h, if_neg Bool.false_ne_true]

theorem checkLayout_altered {l : LaneId} {held : Option PipeParams} {r : FrameRecord} {s t : State} (roles : SameRoles s t)
    (h : ¬∃ w z, held = some w ∧ selectPipe (selectId s l) r = some z ∧ z.params = w) :
    checkLayout l held r t = layoutChange l r t := by
  rw [checkLayout, roles.selectId, if_pos (Bool.eq_true_of_not_eq_false (fun no => h (altersPipe_eq_false_iff.mp no)))]

/-! ### A VALID expected preamble -/

/-- The lane after a VALID expected preamble (R31): the record its own layout, a frame begun. -/
def frameBegun (l : LaneId) (r : FrameRecord) (b : State) : State :=
  b.setLane l { b.lane l with
    preFail := 0, layout := some (layoutOf (selectId b l) r), frame := startFrame b l r.d true }

theorem roles_frameBegun (l : LaneId) (r : FrameRecord) (b : State) : SameRoles b (frameBegun l r b) := roles_setLane b l _ rfl

theorem group_frameBegun (l j : LaneId) (r : FrameRecord) (b : State) :
    ((frameBegun l r b).lane j).group = (b.lane j).group := by
  unfold frameBegun
  by_cases hj : j = l
  · subst hj; rw [lane_setLane_self]
  · rw [lane_setLane_ne _ _ _ _ hj]

/-- Frame continuity (R32): a counter that does not follow, or a path without a group, begins a group again. -/
def framesOn (l : LaneId) (last : Nat) (r : FrameRecord) (m : State) : State :=
  if r.counter = (last + 1) % 256 ∧ (m.lane (pathOf m l)).group.isSome = true then m else beginAgain (pathOf m l) m

theorem roles_framesOn (l : LaneId) (last : Nat) (r : FrameRecord) (m : State) : SameRoles m (framesOn l last r m) := by
  unfold framesOn
  split
  · exact .refl m
  · exact (path_beginAgain _ m).roles

theorem drivingPreamble_eq (l : LaneId) (last : Nat) (held : Option PipeParams) (r : FrameRecord) (m : State) :
    drivingPreamble l last held r m = checkLayout l held r (framesOn l last r m) := by
  simp only [drivingPreamble, framesOn, Bool.and_eq_true, decide_eq_true_eq]

theorem lane_frameBegun_ne {l j : LaneId} (r : FrameRecord) (b : State) (h : j ≠ l) :
    (frameBegun l r b).lane j = b.lane j := lane_setLane_ne b l j _ h

/-- Whether the reference moves from the other lane to this one (R75): to a primary, and to a secondary whose primary is not
in LOCK. -/
def refMoves (s : State) (l : LaneId) : Bool :=
  decide (((s.pairAt (pairOf l)).ref = .secondary ∧ l.val % 2 = 0) ∨
    ((s.pairAt (pairOf l)).ref = .primary ∧ l.val % 2 = 1 ∧ (s.lane (partnerOf l)).state ≠ .lock))

theorem refName_eq (l : LaneId) : refName l = if l.val % 2 = 0 then .primary else .secondary := by
  simp [refName, isPrimary]

theorem ne_none_of_refName {ref : RefLane} {l : LaneId} (h : ref = refName l) : ref ≠ .none := by
  rw [h, refName_eq]
  split <;> exact RefLane.noConfusion

/-- A reference does not move to itself. -/
theorem refMoves_self {s : State} {l : LaneId} (h : (s.pairAt (pairOf l)).ref = refName l) : refMoves s l = false := by
  rw [refName_eq] at h
  refine decide_eq_false ?_
  rintro (⟨second, even⟩ | ⟨first, odd, -⟩)
  · rw [if_pos even, second] at h; cases h
  · rw [if_neg (by omega), first] at h; cases h

theorem refMoves_congr {s b : State} {l : LaneId} (roles : SameRoles s b)
    (partner : (b.lane (partnerOf l)).state = (s.lane (partnerOf l)).state) : refMoves b l = refMoves s l := by
  simp only [refMoves, roles.ref, partner]

/-- A VALID expected preamble, by the lane's place in its pair (R75). -/
theorem validExpected_eq (l : LaneId) (y : Layout) (r : FrameRecord) (b : State) :
    validExpected l y r b =
      if paired b l = true then
        if (b.pairAt (pairOf l)).ref = .none then takeReference l false r (frameBegun l r b)
        else if refMoves b l = true then
          switchReference l r (frameBegun l r b)
        else if drivesPath b l = true then
          (drivingPreamble l (b.pairAt (pairOf l)).lastFrame (pathParams b (pathOf b l)) r (frameBegun l r b)).modPair
            (pairOf l) (fun z => { z with lastFrame := r.counter })
        else frameBegun l r b
      else drivingPreamble l y.lastFrame (pathParams b (pathOf b l)) r (frameBegun l r b) := by
  have begun : (b.modLane l fun c => { c with
      preFail := 0, layout := some (layoutOf (selectId b l) r), frame := startFrame b l r.d true }) = frameBegun l r b := rfl
  have pair : paired (frameBegun l r b) l = paired b l := rfl
  have drives : drivesPath (frameBegun l r b) l = drivesPath b l := rfl
  have pairs : (frameBegun l r b).pairAt (pairOf l) = b.pairAt (pairOf l) := rfl
  simp only [validExpected, begun, pair, drives, pairs]
  rcases Nat.mod_two_eq_zero_or_one l.val with even | odd
  · have primary : isPrimary l = true := (isPrimary_iff l).mpr even
    cases ref : (b.pairAt (pairOf l)).ref <;> simp [refMoves, ref, even, primary]
  · have second : isPrimary l = false := by simp [isPrimary, odd]
    have partner : (frameBegun l r b).lane (primaryOf (pairOf l)) = b.lane (partnerOf l) := by
      rw [primaryOf_pairOf, if_neg (by simp [second]), lane_frameBegun_ne r b (partnerOf_ne l)]
    cases ref : (b.pairAt (pairOf l)).ref <;> simp [refMoves, ref, odd, second, partner]

theorem expectedPreamble_valid {l : LaneId} {y : Layout} {x : SymbolRx} {r : FrameRecord} {b : State}
    (h : preambleOutcome (b.lane l).candidate x.preamble = .valid r) : expectedPreamble l y x b = validExpected l y r b := by
  simp only [expectedPreamble, h]

/-- Settles O46: a lane in no pair, and the reference rules of a pair, case by case. -/
theorem expectedRecordTaken : Obligations.ExpectedRecordTaken := by
  intro l i q x r k y s c p path b m unaltered continued ref moves took up due st hk hy frame valid
  obtain ⟨t, ht, hap⟩ := sampleArrival_happened l i q x s
  have roles : SameRoles s b := roles_lockBegun l s
  have partner : (b.lane (partnerOf l)).state = (s.lane (partnerOf l)).state := laneState_lockBegun l _ s
  have candidate : (b.lane l).candidate = c.candidate := by
    show ((lockBegun l s).lane l).candidate = _
    rw [lane_lockBegun_self]
    rfl
  have begun : frameBegun l r b = m := by
    simp only [frameBegun, startFrame_eq roles partner, roles.selectId]
    rfl
  have later : SameRoles s m := begun ▸ roles.trans (roles_frameBegun l r b)
  have frames (last : Nat) : framesOn l last r m = continued last := by
    have group : (m.lane path).group = (b.lane path).group := begun ▸ group_frameBegun l path r b
    simp only [framesOn, later.pathOf, continued, ← group, path]
  have all_later (last : Nat) : SameRoles s (continued last) := frames last ▸ later.trans (roles_framesOn l last r m)
  rw [takeSample_locked i q x up due st hk hy, if_neg (Nat.not_lt.mpr frame)] at hap
  have taken := expectedPreamble_valid (y := y) (x := x) (b := b) (candidate ▸ valid)
  have eq := validExpected_eq l y r b
  simp only [refMoves_congr roles partner, begun, roles.paired, roles.ref, roles.pathOf, roles.drivesPath,
    drivingPreamble_eq, frames] at eq
  have follower (h : paired s l = true) (other : ref ≠ refName l) : ¬drivesPath s l = true :=
    fun drives => other ((drivesPath_paired h).mp drives)
  refine ⟨validExpected l y r b, t, ht, taken ▸ hap, fun single same => ?_, fun single alters => ?_, fun pair none => ?_,
    fun pair switch => ?_, fun pair self same => ?_, fun pair self alters => ?_, fun pair some other stays => ?_⟩ <;>
    rw [eq]
  · rw [if_neg (by simp [single]), checkLayout_unaltered (all_later _) same,
      setPathLayout_single r (((all_later _).paired l).trans single)]
  · rw [if_neg (by simp [single]), checkLayout_altered (all_later _) alters]
  · rw [if_pos pair, if_pos none]
  · have held : ref ≠ .none := by
      rintro none
      rcases switch with ⟨second, -⟩ | ⟨first, -⟩
      · rw [none] at second; cases second
      · rw [none] at first; cases first
    have moved : refMoves s l = true := decide_eq_true switch
    rw [if_pos pair, if_neg held, if_pos moved]
  · rw [if_pos pair, if_neg (ne_none_of_refName self), refMoves_self self, if_neg Bool.false_ne_true,
      if_pos ((drivesPath_paired pair).mpr self), checkLayout_unaltered (all_later _) same]
  · rw [if_pos pair, if_neg (ne_none_of_refName self), refMoves_self self, if_neg Bool.false_ne_true,
      if_pos ((drivesPath_paired pair).mpr self), checkLayout_altered (all_later _) alters]
  · have moved : refMoves s l = false := decide_eq_false stays
    rw [if_pos pair, if_neg some, moved, if_neg Bool.false_ne_true, if_neg (follower pair other)]

/-! ### A symbol in FADE -/

/-- Path parameters of a lane whose layout stays (R75, R90). -/
theorem pathParams_setLane {s : State} {l : LaneId} {c : Lane} (h : c.layout = (s.lane l).layout) (p : LaneId) :
    pathParams (s.setLane l c) p = pathParams s p := by
  have layout : ((s.setLane l c).lane p).layout = (s.lane p).layout := by
    by_cases hp : p = l
    · subst hp; rw [lane_setLane_self, h]
    · rw [lane_setLane_ne _ _ _ _ hp]
  unfold pathParams
  rw [layout]
  rfl

theorem fadeSymbol_notFound {l : LaneId} {x : SymbolRx} {b : State} {d : Lane}
    (h : preambleOutcome d.candidate x.preamble = .notFound) :
    fadeSymbol l x (b.setLane l d) =
      if isBlanked d.quality.noise d.setup.impulseJ
          (pilotError d.quality.estimate (pilotsInForce d.candidate d.layout x)) = true then countBlanked l (b.setLane l d)
      else b.setLane l { d with
        goodRun := if pilotCorrelation d.quality.estimate (pilotsInForce d.candidate d.layout x) < d.setup.floorF then 0
          else min 4 (d.goodRun + 1) } := by
  simp only [fadeSymbol, lane_setLane_self, h, modLane_eq, setLane_setLane]
  split
  · rfl
  · split <;> rfl

/-- A failed test in FADE ends the good run (R36). -/
theorem fadeSymbol_failed {l : LaneId} {x : SymbolRx} {b : State} {d : Lane}
    (h : preambleOutcome d.candidate x.preamble = .crcFail ∨ ∃ n, preambleOutcome d.candidate x.preamble = .invalid n) :
    fadeSymbol l x (b.setLane l d) = b.setLane l { d with goodRun := 0 } := by
  rcases h with h | ⟨n, h⟩ <;> simp only [fadeSymbol, lane_setLane_self, h, modLane_eq, setLane_setLane]

theorem fadeSymbol_valid {l : LaneId} {x : SymbolRx} {b : State} {d : Lane} {r : FrameRecord}
    (h : preambleOutcome d.candidate x.preamble = .valid r) :
    fadeSymbol l x (b.setLane l d) = if 4 ≤ d.goodRun then recover l r (b.setLane l d) else b.setLane l d := by
  simp only [fadeSymbol, lane_setLane_self, h]

theorem countBlanked_setLane (l : LaneId) (b : State) (d : Lane) :
    countBlanked l (b.setLane l d) = (b.setLane l { d with
      counters := { d.counters with blanked := wrap32 (d.counters.blanked + 1) } }).addWork [.occ (.blanked l)] := by
  simp only [countBlanked, modLane_eq, lane_setLane_self, setLane_setLane]

theorem roles_lockIn (l : LaneId) (fromSync : Bool) (r : FrameRecord) (pilots : List PilotRx) (b : State) :
    SameRoles b (lockIn l fromSync r pilots b) := by
  refine SameRoles.trans (roles_setLane b l _ ?_) ((path_raise (evLocked l) _).roles.trans (roles_follow _))
  rfl

/-- The return to LOCK by the lane's place in its pair (R37, R75). -/
theorem recover_eq {l : LaneId} {r : FrameRecord} {b e : State} (entered : lockIn l false r [] b = e) :
    recover l r b =
      if paired e l = true then
        if (e.pairAt (pairOf l)).ref = .none then takeReference l false r e
        else if drivesPath e l = true then
          (checkLayout l (pathParams b (pathOf b l)) r (beginAgain (pathOf e l) e)).modPair (pairOf l)
            (fun z => { z with lastFrame := r.counter })
        else e
      else checkLayout l (pathParams b (pathOf b l)) r (beginAgain l e) := by
  subst entered
  rfl

/-- Settles O48: the outcomes of the preamble test in FADE, and the return to LOCK by the reference rules. -/
theorem fadeSymbols : Obligations.FadeSymbols := by
  intro l i q x s c outcome pilots blanked below moved up due st
  obtain ⟨t, ht, hap⟩ := sampleArrival_happened l i q x s
  rw [takeSample_fade i q x up due st] at hap
  have event {a : State} (h : fadeSymbol l x (s.setLane l c.timed) = a) : Happened a t := h ▸ hap
  refine ⟨t, ht, fun absent hit => event ?blanked, fun absent miss low => event ?low, fun absent miss high => event ?high,
    fun crc => event (fadeSymbol_failed (d := c.timed) (.inl crc)),
    fun n bad => event (fadeSymbol_failed (d := c.timed) (.inr ⟨n, bad⟩)), fun r valid few => event ?few,
    fun r valid four => ?back⟩
  case blanked =>
    rw [fadeSymbol_notFound (d := c.timed) absent]
    exact (if_pos hit).trans (countBlanked_setLane l s c.timed)
  case low =>
    have correlation : pilotCorrelation c.quality.estimate pilots < c.setup.floorF := of_decide_eq_true low
    rw [fadeSymbol_notFound (d := c.timed) absent]
    exact (if_neg (Bool.eq_false_iff.mp miss)).trans (congrArg moved (if_pos correlation))
  case high =>
    have correlation : ¬pilotCorrelation c.quality.estimate pilots < c.setup.floorF := of_decide_eq_false high
    rw [fadeSymbol_notFound (d := c.timed) absent]
    exact (if_neg (Bool.eq_false_iff.mp miss)).trans (congrArg moved (if_neg correlation))
  case few =>
    rw [fadeSymbol_valid (d := c.timed) valid]
    exact if_neg (Nat.not_le.mpr few)
  case back =>
    intro sel unaltered e again ref took
    have recovered : fadeSymbol l x (s.setLane l c.timed) = recover l r (s.setLane l c.timed) :=
      (fadeSymbol_valid (d := c.timed) valid).trans (if_pos four)
    have timed : SameRoles s (s.setLane l c.timed) := roles_setLane s l _ rfl
    have entered : lockIn l false r [] (s.setLane l c.timed) = e := by
      have frame := startFrame_eq (d := r.d) (valid := true) timed
        (congrArg Lane.state (lane_setLane_ne s l (partnerOf l) c.timed (partnerOf_ne l)))
      simp only [lockIn, modLane_eq, lane_setLane_self, setLane_setLane, frame, timed.selectId]
      rfl
    have later : SameRoles s e := entered ▸ timed.trans (roles_lockIn l false r [] _)
    have all_later : SameRoles s again := later.trans (path_beginAgain _ e).roles
    have alone (single : paired s l = false) : beginAgain l e = again := by simp only [again, pathOf_single single]
    have eq := recover_eq entered
    simp only [later.paired, later.ref, later.drivesPath, later.pathOf, timed.pathOf,
      pathParams_setLane (c := c.timed) (l := l) (s := s) rfl] at eq
    refine ⟨recover l r (s.setLane l c.timed), recovered ▸ hap, fun single same => ?_, fun single alters => ?_,
      fun pair none => ?_, fun pair self same => ?_, fun pair self alters => ?_, fun pair some other => ?_⟩ <;> rw [eq]
    · rw [if_neg (by simp [single]), alone single, checkLayout_unaltered all_later same,
        setPathLayout_single r ((all_later.paired l).trans single)]
    · rw [if_neg (by simp [single]), alone single, checkLayout_altered all_later alters]
    · rw [if_pos pair, if_pos none]
    · rw [if_pos pair, if_neg (ne_none_of_refName self), if_pos ((drivesPath_paired pair).mpr self),
        checkLayout_unaltered all_later same]
    · rw [if_pos pair, if_neg (ne_none_of_refName self), if_pos ((drivesPath_paired pair).mpr self),
        checkLayout_altered all_later alters]
    · rw [if_pos pair, if_neg some, if_neg (fun drives => other ((drivesPath_paired pair).mp drives))]

end Sys2Proof.Machine
end

section
/-! SUPPORT. What a data symbol in LOCK leaves alone: every lane but the symbol's own and its path's, where only a take can
shorten a ready list (`OthersKept`), and the blocks beside (`State.beside`) (R30, R41, R77, R93, R102). -/

namespace Sys2Proof.Machine

/-! ### The lanes beside -/

/-- Lanes that are not `own` keep all but a ready list, from which the decoder may take (R102). -/
def OthersKept (own : LaneId → Prop) (s t : State) : Prop :=
  ∀ j, ¬own j → t.lane j = { s.lane j with ready := (t.lane j).ready }

section
variable {own : LaneId → Prop}

theorem OthersKept.refl (s : State) : OthersKept own s s := fun _ _ => rfl

theorem OthersKept.trans {s t u : State} (h : OthersKept own s t) (k : OthersKept own t u) : OthersKept own s u :=
  fun j hj => by rw [k j hj, h j hj]

theorem OthersKept.of_lanes {s t : State} (h : t.lanes = s.lanes) : OthersKept own s t :=
  fun j _ => by rw [lane_congr h]

theorem others_setLane {l : LaneId} (hl : own l) (s : State) (c : Lane) : OthersKept own s (s.setLane l c) :=
  fun j hj => by rw [lane_setLane_ne s l j c (fun e => hj (e ▸ hl))]

theorem others_report (source : Nat) (reason : FaultReason) (info : Nat) (s : State) :
    OthersKept own s (report source reason info s) := .of_lanes (by rw [report_rest])

/-- A take shortens one ready list (R103). -/
theorem others_takeIfIdle (s : State) : OthersKept own s (takeIfIdle s) := by
  unfold takeIfIdle
  split
  · exact .refl s
  · split
    · exact .refl s
    · rename_i chosen _
      split
      · exact .refl s
      · rename_i e rest _
        intro j _
        show (s.setLane chosen { s.lane chosen with ready := rest }).lane j = { s.lane j with
          ready := ((s.setLane chosen { s.lane chosen with ready := rest }).lane j).ready }
        by_cases hj : j = chosen
        · subst hj; rw [lane_setLane_self]
        · rw [lane_setLane_ne _ _ _ _ hj]

theorem others_placeCells {p : LaneId} (hp : own p) (cells : List PoolCell) (s : State) :
    OthersKept own s (placeCells p cells s) := by
  unfold placeCells
  split
  · exact (OthersKept.of_lanes rfl).trans (others_setLane hp _ _)
  · exact .refl s

theorem others_frameAccounting {p : LaneId} (hp : own p) (s : State) : OthersKept own s (frameAccounting p s) := by
  unfold frameAccounting
  split
  · split
    · exact others_setLane hp s _
    · unfold completeGroup
      refine .trans ?_ (others_takeIfIdle _)
      refine .trans ?_ (.of_lanes rfl : OthersKept own (beginGroup p _ _) _)
      refine .trans ?_ (others_setLane hp _ _)
      refine .trans ?_ (others_setLane hp _ _)
      split
      · exact .refl s
      · exact (others_setLane hp s _).trans (.trans (.of_lanes rfl) (others_report _ _ _ _))
  · exact .refl s

theorem others_pathCompletion {p : PairId} (hp : own (primaryOf p)) (x : WaitingSymbol) (s : State) :
    OthersKept own s (pathCompletion p x s) := by
  have state (v : PairState) : (setPairState p v s).lanes = s.lanes := by unfold setPairState; split <;> rfl
  unfold pathCompletion
  refine .trans ?_ (others_frameAccounting hp _)
  refine .trans ?_ (.of_lanes (State.modPair_lanes _ p _))
  dsimp only
  generalize (if (s.pairAt p).ref = .secondary then primaryOf p else secondaryOf p) = partner
  split
  · exact (OthersKept.of_lanes (state _)).trans (others_report _ _ _ _)
  · exact .of_lanes (state _)

theorem others_flushWaiting {p : PairId} (hp : own (primaryOf p)) (ws : List WaitingSymbol) (s : State) :
    OthersKept own s (flushWaiting p ws s) := by
  induction ws generalizing s with
  | nil => exact .of_lanes rfl
  | cons x xs ih =>
    unfold flushWaiting
    split
    · refine .trans ?_ (ih _)
      refine (others_placeCells hp x.cells s).trans ?_
      split
      · exact OthersKept.trans (.of_lanes (State.modPair_lanes _ p _)) (others_pathCompletion hp x _)
      · exact .of_lanes rfl
    · exact .of_lanes rfl

theorem others_flush {p : PairId} (hp : own (primaryOf p)) (s : State) : OthersKept own s (flush p s) :=
  others_flushWaiting hp _ s

theorem others_writeLeft {l : LaneId} (hl : own l) (ws : List WaitingSymbol) (s : State) :
    OthersKept own s (writeLeft l ws s) := by
  induction ws generalizing s with
  | nil => exact .refl s
  | cons x xs ih =>
    unfold writeLeft
    refine .trans ?_ (ih _)
    split
    · exact (others_placeCells hl _ s).trans (others_frameAccounting hl _)
    · exact others_placeCells hl _ s

theorem others_takeLeft {l : LaneId} (hl : own l) (s : State) : OthersKept own s (takeLeft l s) := by
  unfold takeLeft
  split
  · exact (OthersKept.of_lanes rfl).trans (others_writeLeft hl _ _)
  · exact .refl s

theorem others_ageWaiting {p : PairId} (hp : own (primaryOf p)) (s : State) : OthersKept own s (ageWaiting p s) :=
  (OthersKept.of_lanes rfl).trans (others_flush hp _)

theorem lockBegun_eq (l : LaneId) (s : State) : lockBegun l s =
    if (paired s l && drivesPath s l) = true then ageWaiting (pairOf l) (s.setLane l (s.lane l).counted)
    else takeLeft l (s.setLane l (s.lane l).counted) := by
  simp only [lockBegun, beginLockSymbol, modLane_eq, lane_setLane_self, setLane_setLane]
  rfl

theorem others_lockBegun {l : LaneId} {s : State} (hl : own l) (hp : paired s l = true → own (primaryOf (pairOf l))) :
    OthersKept own s (lockBegun l s) := by
  rw [lockBegun_eq]
  refine (others_setLane hl s (s.lane l).counted).trans ?_
  split
  next driving => exact others_ageWaiting (hp (Bool.and_eq_true_iff.mp driving).1) _
  next => exact others_takeLeft hl _

theorem others_deliverCells {l : LaneId} {s : State} (hl : own l) (hp : paired s l = true → own (primaryOf (pairOf l)))
    (y : Layout) (idx : Nat) (cells : List PoolCell) : OthersKept own s (deliverCells l y idx cells s) := by
  unfold deliverCells
  dsimp only
  split
  · rename_i pair
    split
    · split
      · exact (OthersKept.of_lanes rfl).trans (others_flush (hp pair) _)
      · exact .refl s
    · split
      · exact (OthersKept.of_lanes rfl).trans (others_flush (hp pair) _)
      · exact .refl s
  · exact others_placeCells hl cells s

theorem others_fadeBegun {l : LaneId} {s : State} (hp : own (pathOf s l)) : OthersKept own s (fadeBegun l s) := by
  unfold fadeBegun abandonIfDriving
  split
  · refine .trans (others_setLane hp s { s.lane (pathOf s l) with group := none }) (.of_lanes ?_)
    rw [abandonGroup, discardWaiting_rest]
    rfl
  · exact .of_lanes rfl

end

end Sys2Proof.Machine
end

section
/-! SUPPORT. A data symbol in LOCK at its lane: what it counts and how the loss run moves (R30, R35, R41, R64), and the pilot
correlation (R5, R30). -/

namespace Sys2Proof.Machine

/-! ### The pilot correlation -/

/-- A search over the bits below `2 ^ n` finds the greatest number that passes a downward-closed test. -/
theorem foldl_bits {test : Nat → Bool} (down : ∀ i j, i ≤ j → test j = true → test i = true) (n acc : Nat)
    (h : test acc = true) :
    let g := ((List.range n).reverse.map (2 ^ ·)).foldl (fun acc b => if test (acc + b) then acc + b else acc) acc
    test g = true ∧ g < acc + 2 ^ n ∧ ∀ k, k < acc + 2 ^ n → test k = true → k ≤ g := by
  induction n generalizing acc with
  | zero => exact ⟨h, by simp, fun k hk _ => by simpa using Nat.le_of_lt_succ hk⟩
  | succ n ih =>
    have double : 2 ^ (n + 1) = 2 ^ n + 2 ^ n := by rw [Nat.pow_succ]; omega
    have positive : 0 < 2 ^ n := Nat.two_pow_pos n
    simp only [List.range_succ, List.reverse_append, List.reverse_singleton, List.singleton_append, List.map_cons,
      List.foldl_cons]
    split
    next pass =>
      obtain ⟨holds, below, greatest⟩ := ih (acc + 2 ^ n) pass
      exact ⟨holds, by omega, fun k hk => greatest k (by omega)⟩
    next fail =>
      obtain ⟨holds, below, greatest⟩ := ih acc h
      refine ⟨holds, by omega, fun k hk passes => greatest k ?_ passes⟩
      by_contra beyond
      exact fail (down _ k (by omega) passes)

/-- The greatest number up to 4095 that passes (R5). -/
theorem greatest12_spec {test : Nat → Bool} (down : ∀ i j, i ≤ j → test j = true → test i = true)
    (zero : test 0 = true) : greatest12 test ≤ 4095 ∧ ∀ k, k ≤ 4095 → (k ≤ greatest12 test ↔ test k = true) := by
  obtain ⟨holds, below, greatest⟩ := foldl_bits down 12 0 zero
  exact ⟨Nat.le_of_lt_succ below, fun k hk => ⟨fun le => down k _ le holds, greatest k (by omega)⟩⟩

/-- The sum of the products with a conjugate, by its parts. -/
theorem foldl_mulConj (seen : PilotRx → Cplx) (pilots : List PilotRx) (acc : Cplx) :
    (pilots.map (fun p => (p.rx, seen p))).foldl (fun acc x => Cplx.add acc (Cplx.mul x.1 (Cplx.conj x.2))) acc =
      ⟨acc.re + (pilots.map (fun p => p.rx.re * (seen p).re + p.rx.im * (seen p).im)).sum,
        acc.im + (pilots.map (fun p => p.rx.im * (seen p).re - p.rx.re * (seen p).im)).sum⟩ := by
  induction pilots generalizing acc with
  | nil => simp
  | cons p ps ih =>
    rw [List.map_cons, List.foldl_cons, ih]
    simp only [List.map_cons, List.sum_cons, Cplx.add, Cplx.mul, Cplx.conj, Cplx.mk.injEq]
    constructor <;> ring

theorem sum_normSq (seen : PilotRx → Cplx) (pilots : List PilotRx) :
    ((pilots.map (fun p => (p.rx, seen p))).map (fun x => Cplx.normSq x.1 + Cplx.normSq x.2)).sum =
      (pilots.map (fun p => p.rx.re ^ 2 + p.rx.im ^ 2 + (seen p).re ^ 2 + (seen p).im ^ 2)).sum := by
  rw [List.map_map]
  refine congrArg List.sum (List.map_congr_left fun p _ => ?_)
  simp only [Function.comp, Cplx.normSq]
  ring

/-- The pilot correlation is the form of R5 (R30). -/
theorem pilotCorrelation_spec (held : Option (List PilotGain)) (pilots : List PilotRx) :
    let seen : PilotRx → Cplx := fun p => Cplx.mul (gainAt held p.carrier) p.ref
    let re : Rat := (pilots.map (fun p => p.rx.re * (seen p).re + p.rx.im * (seen p).im)).sum
    let im : Rat := (pilots.map (fun p => p.rx.im * (seen p).re - p.rx.re * (seen p).im)).sum
    let energy : Rat := (pilots.map (fun p => p.rx.re ^ 2 + p.rx.im ^ 2 + (seen p).re ^ 2 + (seen p).im ^ 2)).sum
    (energy = 0 → pilotCorrelation held pilots = 0) ∧
    (energy ≠ 0 → pilotCorrelation held pilots ≤ 4095 ∧ ∀ k : Nat, k ≤ 4095 →
      (k ≤ pilotCorrelation held pilots ↔ ((k : Rat) * energy) ^ 2 ≤ 4 * 4095 ^ 2 * (re ^ 2 + im ^ 2))) := by
  intro seen re im energy
  have form : pilotCorrelation held pilots = if energy = 0 then 0
      else greatest12 (fun k => decide ((k : Rat) * k * (energy * energy) ≤ 67076100 * (re * re + im * im))) := by
    have sum := foldl_mulConj seen pilots Cplx.zero
    have total := sum_normSq seen pilots
    simp only [seen] at sum total
    simp only [pilotCorrelation, sum, total]
    simp only [Cplx.normSq, Cplx.zero, zero_add]
    rfl
  refine ⟨fun none => by rw [form, if_pos none], fun some => ?_⟩
  rw [form, if_neg some]
  have spec := greatest12_spec (test := fun k => decide ((k : Rat) * k * (energy * energy) ≤ 67076100 * (re * re + im * im)))
    (fun i j hij hj => ?down) ?zero
  · refine ⟨spec.1, fun k hk => (spec.2 k hk).trans ?_⟩
    have square : ((k : Rat) * energy) ^ 2 = k * k * (energy * energy) := by ring
    have bound : 4 * 4095 ^ 2 * (re ^ 2 + im ^ 2) = 67076100 * (re * re + im * im) := by ring
    rw [decide_eq_true_iff, square, bound]
  case down =>
    have le : (i : Rat) * i ≤ j * j := by exact_mod_cast Nat.mul_self_le_mul_self hij
    exact decide_eq_true ((mul_le_mul_of_nonneg_right le (mul_self_nonneg energy)).trans (of_decide_eq_true hj))
  case zero =>
    have := add_nonneg (mul_self_nonneg re) (mul_self_nonneg im)
    simpa using this

/-! ### What is watched of a lane, and the blocks beside -/

/-- What the statements about a data symbol watch of its lane: two counters, the loss run, the place in the frame, layout,
candidate, setup record, state and reason. -/
def Lane.watched (c : Lane) : Nat × Nat × Nat × Nat × Option Layout × Option Candidate × Setup × LaneState × Reason :=
  (c.counters.symbols, c.counters.blanked, c.lossRun, c.frame.pos, c.layout, c.candidate, c.setup, c.state, c.reason)

/-- The blocks that a data symbol leaves alone. -/
def State.beside (s : State) :
    List (Option LaneId) × Vector Nat 4 × Vector Port 3 × MapUnit × Vector Monitor 8 × Nat × Vector Bool 4 :=
  (s.pool.pageMap, s.pool.reserved, s.ports, s.smap, s.monitors, s.time, s.links)

theorem PathKept.watched {s t : State} (h : PathKept s t) (j : LaneId) : (t.lane j).watched = (s.lane j).watched := by
  rw [h.lanes j]
  rfl

theorem PathKept.beside {s t : State} (h : PathKept s t) : t.beside = s.beside := by
  have rest : t.ports = s.ports ∧ t.smap = s.smap ∧ t.monitors = s.monitors ∧ t.time = s.time ∧ t.links = s.links := by
    rw [h.rest]
    exact ⟨rfl, rfl, rfl, rfl, rfl⟩
  obtain ⟨ports, smap, monitors, time, links⟩ := rest
  rw [State.beside, h.pageMap, h.reserved, ports, smap, monitors, time, links]
  rfl

theorem beside_follow (s : State) : (follow s).beside = s.beside := by simp [State.beside]

/-! ### A frame completed -/

/-- A completed frame is counted and judged; a single lane's group is accounted for (R6, R41). -/
def frameJudged (c : Lane) : Lane :=
  { c with
    counters := { c.counters with frames := wrap32 (c.counters.frames + 1) }
    quality := frameQuality c.setup c.frame c.quality }

theorem completeFrame_eq (l : LaneId) (s : State) : completeFrame l s =
    if paired s l = true then follow (s.setLane l (frameJudged (s.lane l)))
    else frameAccounting l (follow (s.setLane l (frameJudged (s.lane l)))) := by
  have pair : paired (follow (s.setLane l (frameJudged (s.lane l)))) l = paired s l :=
    (roles_follow _).paired l
  rw [← pair]
  rfl

theorem watched_completeFrame (l : LaneId) (s : State) : ((completeFrame l s).lane l).watched = (s.lane l).watched := by
  have judged : ((follow (s.setLane l (frameJudged (s.lane l)))).lane l).watched = (s.lane l).watched := by
    rw [lane_follow, lane_setLane_self]
    rfl
  rw [completeFrame_eq]
  split
  · exact judged
  · exact ((path_frameAccounting l _).watched l).trans judged

theorem beside_completeFrame (l : LaneId) (s : State) : (completeFrame l s).beside = s.beside := by
  have judged : (follow (s.setLane l (frameJudged (s.lane l)))).beside = s.beside := beside_follow _
  rw [completeFrame_eq]
  split
  · exact judged
  · exact (path_frameAccounting l _).beside.trans judged

theorem others_completeFrame {own : LaneId → Prop} {l : LaneId} (hl : own l) (s : State) :
    OthersKept own s (completeFrame l s) := by
  have judged : OthersKept own s (follow (s.setLane l (frameJudged (s.lane l)))) :=
    (others_setLane hl s _).trans (.of_lanes (follow_lanes _))
  rw [completeFrame_eq]
  split
  · exact judged
  · exact judged.trans (others_frameAccounting hl _)

/-! ### A data symbol before its loss run is judged -/

/-- A blanked symbol counted (R41, R64). -/
def blankingCounted (l : LaneId) (blanked : Bool) (b : State) : State := if blanked then countBlanked l b else b

/-- The state in which a data symbol has reached the lane's own records (R30, R47, R61, R63, R66). -/
def symbolTracked (l : LaneId) (k : Candidate) (y : Layout) (x : SymbolRx) (b : State) : State :=
  let f := symbolFacts (b.lane l) x.preamble (pilotsOf k.mode y.pattern x)
  (blankingCounted l f.blanked b).modLane l
    (trackSymbol k y ((b.lane l).frame.pos + 1) f (pilotsOf k.mode y.pattern x))

/-- The state in which its cells have reached the data path, and a frame that it ends is completed (R6, R77). -/
def symbolDelivered (l : LaneId) (k : Candidate) (y : Layout) (x : SymbolRx) (b : State) : State :=
  let f := symbolFacts (b.lane l) x.preamble (pilotsOf k.mode y.pattern x)
  let idx := (b.lane l).frame.pos + 1
  let s := symbolTracked l k y x b
  let s := deliverCells l y idx (cellsOfSymbol (b.lane l) (s.lane l) k y idx f (cellsOf k.mode y.pattern x)) s
  if idx = (b.lane l).frame.d ∧ (b.lane l).frame.valid = true then completeFrame l s else s

theorem dataSymbol_eq (l : LaneId) (k : Candidate) (y : Layout) (x : SymbolRx) (b : State) :
    dataSymbol l k y x b =
      if 8 ≤ ((symbolDelivered l k y x b).lane l).lossRun then enterFade l .noSignal (symbolDelivered l k y x b)
      else symbolDelivered l k y x b := rfl

/-- The lane's own records of a data symbol touch nothing else that is watched (R30). -/
theorem watched_trackSymbol (k : Candidate) (y : Layout) (idx : Nat) (f : SymbolFacts) (pilots : List PilotRx) (c : Lane) :
    (trackSymbol k y idx f pilots c).watched =
      (c.counters.symbols, c.counters.blanked, if f.blanked then c.lossRun else if f.low then c.lossRun + 1 else 0, idx,
        c.layout, c.candidate, c.setup, c.state, c.reason) := by
  unfold trackSymbol
  dsimp only
  split <;> rfl

end Sys2Proof.Machine
end

section
/-! SUPPORT. A data symbol in LOCK, stage by stage: what of its lane is watched, and what it leaves alone; the loss run judged
last (R30, R35, R41, R64). -/

namespace Sys2Proof.Machine

/-! ### The symbol at its lane, and its cells -/

/-- A blanked symbol counted in its lane (R41, R64). -/
def Lane.blankCounted (blanked : Bool) (c : Lane) : Lane :=
  { c with counters := { c.counters with
      blanked := if blanked then wrap32 (c.counters.blanked + 1) else c.counters.blanked } }

theorem lane_blankingCounted (l : LaneId) (blanked : Bool) (b : State) :
    (blankingCounted l blanked b).lane l = (b.lane l).blankCounted blanked := by
  cases blanked with
  | false => rfl
  | true => exact lane_setLane_self _ _ _

theorem others_blankingCounted {own : LaneId → Prop} {l : LaneId} (hl : own l) (blanked : Bool) (b : State) :
    OthersKept own b (blankingCounted l blanked b) := by
  cases blanked with
  | false => exact .refl b
  | true => exact others_setLane hl b _

theorem pairs_blankingCounted (l : LaneId) (blanked : Bool) (b : State) : (blankingCounted l blanked b).pairs = b.pairs := by
  cases blanked <;> rfl

theorem beside_blankingCounted (l : LaneId) (blanked : Bool) (b : State) :
    (blankingCounted l blanked b).beside = b.beside := by
  cases blanked <;> rfl

section
variable (l : LaneId) (k : Candidate) (y : Layout) (x : SymbolRx) (b : State)

/-- What a data symbol shows of itself to the lane that receives it (R30, R64). -/
def factsOf : SymbolFacts := symbolFacts (b.lane l) x.preamble (pilotsOf k.mode y.pattern x)

/-- What is watched of a lane after a data symbol (R30, R41, R64). -/
def Lane.watchedAfter (f : SymbolFacts) (c : Lane) :
    Nat × Nat × Nat × Nat × Option Layout × Option Candidate × Setup × LaneState × Reason :=
  (c.counters.symbols, if f.blanked then wrap32 (c.counters.blanked + 1) else c.counters.blanked,
    if f.blanked then c.lossRun else if f.low then c.lossRun + 1 else 0, c.frame.pos + 1,
    c.layout, c.candidate, c.setup, c.state, c.reason)

theorem watched_symbolTracked :
    ((symbolTracked l k y x b).lane l).watched = (b.lane l).watchedAfter (factsOf l k y x b) := by
  rw [symbolTracked, modLane_eq, lane_setLane_self, watched_trackSymbol, lane_blankingCounted]
  rfl

theorem beside_symbolTracked : (symbolTracked l k y x b).beside = b.beside := beside_blankingCounted l _ b

theorem paired_symbolTracked : paired (symbolTracked l k y x b) l = paired b l :=
  congrArg Pair.formed (pairAt_congr (pairs_blankingCounted l _ b) (pairOf l))

theorem watched_symbolDelivered :
    ((symbolDelivered l k y x b).lane l).watched = (b.lane l).watchedAfter (factsOf l k y x b) := by
  refine Eq.trans ?_ (watched_symbolTracked l k y x b)
  rw [symbolDelivered]
  split
  · exact (watched_completeFrame l _).trans ((path_deliverCells l y _ _ _).watched l)
  · exact (path_deliverCells l y _ _ _).watched l

theorem beside_symbolDelivered : (symbolDelivered l k y x b).beside = b.beside := by
  refine Eq.trans ?_ (beside_symbolTracked l k y x b)
  rw [symbolDelivered]
  split
  · exact (beside_completeFrame l _).trans (path_deliverCells l y _ _ _).beside
  · exact (path_deliverCells l y _ _ _).beside

end

section
variable {own : LaneId → Prop} {l : LaneId} {b : State}

theorem others_symbolTracked (hl : own l) (k : Candidate) (y : Layout) (x : SymbolRx) :
    OthersKept own b (symbolTracked l k y x b) := by
  rw [symbolTracked, modLane_eq]
  exact (others_blankingCounted hl _ b).trans (others_setLane hl _ _)

theorem others_symbolDelivered (hl : own l) (hp : paired b l = true → own (primaryOf (pairOf l)))
    (k : Candidate) (y : Layout) (x : SymbolRx) : OthersKept own b (symbolDelivered l k y x b) := by
  have tracked := others_symbolTracked (b := b) hl k y x
  have primary : paired (symbolTracked l k y x b) l = true → own (primaryOf (pairOf l)) :=
    fun h => hp (paired_symbolTracked l k y x b ▸ h)
  have delivered := fun idx cells => tracked.trans (others_deliverCells hl primary y idx cells)
  rw [symbolDelivered]
  split
  · exact (delivered _ _).trans (others_completeFrame hl _)
  · exact delivered _ _

end

/-! ### Entry to FADE -/

section
variable (l : LaneId) (why : Reason) (s : State)

theorem lane_enterFade : (enterFade l why s).lane l =
    ((fadeBegun l s).lane l).faded why (wrapTime (s.time + (s.lane l).setup.holdoff * 27000)) := by
  rw [enterFade_eq, lane_follow, lane_setLane_self]

theorem beside_enterFade : (enterFade l why s).beside = s.beside := by
  rw [enterFade_eq, beside_follow]
  exact (path_fadeBegun l s).beside

theorem others_enterFade {own : LaneId → Prop} (hl : own l) (hp : own (pathOf s l)) :
    OthersKept own s (enterFade l why s) := by
  rw [enterFade_eq]
  exact (others_fadeBegun hp).trans ((others_setLane hl _ _).trans (.of_lanes (follow_lanes _)))

theorem ev_abandonIfDriving : (abandonIfDriving l s).ev = s.ev := by
  unfold abandonIfDriving
  split
  · rw [abandonGroup, discardWaiting_rest]
    rfl
  · rfl

/-- FADED is raised at the entry to FADE (R35). -/
theorem faded_enterFade : (enterFade l why s).ev.flags.getLsbD (evFaded l) = true := by
  have event : conditionEvents.getLsbD (evFaded l) = false := by revert l; decide
  rw [enterFade_eq]
  refine (kept_follow _).latched _ event ?_
  show (fadeBegun l s).ev.flags.getLsbD (evFaded l) = true
  rw [fadeBegun, ev_abandonIfDriving]
  exact raiseIn_self s.ev _ (by unfold evFaded; omega)

end


/-! ### The whole symbol -/

/-- The count before it alters nothing that a symbol is judged on (R30, R64). -/
theorem factsOf_lockBegun (l : LaneId) (k : Candidate) (y : Layout) (x : SymbolRx) (s : State) :
    factsOf l k y x (lockBegun l s) = symbolFacts (s.lane l) x.preamble (pilotsOf k.mode y.pattern x) := by
  rw [factsOf, lane_lockBegun_self]
  rfl

theorem watchedAfter_lockBegun (l : LaneId) (f : SymbolFacts) (s : State) :
    ((lockBegun l s).lane l).watchedAfter f = (s.lane l).counted.watchedAfter f := by
  rw [lane_lockBegun_self]
  rfl

theorem beside_lockBegun (l : LaneId) (s : State) : (lockBegun l s).beside = s.beside :=
  (path_lockBegun l s).beside

/-- A completed frame leaves the lane in its pair, or in none. -/
theorem paired_completeFrame (l : LaneId) (s : State) : paired (completeFrame l s) l = paired s l := by
  have judged : SameRoles s (follow (s.setLane l (frameJudged (s.lane l)))) :=
    (roles_setLane s l (frameJudged (s.lane l)) rfl).trans (roles_follow _)
  rw [completeFrame_eq]
  split
  · exact judged.paired l
  · exact (judged.trans (path_frameAccounting l _).roles).paired l

theorem paired_symbolDelivered (l : LaneId) (k : Candidate) (y : Layout) (x : SymbolRx) (b : State) :
    paired (symbolDelivered l k y x b) l = paired b l := by
  refine Eq.trans ?_ (paired_symbolTracked l k y x b)
  rw [symbolDelivered]
  split
  · exact (paired_completeFrame l _).trans ((path_deliverCells l y _ _ _).roles.paired l)
  · exact (path_deliverCells l y _ _ _).roles.paired l

theorem pathOf_symbolDelivered (l : LaneId) (k : Candidate) (y : Layout) (x : SymbolRx) (s : State) :
    pathOf (symbolDelivered l k y x (lockBegun l s)) l = pathOf s l := by
  have pair := (paired_symbolDelivered l k y x (lockBegun l s)).trans ((roles_lockBegun l s).paired l)
  rw [pathOf, pathOf, pair]

/-- The impulse test compares exactly (R64). -/
theorem isBlanked_iff (noise : Option Nat) (j e : Nat) :
    isBlanked noise j e = true ↔ ∃ v, noise = some v ∧ v * 2 ^ j < e := by
  cases noise <;> simp [isBlanked]

/-- A data symbol in LOCK with its loss run judged: the lane goes on, or fades. -/
theorem takeSample_data {l : LaneId} {s : State} {k : Candidate} {y : Layout} (i q : Int) (x : SymbolRx)
    (up : s.links[l] = true) (due : (s.lane l).toGo ≤ 1) (st : (s.lane l).state = .lock)
    (hk : (s.lane l).candidate = some k) (hy : (s.lane l).layout = some y)
    (frame : (s.lane l).frame.pos < (s.lane l).frame.d) :
    takeSample l i q x s =
      if 8 ≤ ((symbolDelivered l k y x (lockBegun l s)).lane l).lossRun then
        enterFade l .noSignal (symbolDelivered l k y x (lockBegun l s))
      else symbolDelivered l k y x (lockBegun l s) := by
  rw [takeSample_locked i q x up due st hk hy, if_pos frame, dataSymbol_eq]

/-- Settles O43: the pilot correlation bit by bit, and the symbol stage by stage: counted, tracked, delivered, and the loss run
judged on what the stages leave of the lane. -/
theorem lockDataSymbol : Obligations.LockDataSymbol := by
  refine ⟨isBlanked_iff, pilotCorrelation_spec, ?_⟩
  intro l i q x k y s c pilots blanked low up due st hk hy frame _
  obtain ⟨t, ht, hap⟩ := sampleArrival_happened l i q x s
  rw [takeSample_data i q x up due st hk hy frame] at hap
  have watched := watched_symbolDelivered l k y x (lockBegun l s)
  have beside := (beside_symbolDelivered l k y x (lockBegun l s)).trans (beside_lockBegun l s)
  have path := pathOf_symbolDelivered l k y x s
  have others : OthersKept (fun j => j = l ∨ j = pathOf s l) s (symbolDelivered l k y x (lockBegun l s)) := by
    refine .trans (others_lockBegun (.inl rfl) fun h => .inr (pathOf_paired h).symm)
      (others_symbolDelivered (.inl rfl) (fun h => .inr (pathOf_paired ?_).symm) k y x)
    rwa [(roles_lockBegun l s).paired] at h
  rw [factsOf_lockBegun, watchedAfter_lockBegun] at watched
  generalize symbolDelivered l k y x (lockBegun l s) = m at hap watched beside path others
  have blankedFact : (symbolFacts c x.preamble pilots).blanked = blanked := by simp [symbolFacts, blanked, c, pilots]
  have lowFact : (symbolFacts c x.preamble pilots).low = low := rfl
  have blocks := beside
  simp only [State.beside, Prod.mk.injEq] at blocks
  have ⟨_, _, _, _, _, time, _⟩ := blocks
  simp only [Lane.watched, Lane.watchedAfter, Prod.mk.injEq] at watched
  rw [blankedFact, lowFact] at watched
  obtain ⟨symbols, blankedCount, lossRun, pos, layout, candidate, setup, state, reason⟩ := watched
  by_cases fades : 8 ≤ (m.lane l).lossRun
  case neg =>
    rw [if_neg fades] at hap
    exact ⟨m, t, ht, hap, symbols, blankedCount, lossRun, pos, layout, candidate, setup,
      fun _ => ⟨state.trans st, reason⟩, fun h => absurd h fades, fun j hl hp => others j (not_or.mpr ⟨hl, hp⟩), blocks⟩
  case pos =>
    rw [if_pos fades] at hap
    have kept := (path_fadeBegun l m).watched l
    have apart := others.trans (others_enterFade l .noSignal m (.inl rfl) (.inr path))
    have event := faded_enterFade l .noSignal m
    have left := (beside_enterFade l .noSignal m).trans beside
    have lane := lane_enterFade l .noSignal m
    rw [time, setup] at lane
    simp only [Lane.watched, Prod.mk.injEq] at kept
    obtain ⟨keptSymbols, keptBlanked, keptRun, keptPos, keptLayout, keptCandidate, keptSetup, -, -⟩ := kept
    simp only [State.beside, Prod.mk.injEq] at left
    generalize enterFade l .noSignal m = a at hap apart event left lane
    refine ⟨a, t, ht, hap, ?_⟩
    rw [lane]
    exact ⟨keptSymbols.trans symbols, keptBlanked.trans blankedCount, keptRun.trans lossRun, keptPos.trans pos,
      keptLayout.trans layout, keptCandidate.trans candidate, keptSetup.trans setup,
      fun h => absurd (keptRun ▸ h : (m.lane l).lossRun < 8) (Nat.not_lt.mpr fades),
      fun _ => ⟨rfl, rfl, rfl, rfl, event⟩, fun j hl hp => apart j (not_or.mpr ⟨hl, hp⟩), left⟩

end Sys2Proof.Machine
end

section
/-! SUPPORT. The stages of an echo profile's update as operations on lists (R50 to R54): insertion and sorting by a test, the
merge of neighbours, the insertion of peaks, the strongest and the weakest record, and the re-anchor. -/

namespace Sys2Proof.Machine

/-! ### Insertion and sorting by a test -/

section
variable {α : Type} {before : α → α → Bool} {R : α → α → Prop} {x : α} {l : List α}

/-- Insertion puts the new element between two parts of the list. -/
theorem insertBy_split (before : α → α → Bool) (x : α) (l : List α) : ∃ first rest, l = first ++ rest ∧
    insertBy before x l = first ++ x :: rest ∧ (∀ y ∈ first, before x y = false) ∧
    ∀ y ∈ rest.head?, before x y = true := by
  induction l with
  | nil => exact ⟨[], [], rfl, rfl, by simp, by simp⟩
  | cons y ys ih =>
    cases test : before x y with
    | true => exact ⟨[], y :: ys, rfl, by simp [insertBy, test], by simp, by simp [test]⟩
    | false =>
      obtain ⟨first, rest, split, inserted, below, above⟩ := ih
      exact ⟨y :: first, rest, by rw [split]; rfl, by simp [insertBy, test, inserted], by simpa [test] using below, above⟩

theorem insertBy_perm (before : α → α → Bool) (x : α) (l : List α) : (insertBy before x l).Perm (x :: l) := by
  obtain ⟨first, rest, split, inserted, -, -⟩ := insertBy_split before x l
  rw [inserted, split]
  exact List.perm_middle

theorem sortBy_perm (before : α → α → Bool) (l : List α) : (sortBy before l).Perm l := by
  induction l with
  | nil => exact .refl _
  | cons x xs ih => exact (insertBy_perm before x _).trans (ih.cons x)

/-- Insertion keeps an order that the test decides. -/
theorem insertBy_pairwise (trans : ∀ a b c, R a b → R b c → R a c) (yes : ∀ a b, before a b = true → R a b)
    (no : ∀ a b, before a b = false → R b a) (h : l.Pairwise R) : (insertBy before x l).Pairwise R := by
  obtain ⟨first, rest, rfl, inserted, below, above⟩ := insertBy_split before x l
  obtain ⟨hfirst, hrest, across⟩ := List.pairwise_append.mp h
  have right : ∀ z ∈ rest, R x z := by
    cases rest with
    | nil => simp
    | cons y ys =>
      have head : R x y := yes x y (above y rfl)
      have tail := (List.pairwise_cons.mp hrest).1
      intro z hz
      rcases List.mem_cons.mp hz with rfl | hz
      · exact head
      · exact trans x y z head (tail z hz)
  rw [inserted, List.pairwise_append]
  refine ⟨hfirst, List.pairwise_cons.mpr ⟨right, hrest⟩, fun a ha b hb => ?_⟩
  rcases List.mem_cons.mp hb with rfl | hb
  · exact no _ a (below a ha)
  · exact across a ha b hb

theorem sortBy_pairwise (trans : ∀ a b c, R a b → R b c → R a c) (yes : ∀ a b, before a b = true → R a b)
    (no : ∀ a b, before a b = false → R b a) (l : List α) : (sortBy before l).Pairwise R := by
  induction l with
  | nil => exact .nil
  | cons x xs ih => exact insertBy_pairwise trans yes no ih

end

/-! ### Records in ascending delay -/

/-- Records in ascending delay. -/
def Ascending (l : List Echo) : Prop := l.Pairwise (fun a b => a.delay < b.delay)

/-- Records in ascending delay, any two at least 3 samples apart (R43). -/
def Spaced (l : List Echo) : Prop := l.Pairwise (fun a b => a.delay + 3 ≤ b.delay)

theorem Spaced.ascending {l : List Echo} (h : Spaced l) : Ascending l := h.imp (fun gap => by omega)

theorem spaced_iff (l : List Echo) : spaced l = true ↔ Spaced l := by
  induction l with
  | nil => simp [spaced, Spaced]
  | cons x l ih =>
    cases l with
    | nil => simp [spaced, Spaced]
    | cons y rest =>
      have step : Spaced (x :: y :: rest) ↔ x.delay + 3 ≤ y.delay ∧ Spaced (y :: rest) := by
        refine List.pairwise_cons.trans ⟨fun ⟨gaps, tail⟩ => ⟨gaps y (by simp), tail⟩, fun ⟨gap, tail⟩ => ⟨?_, tail⟩⟩
        have gaps := (List.pairwise_cons.mp tail).1
        intro z hz
        rcases List.mem_cons.mp hz with rfl | hz
        · exact gap
        · have := gaps z hz; omega
      rw [step, ← ih]
      simp [spaced]

/-- In ascending delay two records at one delay are one record. -/
theorem Ascending.eq_of_delay {l : List Echo} (h : Ascending l) {a b : Echo} (ha : a ∈ l) (hb : b ∈ l)
    (same : a.delay = b.delay) : a = b := by
  induction l with
  | nil => simp at ha
  | cons x l ih =>
    obtain ⟨first, tail⟩ := List.pairwise_cons.mp h
    rcases List.mem_cons.mp ha with rfl | ina <;> rcases List.mem_cons.mp hb with rfl | inb
    · rfl
    · have := first b inb; omega
    · have := first a ina; omega
    · exact ih tail ina inb

/-! ### The merge (R51) -/

/-- The separation of two neighbours. -/
def gapOf (x y : Echo) : Nat := (y.delay - x.delay).natAbs

/-- No two neighbours nearer than `d`. -/
def Apart (d : Nat) (l : List Echo) : Prop := l.IsChain (fun x y => d ≤ gapOf x y)

theorem apart_cons_cons {d : Nat} {x y : Echo} {l : List Echo} :
    Apart d (x :: y :: l) ↔ d ≤ gapOf x y ∧ Apart d (y :: l) := List.isChain_cons_cons

theorem apart_iff_getElem? (d : Nat) (l : List Echo) : Apart d l ↔
    ∀ (i : Nat) (x y : Echo), l[i]? = some x → l[i + 1]? = some y → d ≤ gapOf x y := by
  induction l with
  | nil => simp [Apart]
  | cons a l ih =>
    cases l with
    | nil => simp [Apart]
    | cons b l =>
      rw [apart_cons_cons, ih]
      constructor
      · rintro ⟨first, later⟩ (_ | i) x y hx hy
        · simp only [List.getElem?_cons_zero, List.getElem?_cons_succ, Option.some.injEq] at hx hy
          subst hx hy
          exact first
        · exact later i x y hx hy
      · exact fun all => ⟨all 0 a b rfl rfl, fun i x y hx hy => all (i + 1) x y hx hy⟩

/-- The smallest separation of neighbours up to 2 is the greatest by which all are apart. -/
theorem apart_iff_le_smallestGap {d : Nat} (hd : d ≤ 3) (l : List Echo) : Apart d l ↔ d ≤ (smallestGap l).getD 3 := by
  induction l with
  | nil => simpa [Apart, smallestGap] using hd
  | cons x l ih =>
    cases l with
    | nil => simpa [Apart, smallestGap] using hd
    | cons y l =>
      rw [apart_cons_cons, ih]
      simp only [smallestGap, gapOf]
      cases smallestGap (y :: l) <;> split <;> simp only [Option.getD_some, Option.getD_none] <;> omega

theorem smallestGap_le {l : List Echo} {g : Nat} (h : smallestGap l = some g) : g ≤ 2 := by
  induction l generalizing g with
  | nil => simp [smallestGap] at h
  | cons x l ih =>
    cases l with
    | nil => simp [smallestGap] at h
    | cons y l =>
      simp only [smallestGap] at h
      split at h
      · exact ih h
      · split at h <;> cases h <;> omega

theorem smallestGap_eq_none_iff (l : List Echo) : smallestGap l = none ↔ Apart 3 l := by
  rw [apart_iff_le_smallestGap le_rfl]
  cases h : smallestGap l with
  | none => simp
  | some g => have := smallestGap_le h; simp; omega

theorem smallestGap_eq_some_iff (l : List Echo) {g : Nat} (hg : g ≤ 2) :
    smallestGap l = some g ↔ Apart g l ∧ ¬Apart (g + 1) l := by
  rw [apart_iff_le_smallestGap (by omega), apart_iff_le_smallestGap (by omega)]
  cases smallestGap l with
  | none => simp; omega
  | some e => simp; omega

/-- Where not all neighbours are further apart than `g`, there is an earliest pair at `g`. -/
theorem exists_earliest_pair {g : Nat} {l : List Echo} (apart : Apart g l) (near : ¬Apart (g + 1) l) :
    ∃ first x y rest, l = first ++ x :: y :: rest ∧ gapOf x y = g ∧ Apart (g + 1) (first ++ [x]) := by
  induction l with
  | nil => exact absurd .nil near
  | cons a l ih =>
    cases l with
    | nil => exact absurd (.singleton a) near
    | cons b l =>
      obtain ⟨here, later⟩ := apart_cons_cons.mp apart
      by_cases hab : gapOf a b = g
      · exact ⟨[], a, b, l, rfl, hab, .singleton a⟩
      · have far : g + 1 ≤ gapOf a b := by omega
        obtain ⟨first, x, y, rest, split, gap, before⟩ := ih later (fun h => near (apart_cons_cons.mpr ⟨far, h⟩))
        refine ⟨a :: first, x, y, rest, by rw [split]; rfl, gap, ?_⟩
        cases first with
        | nil =>
          obtain ⟨rfl, -⟩ := List.cons.inj split
          exact apart_cons_cons.mpr ⟨far, .singleton b⟩
        | cons c first =>
          obtain ⟨rfl, -⟩ := List.cons.inj split
          exact apart_cons_cons.mpr ⟨far, before⟩

/-- The merge takes the earliest pair at the separation. -/
theorem mergeAt_split {g : Nat} {first : List Echo} {x y : Echo} (rest : List Echo) (gap : gapOf x y = g)
    (before : Apart (g + 1) (first ++ [x])) :
    mergeAt g (first ++ x :: y :: rest) = first ++ mergeTwo x y :: rest := by
  induction first with
  | nil => exact if_pos gap
  | cons a first ih =>
    have skip (b : Echo) (l : List Echo) (far : g + 1 ≤ gapOf a b) : mergeAt g (a :: b :: l) = a :: mergeAt g (b :: l) :=
      if_neg (fun (h : gapOf a b = g) => by omega)
    cases first with
    | nil =>
      obtain ⟨far, later⟩ := apart_cons_cons.mp before
      exact (skip _ _ far).trans (congrArg (a :: ·) (ih later))
    | cons b first =>
      obtain ⟨far, later⟩ := apart_cons_cons.mp before
      exact (skip _ _ far).trans (congrArg (a :: ·) (ih later))

/-- What a round of the merge finds: all neighbours apart, or an earliest pair at the smallest separation. -/
theorem mergeStage_cases (l : List Echo) : (Apart 3 l ∧ ∀ n, mergeStage n l = l) ∨
    ∃ first x y rest, l = first ++ x :: y :: rest ∧
      ∀ n, mergeStage (n + 1) l = mergeStage n (first ++ mergeTwo x y :: rest) := by
  cases h : smallestGap l with
  | none => exact .inl ⟨(smallestGap_eq_none_iff l).mp h, fun n => by cases n <;> simp [mergeStage, h]⟩
  | some g =>
    obtain ⟨apart, near⟩ := (smallestGap_eq_some_iff l (smallestGap_le h)).mp h
    obtain ⟨first, x, y, rest, split, gap, before⟩ := exists_earliest_pair apart near
    refine .inr ⟨first, x, y, rest, split, fun n => ?_⟩
    have merged : mergeStage (n + 1) l = mergeStage n (mergeAt g l) := by simp [mergeStage, h]
    rw [merged, split, mergeAt_split rest gap before]

theorem mergeStage_apart {l : List Echo} (h : Apart 3 l) (n : Nat) : mergeStage n l = l := by
  cases n <;> simp [mergeStage, (smallestGap_eq_none_iff l).mpr h]

/-- The merge of the earliest pair of smallest separation (R51). -/
theorem mergeStage_pair {first : List Echo} {x y : Echo} {rest : List Echo} (n : Nat) (near : gapOf x y ≤ 2)
    (apart : Apart (gapOf x y) (first ++ x :: y :: rest)) (before : Apart (gapOf x y + 1) (first ++ [x])) :
    mergeStage (n + 1) (first ++ x :: y :: rest) = mergeStage n (first ++ mergeTwo x y :: rest) := by
  have not_more : ¬Apart (gapOf x y + 1) (first ++ x :: y :: rest) := by
    intro h
    have := (apart_cons_cons.mp (List.isChain_append.mp h).2.1).1
    omega
  have gap := (smallestGap_eq_some_iff _ near).mpr ⟨apart, not_more⟩
  have merged : mergeStage (n + 1) (first ++ x :: y :: rest) = mergeStage n (mergeAt (gapOf x y) (first ++ x :: y :: rest)) := by
    simp [mergeStage, gap]
  rw [merged, mergeAt_split rest rfl before]

/-- As many rounds as records leave every two neighbours at least 3 samples apart (R51). -/
theorem apart_mergeStage {n : Nat} {l : List Echo} (h : l.length ≤ n) : Apart 3 (mergeStage n l) := by
  induction n generalizing l with
  | zero => rw [List.length_eq_zero_iff.mp (Nat.le_zero.mp h)]; exact .nil
  | succ n ih =>
    rcases mergeStage_cases l with ⟨apart, same⟩ | ⟨first, x, y, rest, rfl, merged⟩
    · rw [same]; exact apart
    · rw [merged]
      exact ih (by simp at h ⊢; omega)

/-- The merge keeps what the merge of two neighbours keeps. -/
theorem mergeStage_keeps {P : List Echo → Prop}
    (step : ∀ first x y rest, P (first ++ x :: y :: rest) → P (first ++ mergeTwo x y :: rest)) (n : Nat) {l : List Echo}
    (h : P l) : P (mergeStage n l) := by
  induction n generalizing l with
  | zero => exact h
  | succ n ih =>
    rcases mergeStage_cases l with ⟨-, same⟩ | ⟨first, x, y, rest, rfl, merged⟩
    · rw [same]; exact h
    · rw [merged]; exact ih (step first x y rest h)

theorem mergeTwo_eq (x y : Echo) : mergeTwo x y =
    ⟨if x.power < y.power then y.delay else x.delay, max x.power y.power, min x.age y.age⟩ := by
  unfold mergeTwo
  split <;> simp <;> omega

/-! ### The insertion (R52) -/

theorem insertEcho_joins {l : List Echo} {e : Echo} (asc : Ascending l) (apart : ∀ o ∈ l, o.delay ≠ e.delay) :
    ∃ first rest, l = first ++ rest ∧ insertEcho e l = first ++ e :: rest ∧ (∀ o ∈ first, o.delay < e.delay) ∧
      ∀ o ∈ rest, e.delay < o.delay := by
  obtain ⟨first, rest, rfl, inserted, below, above⟩ := insertBy_split (fun x y : Echo => decide (x.delay < y.delay)) e l
  refine ⟨first, rest, rfl, inserted, fun o ho => ?_, fun o ho => ?_⟩
  · have := apart o (by simp [ho])
    have := of_decide_eq_false (below o ho)
    omega
  · cases rest with
    | nil => simp at ho
    | cons y ys =>
      have head : e.delay < y.delay := of_decide_eq_true (above y rfl)
      rcases List.mem_cons.mp ho with rfl | ho
      · exact head
      · exact head.trans ((List.pairwise_cons.mp (List.pairwise_append.mp asc).2.1).1 o ho)

/-- The weakest record, and among equals the latest. -/
def IsWeakest (w : Echo) (l : List Echo) : Prop :=
  w ∈ l ∧ ∀ e ∈ l, w.power < e.power ∨ (w.power = e.power ∧ e.delay ≤ w.delay)

theorem weakest_eq_none {l : List Echo} (h : weakest l = none) : l = [] := by
  cases l with
  | nil => rfl
  | cons x l =>
    simp only [weakest] at h
    split at h
    · cases h
    · split at h <;> cases h

theorem isWeakest_weakest {l : List Echo} {w : Echo} (asc : Ascending l) (h : weakest l = some w) : IsWeakest w l := by
  induction l generalizing w with
  | nil => simp [weakest] at h
  | cons x l ih =>
    obtain ⟨first, tail⟩ := List.pairwise_cons.mp asc
    simp only [weakest] at h
    split at h
    next none_left =>
      cases h
      rw [weakest_eq_none none_left]
      exact ⟨by simp, by simp⟩
    next y hy =>
      obtain ⟨mem, least⟩ := ih tail hy
      have later := first y mem
      split at h <;> cases h <;> refine ⟨by simp [mem], fun e he => ?_⟩ <;> rcases List.mem_cons.mp he with rfl | he
      · exact .inr ⟨rfl, le_rfl⟩
      · have := least e he; omega
      · omega
      · exact least e he

theorem delay_ne_of_far {a b : Int} (h : 2 < (a - b).natAbs) : a ≠ b := by omega

/-- A peak within 2 samples of a record is discarded (R52). -/
theorem insertPeak_near {l : List Echo} {p : EchoPeak} (h : ∃ e ∈ l, (e.delay - p.delay).natAbs ≤ 2) :
    insertPeak l p = l := by
  have near : l.any (fun e => decide ((e.delay - p.delay).natAbs ≤ 2)) = true := by simpa using h
  simp [insertPeak, near]

theorem none_near {l : List Echo} {p : EchoPeak} (far : ∀ e ∈ l, 2 < (e.delay - p.delay).natAbs) :
    l.any (fun e => decide ((e.delay - p.delay).natAbs ≤ 2)) = false := by simpa using far

/-- A peak far from every record joins them where there is room (R52). -/
theorem insertPeak_room {l : List Echo} {p : EchoPeak} (far : ∀ e ∈ l, 2 < (e.delay - p.delay).natAbs)
    (room : l.length < 8) : insertPeak l p = insertEcho ⟨p.delay, p.power, 0⟩ l := by
  simp [insertPeak, none_near far, room]

/-- With no room it takes the place of the weakest record if it is stronger (R52). -/
theorem insertPeak_full {l : List Echo} {p : EchoPeak} (asc : Ascending l)
    (far : ∀ e ∈ l, 2 < (e.delay - p.delay).natAbs) (full : 8 ≤ l.length) : ∃ w, IsWeakest w l ∧
      insertPeak l p = if w.power < p.power then insertEcho ⟨p.delay, p.power, 0⟩ (l.erase w) else l := by
  cases h : weakest l with
  | none => rw [weakest_eq_none h] at full; simp at full
  | some w => exact ⟨w, isWeakest_weakest asc h, by simp [insertPeak, none_near far, Nat.not_lt.mpr full, h]⟩

/-- The order in which unmatched peaks are taken: descending power, then ascending delay (R52). -/
def PeakBefore (a b : EchoPeak) : Prop := b.power < a.power ∨ (b.power = a.power ∧ a.delay ≤ b.delay)

theorem insertStage_order (l : List Echo) (peaks : List EchoPeak) : ∃ order : List EchoPeak, order.Perm peaks ∧
    order.Pairwise PeakBefore ∧ insertStage l peaks = order.foldl insertPeak l := by
  refine ⟨_, sortBy_perm _ peaks, sortBy_pairwise (fun a b c => ?trans) (fun a b => ?yes) (fun a b => ?no) peaks, rfl⟩
  case trans => unfold PeakBefore; omega
  case yes => simp only [PeakBefore, decide_eq_true_eq]; omega
  case no => simp only [PeakBefore, decide_eq_false_iff_not]; omega

/-! ### The retirement and the re-anchor (R53, R54) -/

theorem mem_retireStage {age : Nat} {l : List Echo} {e : Echo} : e ∈ retireStage age l ↔ e ∈ l ∧ e.age < age := by
  simp [retireStage]

theorem retireStage_sublist (age : Nat) (l : List Echo) : (retireStage age l).Sublist l := List.filter_sublist

/-- The strongest record, and among equals the earliest. -/
def IsStrongest (top : Echo) (l : List Echo) : Prop :=
  top ∈ l ∧ ∀ e ∈ l, e.power < top.power ∨ (e.power = top.power ∧ top.delay ≤ e.delay)

theorem strongest_eq_none {l : List Echo} (h : strongest l = none) : l = [] := by
  cases l with
  | nil => rfl
  | cons x l =>
    simp only [strongest] at h
    split at h
    · cases h
    · split at h <;> cases h

theorem isStrongest_strongest {l : List Echo} {top : Echo} (asc : Ascending l) (h : strongest l = some top) :
    IsStrongest top l := by
  induction l generalizing top with
  | nil => simp [strongest] at h
  | cons x l ih =>
    obtain ⟨first, tail⟩ := List.pairwise_cons.mp asc
    simp only [strongest] at h
    split at h
    next none_left =>
      cases h
      rw [strongest_eq_none none_left]
      exact ⟨by simp, by simp⟩
    next y hy =>
      obtain ⟨mem, greatest⟩ := ih tail hy
      split at h <;> cases h <;> refine ⟨by simp [mem], fun e he => ?_⟩ <;> rcases List.mem_cons.mp he with rfl | he
      · omega
      · exact greatest e he
      · exact .inr ⟨rfl, le_rfl⟩
      · have := greatest e he
        have := first e he
        omega

/-- In ascending delay `IsStrongest` names one record. -/
theorem strongest_eq_some_iff {l : List Echo} {top : Echo} (asc : Ascending l) :
    strongest l = some top ↔ IsStrongest top l := by
  refine ⟨isStrongest_strongest asc, fun h => ?_⟩
  cases found : strongest l with
  | none => have := h.1; rw [strongest_eq_none found] at this; simp at this
  | some e =>
    obtain ⟨mem, greatest⟩ := isStrongest_strongest asc found
    have one := h.2 e mem
    have other := greatest top h.1
    rw [asc.eq_of_delay mem h.1 (by omega)]

/-- A record's delay moved against a new anchor (R54). -/
def Echo.shift (s : Int) (e : Echo) : Echo := { e with delay := e.delay - s }

theorem reAnchor_nil {low high : Int} {x : Anchored} (h : x.profile = []) : reAnchor low high x = x := by
  simp [reAnchor, h, strongest]

theorem reAnchor_strongest {low high : Int} {x : Anchored} {top : Echo} (asc : Ascending x.profile)
    (h : IsStrongest top x.profile) : reAnchor low high x =
      ⟨(x.profile.map (Echo.shift top.delay)).filter (fun e => decide (low ≤ e.delay ∧ e.delay ≤ high)),
        x.w - top.delay, wrapSigned32 (x.offset + top.delay)⟩ := by
  rw [reAnchor, (strongest_eq_some_iff asc).mpr h]
  rfl

theorem wrapSigned32_range (n : Int) : -2147483648 ≤ wrapSigned32 n ∧ wrapSigned32 n < 2147483648 := by
  unfold wrapSigned32
  omega

theorem wrapSigned32_sub (n : Int) : (wrapSigned32 n - n) % 4294967296 = 0 := by
  unfold wrapSigned32
  omega

/-- Settles O51: the update by its definition, then each stage by what it does to its list. -/
theorem echoListStages : Obligations.EchoListStages := by
  refine ⟨fun k pat pilots c => rfl, fun n l => ⟨?apart, fun far => ?done, fun first x y rest split near far before => ?pair⟩,
    insertStage_order, fun l p asc => ⟨insertPeak_near, fun far => ⟨fun room => ?room, fun full => ?full⟩⟩,
    fun age l e => ⟨mem_retireStage, retireStage_sublist age l⟩,
    fun low high x asc => ⟨reAnchor_nil, fun top mem greatest => ?anchor⟩⟩
  case apart => exact (apart_iff_getElem? 3 _).mp (apart_mergeStage le_rfl)
  case done => exact mergeStage_apart ((apart_iff_getElem? 3 l).mpr far) n
  case pair =>
    subst split
    have merged := mergeStage_pair n near ((apart_iff_getElem? _ _).mpr far) ((apart_iff_getElem? _ _).mpr before)
    rw [merged, mergeTwo_eq]
  case room =>
    rw [insertPeak_room far room]
    exact insertEcho_joins asc (fun e he => delay_ne_of_far (far e he))
  case full =>
    obtain ⟨w, weakest, inserted⟩ := insertPeak_full asc far full
    refine ⟨w, weakest.1, weakest.2, fun stronger => ?_, fun weaker => by rw [inserted, if_neg (Nat.not_lt.mpr weaker)]⟩
    rw [inserted, if_pos stronger]
    exact insertEcho_joins (asc.sublist List.erase_sublist) (fun e he => delay_ne_of_far (far e (List.mem_of_mem_erase he)))
  case anchor =>
    have anchored := reAnchor_strongest (low := low) (high := high) asc ⟨mem, greatest⟩
    rw [anchored]
    exact ⟨rfl, rfl, (wrapSigned32_range _).1, (wrapSigned32_range _).2, wrapSigned32_sub _⟩

end Sys2Proof.Machine
end

section
/-! SUPPORT. The window metric and the placement of the transform window (R55, R56). -/

namespace Sys2Proof.Machine

theorem foldl_add_eq_sum {α : Type} (f : α → Int) (l : List α) (acc : Int) :
    l.foldl (fun sum e => sum + f e) acc = acc + (l.map f).sum := by
  induction l generalizing acc with
  | nil => simp
  | cons e l ih => simp [ih, Int.add_assoc]

theorem metric_eq_sum (n lg : Nat) (profile : List Echo) (w : Int) :
    metric n lg profile w = (profile.map (contribution n lg w)).sum := by
  rw [metric, foldl_add_eq_sum, Int.zero_add]

/-- What a record gives the metric: a path inside the guard, an early one, a late one (R55). -/
theorem contribution_eq (n lg : Nat) (w : Int) (e : Echo) : contribution n lg w e =
    if 0 ≤ w - e.delay ∧ w - e.delay ≤ lg then (e.power : Int) * n
    else if w < e.delay then (e.power : Int) * (n - 2 * (e.delay - w))
    else (e.power : Int) * (n - 2 * (w - e.delay - lg)) := by
  unfold contribution
  rcases lt_or_ge w e.delay with early | reached
  · rw [if_pos early, if_neg (by omega), if_pos early]
  · rw [if_neg (not_lt.mpr reached), if_neg (not_lt.mpr reached)]
    rcases le_or_gt (w - e.delay) lg with inside | late
    · rw [if_pos inside, if_pos ⟨by omega, inside⟩]
    · rw [if_neg (not_le.mpr late), if_neg (fun both => absurd both.2 (not_le.mpr late))]

/-- A point of greatest metric, and among equals the smallest. -/
def IsBest (M : Int → Int) (b : Int) (points : List Int) : Prop :=
  b ∈ points ∧ ∀ x ∈ points, M x < M b ∨ (M x = M b ∧ b ≤ x)

/-- The best of a point so far and more points (R55). -/
theorem foldl_betterPoint (n lg : Nat) (profile : List Echo) (c : Int) (points : List Int) : ∃ b,
    points.foldl (betterPoint n lg profile) (some c) = some b ∧ IsBest (metric n lg profile) b (c :: points) := by
  induction points generalizing c with
  | nil => exact ⟨c, rfl, by simp, by simp⟩
  | cons x points ih =>
    have round : betterPoint n lg profile (some c) x =
        if metric n lg profile c < metric n lg profile x ∨
          (metric n lg profile c = metric n lg profile x ∧ x < c) then some x else some c := rfl
    rw [List.foldl_cons, round]
    split
    next better =>
      obtain ⟨b, found, mem, greatest⟩ := ih x
      refine ⟨b, found, by simp [List.mem_cons.mp mem], fun y hy => ?_⟩
      rcases List.mem_cons.mp hy with rfl | later
      · have := greatest x (by simp); omega
      · exact greatest y later
    next same =>
      obtain ⟨b, found, mem, greatest⟩ := ih c
      refine ⟨b, found, by rcases List.mem_cons.mp mem with rfl | mem <;> simp [*], fun y hy => ?_⟩
      rcases List.mem_cons.mp hy with rfl | later
      · exact greatest y (by simp)
      · rcases List.mem_cons.mp later with rfl | later
        · have := greatest c (by simp); omega
        · exact greatest y (by simp [later])

theorem bestPoint_isBest (n lg : Nat) {profile : List Echo} (h : profile ≠ []) :
    ∃ b, bestPoint n lg profile = some b ∧ IsBest (metric n lg profile) b (candidatePoints lg profile) := by
  obtain ⟨e, rest, rfl⟩ := List.exists_cons_of_ne_nil h
  exact foldl_betterPoint n lg (e :: rest) e.delay _

/-- The placement where there is a best point (R56). -/
theorem placeWindow_best {n lg : Nat} {profile : List Echo} {b : Int} (h : bestPoint n lg profile = some b) (hyst : Nat)
    (low high w : Int) (openPl : Bool) : placeWindow n lg hyst low high profile w openPl =
      if openPl = true ∨ w < low ∨ high + lg < w then (b, false)
      else (if if 0 < metric n lg profile w then metric n lg profile w * (256 + hyst) < metric n lg profile b * 256
        else metric n lg profile w < metric n lg profile b then b else w, false) := by
  simp only [placeWindow, h]
  by_cases free : openPl = true
  · simp [free]
  by_cases outside : w < low ∨ high + lg < w
  · simp [outside]
  rw [if_neg free, if_neg outside, if_neg (not_or.mpr ⟨free, outside⟩)]
  by_cases positive : 0 < metric n lg profile w
  · simp only [positive, if_true]
    split <;> rfl
  · simp only [positive, if_false]
    split <;> rfl

/-- Settles O54: the metric as a sum, and the placement by the tests of R56. -/
theorem windowPlacement : Obligations.WindowPlacement := by
  refine ⟨fun n lg profile w => ?metric, fun n lg h low high profile w openPl => ⟨fun empty => ?empty, fun filled => ?filled⟩⟩
  case metric =>
    rw [metric_eq_sum]
    exact congrArg List.sum (List.map_congr_left (fun e _ => contribution_eq n lg w e))
  case empty => rw [empty]; rfl
  case filled =>
    obtain ⟨b, best, mem, greatest⟩ := bestPoint_isBest n lg filled
    have placed := placeWindow_best best h low high w openPl
    refine ⟨b, mem, greatest, fun free => by rw [placed, if_pos free], fun held above below positive => ?_,
      fun held above below low_metric => ?_⟩ <;>
      rw [placed, if_neg (by simp [held]; omega)]
    · simp only [positive, if_true]
    · simp only [not_lt.mpr low_metric, if_false]

end Sys2Proof.Machine
end

section
/-! SUPPORT. An update of an echo profile keeps the rules of R43: the observation's powers, the match, smoothing and ageing, the
merge, the insertion, the retirement and the re-anchor (R47 to R54). -/

namespace Sys2Proof.Machine

/-! ### The observation (R48) -/

theorem power_le_largestPeak {ps : List EchoPeak} {p : EchoPeak} (h : p ∈ ps) : p.power ≤ largestPeak ps := by
  have grows (qs : List EchoPeak) (m : Nat) : m ≤ qs.foldl (fun m p => max m p.power) m ∧
      ∀ q ∈ qs, q.power ≤ qs.foldl (fun m p => max m p.power) m := by
    induction qs generalizing m with
    | nil => simp
    | cons a qs ih =>
      obtain ⟨start, rest⟩ := ih (max m a.power)
      refine ⟨(le_max_left _ _).trans start, fun q hq => ?_⟩
      rcases List.mem_cons.mp hq with rfl | later
      · exact (le_max_right _ _).trans start
      · exact rest q later
  exact (grows ps 0).2 p h

/-- Observed powers are scaled to 4096. -/
theorem observe_power {low : Int} {floorF : Nat} {impulse : List Nat} {p : EchoPeak} (h : p ∈ observe low floorF impulse) :
    p.power ≤ 4096 := by
  unfold observe at h
  dsimp only at h
  split at h
  · simp at h
  · obtain ⟨q, hq, rfl⟩ := List.mem_map.mp (List.mem_filter.mp h).1
    have le := power_le_largestPeak hq
    exact Nat.div_le_of_le_mul (by rw [Nat.mul_comm]; exact Nat.mul_le_mul_right _ le)

/-! ### The match (R49) -/

/-- The separation of a record from a delay. -/
def distOf (d : Int) (e : Echo) : Nat := (e.delay - d).natAbs

/-- What a search of a list for the record nearest to a delay has found: no record within 2 samples, or the nearest with its
distance, the earlier of two equally near. -/
def IsNearest (d : Int) (l : List Echo) : Option (Nat × Nat) → Prop
  | none => ∀ o ∈ l, 2 < distOf d o
  | some (n, k) => k ≤ 2 ∧ (∃ e, l[n]? = some e ∧ distOf d e = k) ∧
    ∀ (j : Nat) (o : Echo), l[j]? = some o → k < distOf d o ∨ (k = distOf d o ∧ n ≤ j)

theorem getElem?_concat_some {l : List Echo} {r o : Echo} {j : Nat} (h : (l ++ [r])[j]? = some o) :
    l[j]? = some o ∨ (j = l.length ∧ o = r) := by
  rcases Nat.lt_or_ge j l.length with inside | past
  · exact .inl (by rwa [List.getElem?_append_left inside] at h)
  · rw [List.getElem?_append_right past, List.getElem?_singleton] at h
    split at h
    · exact .inr ⟨by omega, by simpa using h.symm⟩
    · cases h

/-- A record too far leaves what was found. -/
theorem IsNearest.far {d : Int} {l : List Echo} {best : Option (Nat × Nat)} (h : IsNearest d l best) {r : Echo}
    (far : 2 < distOf d r) : IsNearest d (l ++ [r]) best := by
  cases best with
  | none => simpa [IsNearest, or_imp, forall_and] using ⟨h, far⟩
  | some b =>
    obtain ⟨n, k⟩ := b
    obtain ⟨within, ⟨e, he, hk⟩, least⟩ := h
    refine ⟨within, ⟨e, ?_, hk⟩, fun j o ho => ?_⟩
    · rw [List.getElem?_append_left (List.getElem?_eq_some_iff.mp he).1, he]
    · rcases getElem?_concat_some ho with earlier | ⟨-, rfl⟩
      · exact least j o earlier
      · exact .inl (by omega)

/-- A record nearer than all before it is the nearest. -/
theorem isNearest_last {d : Int} {l : List Echo} {r : Echo} (within : distOf d r ≤ 2)
    (nearer : ∀ (j : Nat) (o : Echo), l[j]? = some o → distOf d r < distOf d o) :
    IsNearest d (l ++ [r]) (some (l.length, distOf d r)) := by
  refine ⟨within, ⟨r, by simp, rfl⟩, fun j o ho => ?_⟩
  rcases getElem?_concat_some ho with earlier | ⟨rfl, rfl⟩
  · exact .inl (nearer j o earlier)
  · exact .inr ⟨rfl, le_rfl⟩

/-- The search goes on from what it has found in the records before. -/
theorem isNearest_nearestRecord {d : Int} (rs : List Echo) {before : List Echo} {best : Option (Nat × Nat)}
    (h : IsNearest d before best) : IsNearest d (before ++ rs) (nearestRecord d rs before.length best) := by
  induction rs generalizing before best with
  | nil => simpa [nearestRecord] using h
  | cons r rs ih =>
    have round (found : Option (Nat × Nat)) (hr : IsNearest d (before ++ [r]) found) :
        IsNearest d (before ++ r :: rs) (nearestRecord d rs (before.length + 1) found) := by
      simpa using ih hr
    rw [nearestRecord.eq_def]
    refine round _ ?_
    split
    next far => exact h.far far
    next near =>
      cases best with
      | none =>
        exact isNearest_last (not_lt.mp near) (fun j o ho =>
          (not_lt.mp near).trans_lt (h o (List.mem_of_getElem? ho)))
      | some b =>
        obtain ⟨n, k⟩ := b
        obtain ⟨within, ⟨e, he, hk⟩, least⟩ := h
        dsimp only
        split
        next nearer =>
          exact isNearest_last (not_lt.mp near) (fun j o ho => by
            have := least j o ho
            change distOf d r < k at nearer
            omega)
        next not_nearer =>
          refine ⟨within, ⟨e, ?_, hk⟩, fun j o ho => ?_⟩
          · rw [List.getElem?_append_left (List.getElem?_eq_some_iff.mp he).1, he]
          · rcases getElem?_concat_some ho with earlier | ⟨rfl, rfl⟩
            · exact least j o earlier
            · have := (List.getElem?_eq_some_iff.mp he).1
              change ¬distOf d o < k at not_nearer
              omega

/-- A peak is offered to the record nearest to it, the earlier of two equally near. -/
theorem isNearest_offeredTo {profile : List Echo} {p : EchoPeak} {n : Nat} (h : offeredTo profile p = some n) :
    ∃ k, IsNearest p.delay profile (some (n, k)) := by
  have found := isNearest_nearestRecord (d := p.delay) profile (before := []) (best := none) (by simp [IsNearest])
  obtain ⟨b, hb, rfl⟩ := Option.map_eq_some_iff.mp h
  exact ⟨b.2, by simpa [hb] using found⟩

theorem winner_mem {ps : List EchoPeak} {p : EchoPeak} (h : winner ps = some p) : p ∈ ps := by
  induction ps generalizing p with
  | nil => simp [winner] at h
  | cons q ps ih =>
    simp only [winner] at h
    split at h
    · simp_all
    next r hr =>
      split at h
      · exact List.mem_cons_of_mem _ (ih (hr.trans h))
      · simp_all

theorem matchRecords_getElem? (profile : List Echo) (peaks : List EchoPeak) (n : Nat) :
    (matchRecords profile peaks)[n]? =
      profile[n]?.map (fun e => (e, winner (peaks.filter (fun p => decide (offeredTo profile p = some n))))) := by
  rw [matchRecords, List.getElem?_map, List.getElem?_zipIdx, Option.map_map, Nat.zero_add]
  rfl

/-! ### Smoothing and ageing (R50) -/

theorem smoothToward_le {old target bound : Int} (ho : old ≤ bound) (ht : target ≤ bound) (n : Nat) :
    smoothToward old target n ≤ bound := by
  unfold smoothToward
  dsimp only
  split
  · rcases le_or_gt old target with rising | falling
    · have := Int.tdiv_le_self (a := target - old) n (by omega)
      unfold truncDiv
      omega
    · have : Int.tdiv (target - old) n ≤ 0 := by
        rw [← Int.neg_neg (target - old), Int.neg_tdiv]
        have := Int.tdiv_nonneg (a := -(target - old)) (b := n) (by omega) (by omega)
        omega
      unfold truncDiv
      omega
  · split
    · omega
    · split <;> omega

theorem Spaced.gap {l : List Echo} (h : Spaced l) {i j : Nat} (before : i < j) {e f : Echo} (he : l[i]? = some e)
    (hf : l[j]? = some f) : e.delay + 3 ≤ f.delay := by
  obtain ⟨hi, rfl⟩ := List.getElem?_eq_some_iff.mp he
  obtain ⟨hj, rfl⟩ := List.getElem?_eq_some_iff.mp hf
  exact List.pairwise_iff_getElem.mp h i j hi hj before

/-- A record smoothed toward a peak it was matched with, or aged, stands nearest to the place it had in the profile. -/
theorem smoothed_nearest {profile : List Echo} (spaced : Spaced profile) {peaks : List EchoPeak} {a n : Nat} {z : Echo}
    (h : ((matchRecords profile peaks).map (smoothRecord a))[n]? = some z) : ∃ k, IsNearest z.delay profile (some (n, k)) := by
  rw [List.getElem?_map, matchRecords_getElem?, Option.map_map] at h
  obtain ⟨e, he, rfl⟩ := Option.map_eq_some_iff.mp h
  dsimp only [Function.comp_apply]
  cases taken : winner (peaks.filter (fun p => decide (offeredTo profile p = some n))) with
  | some p =>
    have offered : offeredTo profile p = some n := of_decide_eq_true (List.mem_filter.mp (winner_mem taken)).2
    exact isNearest_offeredTo offered
  | none =>
    refine ⟨0, by omega, ⟨e, he, by simp [distOf, smoothRecord]⟩, fun j o ho => ?_⟩
    show 0 < distOf e.delay o ∨ (0 = distOf e.delay o ∧ n ≤ j)
    unfold distOf
    rcases Nat.lt_trichotomy j n with before | rfl | after
    · have := spaced.gap before ho he
      exact .inl (by omega)
    · have : o = e := by simpa [ho] using he
      exact .inr ⟨by simp [this], le_rfl⟩
    · have := spaced.gap after he ho
      exact .inl (by omega)

/-- Each record nearest to its own place, the smoothed records are in ascending delay. -/
theorem ascending_smoothed {profile : List Echo} (spaced : Spaced profile) (peaks : List EchoPeak) (a : Nat) :
    Ascending ((matchRecords profile peaks).map (smoothRecord a)) := by
  refine List.pairwise_iff_getElem.mpr (fun i j hi hj before => ?_)
  obtain ⟨k, -, ⟨e, he, hk⟩, nearest⟩ := smoothed_nearest spaced (List.getElem?_eq_getElem hi)
  obtain ⟨m, -, ⟨f, hf, hm⟩, nearest'⟩ := smoothed_nearest spaced (List.getElem?_eq_getElem hj)
  have gap := spaced.gap before he hf
  have first := nearest j f hf
  have second := nearest' i e he
  unfold distOf at hk hm first second
  omega


/-! ### The rules of R43, stage by stage -/

/-- What a record may hold (R43). -/
def Echo.InRange (e : Echo) : Prop := e.power ≤ 4096 ∧ e.age ≤ 255

/-- The rules of R43 up to the anchor: at most 8 records in range. -/
structure Bounded (l : List Echo) : Prop where
  length : l.length ≤ 8
  range : ∀ e ∈ l, e.InRange

theorem Bounded.sublist {l m : List Echo} (h : Bounded l) (sub : m.Sublist l) : Bounded m :=
  ⟨sub.length_le.trans h.length, fun e he => h.range e (sub.subset he)⟩

theorem profileOk_iff (l : List Echo) :
    profileOk l = true ↔ Bounded l ∧ Spaced l ∧ ∀ e, strongest l = some e → e.delay = 0 := by
  have anchor : anchored l = true ↔ ∀ e, strongest l = some e → e.delay = 0 := by
    unfold anchored
    cases strongest l <;> simp
  have bound : Bounded l ↔ l.length ≤ 8 ∧ ∀ e ∈ l, e.power ≤ 4096 ∧ e.age ≤ 255 :=
    ⟨fun h => ⟨h.length, h.range⟩, fun h => ⟨h.1, h.2⟩⟩
  rw [← anchor, ← spaced_iff, bound]
  simp [profileOk]
  tauto

/-- Smoothing and ageing keep a record in range. -/
theorem smoothRecord_inRange {a : Nat} {x : Echo × Option EchoPeak} (he : x.1.InRange)
    (hp : ∀ p, x.2 = some p → p.power ≤ 4096) : (smoothRecord a x).InRange := by
  obtain ⟨e, taken⟩ := x
  have power : e.power ≤ 4096 := he.1
  cases taken with
  | none =>
    have := smoothToward_le (old := e.power) (target := 0) (bound := 4096) (by omega) (by omega) (2 ^ a)
    exact ⟨by simp only [smoothRecord]; omega, by simp only [smoothRecord]; omega⟩
  | some p =>
    have := hp p rfl
    have := smoothToward_le (old := e.power) (target := p.power) (bound := 4096) (by omega) (by omega) (2 ^ a)
    exact ⟨by simp only [smoothRecord]; omega, by simp only [smoothRecord]; omega⟩

theorem bounded_smoothed {profile : List Echo} (h : Bounded profile) {peaks : List EchoPeak}
    (hp : ∀ p ∈ peaks, p.power ≤ 4096) (a : Nat) : Bounded ((matchRecords profile peaks).map (smoothRecord a)) := by
  refine ⟨by simpa [matchRecords] using h.length, fun z hz => ?_⟩
  obtain ⟨x, hx, rfl⟩ := List.mem_map.mp hz
  obtain ⟨n, hn⟩ := List.mem_iff_getElem?.mp hx
  rw [matchRecords_getElem?] at hn
  obtain ⟨e, he, rfl⟩ := Option.map_eq_some_iff.mp hn
  exact smoothRecord_inRange (h.range e (List.mem_of_getElem? he))
    (fun p taken => hp p (List.mem_filter.mp (winner_mem taken)).1)

/-- A merge of two neighbours keeps the ascending order and the bounds (R51). -/
theorem merge_keeps (first : List Echo) (x y : Echo) (rest : List Echo)
    (h : Ascending (first ++ x :: y :: rest) ∧ Bounded (first ++ x :: y :: rest)) :
    Ascending (first ++ mergeTwo x y :: rest) ∧ Bounded (first ++ mergeTwo x y :: rest) := by
  obtain ⟨asc, length, range⟩ := h
  have hx := range x (by simp)
  have hy := range y (by simp)
  rw [mergeTwo_eq]
  refine ⟨?_, by simp at length ⊢; omega, fun e he => ?_⟩
  · simp only [Ascending, List.pairwise_append, List.pairwise_cons, List.mem_cons] at asc ⊢
    obtain ⟨before, ⟨fromX, fromY, after⟩, across⟩ := asc
    refine ⟨before, ⟨fun z hz => ?_, after⟩, fun a ha b hb => ?_⟩
    · have := fromX z (.inr hz)
      have := fromY z hz
      split <;> assumption
    · rcases hb with rfl | hb
      · have := across a ha x (.inl rfl)
        have := across a ha y (.inr (.inl rfl))
        dsimp only
        split <;> assumption
      · exact across a ha b (.inr (.inr hb))
  · rcases List.mem_append.mp he with he | he
    · exact range e (by simp [he])
    · rcases List.mem_cons.mp he with rfl | he
      · exact ⟨max_le hx.1 hy.1, (min_le_left _ _).trans hx.2⟩
      · exact range e (by simp [he])

/-- In ascending delay, neighbours at least 3 apart are any two at least 3 apart. -/
theorem Ascending.spaced {l : List Echo} (asc : Ascending l) (apart : Apart 3 l) : Spaced l := by
  induction l with
  | nil => exact .nil
  | cons x l ih =>
    obtain ⟨first, tail⟩ := List.pairwise_cons.mp asc
    cases l with
    | nil => exact List.pairwise_singleton _ _
    | cons y l =>
      obtain ⟨gap, later⟩ := apart_cons_cons.mp apart
      have spaced := ih tail later
      have next := first y (by simp)
      unfold gapOf at gap
      refine List.pairwise_cons.mpr ⟨fun z hz => ?_, spaced⟩
      rcases List.mem_cons.mp hz with rfl | hz
      · omega
      · have := (List.pairwise_cons.mp spaced).1 z hz
        omega

theorem mergeStage_spaced {l : List Echo} (asc : Ascending l) (bound : Bounded l) :
    Spaced (mergeStage l.length l) ∧ Bounded (mergeStage l.length l) := by
  obtain ⟨merged, bounded⟩ := mergeStage_keeps (P := fun l => Ascending l ∧ Bounded l) merge_keeps l.length ⟨asc, bound⟩
  exact ⟨merged.spaced (apart_mergeStage le_rfl), bounded⟩

/-- A record that stands far from all joins them (R52). -/
theorem insertEcho_spaced {l : List Echo} {e : Echo} (spaced : Spaced l) (far : ∀ o ∈ l, 2 < (o.delay - e.delay).natAbs) :
    Spaced (insertEcho e l) := by
  obtain ⟨first, rest, rfl, inserted, below, above⟩ :=
    insertEcho_joins spaced.ascending (fun o ho => delay_ne_of_far (far o ho))
  have left : ∀ o ∈ first, o.delay + 3 ≤ e.delay := fun o ho => by
    have := below o ho
    have := far o (by simp [ho])
    omega
  have right : ∀ o ∈ rest, e.delay + 3 ≤ o.delay := fun o ho => by
    have := above o ho
    have := far o (by simp [ho])
    omega
  rw [inserted]
  obtain ⟨hfirst, hrest, across⟩ := List.pairwise_append.mp spaced
  refine List.pairwise_append.mpr ⟨hfirst, List.pairwise_cons.mpr ⟨right, hrest⟩, fun a ha b hb => ?_⟩
  rcases List.mem_cons.mp hb with rfl | hb
  · exact left a ha
  · exact across a ha b hb

theorem insertEcho_bounded {l : List Echo} {e : Echo} (room : l.length < 8) (range : ∀ o ∈ l, o.InRange)
    (he : e.InRange) : Bounded (insertEcho e l) := by
  have perm : (insertEcho e l).Perm (e :: l) := insertBy_perm _ e l
  refine ⟨by rw [perm.length_eq]; exact room, fun o ho => ?_⟩
  rcases List.mem_cons.mp (perm.mem_iff.mp ho) with rfl | ho
  · exact he
  · exact range o ho

/-- One peak keeps the spacing and the bounds (R52). -/
theorem insertPeak_keeps {l : List Echo} {p : EchoPeak} (h : Spaced l ∧ Bounded l) (hp : p.power ≤ 4096) :
    Spaced (insertPeak l p) ∧ Bounded (insertPeak l p) := by
  obtain ⟨spaced, bound⟩ := h
  have range : (⟨p.delay, p.power, 0⟩ : Echo).InRange := ⟨hp, Nat.zero_le _⟩
  by_cases near : ∃ e ∈ l, (e.delay - p.delay).natAbs ≤ 2
  · rw [insertPeak_near near]
    exact ⟨spaced, bound⟩
  have far : ∀ e ∈ l, 2 < (e.delay - p.delay).natAbs := by simpa using near
  rcases Nat.lt_or_ge l.length 8 with room | full
  · rw [insertPeak_room far room]
    exact ⟨insertEcho_spaced spaced far, insertEcho_bounded room bound.range range⟩
  · obtain ⟨w, ⟨mem, -⟩, inserted⟩ := insertPeak_full spaced.ascending far full
    rw [inserted]
    split
    · have sub : (l.erase w).Sublist l := List.erase_sublist
      have room : (l.erase w).length < 8 := by
        have := bound.length
        rw [List.length_erase_of_mem mem]
        omega
      exact ⟨insertEcho_spaced (spaced.sublist sub) (fun o ho => far o (sub.subset ho)),
        insertEcho_bounded room (bound.sublist sub).range range⟩
    · exact ⟨spaced, bound⟩

theorem insertStage_keeps {l : List Echo} {peaks : List EchoPeak} (h : Spaced l ∧ Bounded l)
    (hp : ∀ p ∈ peaks, p.power ≤ 4096) : Spaced (insertStage l peaks) ∧ Bounded (insertStage l peaks) := by
  obtain ⟨order, perm, -, folded⟩ := insertStage_order l peaks
  rw [folded]
  have powers : ∀ p ∈ order, p.power ≤ 4096 := fun p mem => hp p (perm.mem_iff.mp mem)
  clear folded perm
  induction order generalizing l with
  | nil => exact h
  | cons p order ih =>
    exact ih (insertPeak_keeps h (powers p (by simp))) (fun q hq => powers q (by simp [hq]))

theorem retireStage_keeps (age : Nat) {l : List Echo} (h : Spaced l ∧ Bounded l) :
    Spaced (retireStage age l) ∧ Bounded (retireStage age l) :=
  ⟨h.1.sublist (retireStage_sublist age l), h.2.sublist (retireStage_sublist age l)⟩

/-- The re-anchor puts the strongest record at delay 0 and leaves every delay within a window that holds 0 (R54). -/
theorem reAnchor_keeps {low high : Int} (hlow : low ≤ 0) (hhigh : 0 ≤ high) {x : Anchored}
    (h : Spaced x.profile ∧ Bounded x.profile) : profileOk (reAnchor low high x).profile = true ∧
      ∀ e ∈ (reAnchor low high x).profile, low ≤ e.delay ∧ e.delay ≤ high := by
  obtain ⟨spaced, bound⟩ := h
  cases top : strongest x.profile with
  | none =>
    have empty := strongest_eq_none top
    rw [reAnchor_nil empty, empty]
    exact ⟨rfl, by simp⟩
  | some t =>
    obtain ⟨mem, greatest⟩ := isStrongest_strongest spaced.ascending top
    rw [reAnchor_strongest spaced.ascending ⟨mem, greatest⟩]
    have shifted : Spaced (x.profile.map (Echo.shift t.delay)) :=
      List.pairwise_map.mpr (spaced.imp (fun gap => by simp only [Echo.shift]; omega))
    have moved : Bounded (x.profile.map (Echo.shift t.delay)) := by
      refine ⟨by simpa using bound.length, fun e he => ?_⟩
      obtain ⟨o, ho, rfl⟩ := List.mem_map.mp he
      exact bound.range o ho
    have sub := List.filter_sublist (p := fun e => decide (low ≤ e.delay ∧ e.delay ≤ high))
      (l := x.profile.map (Echo.shift t.delay))
    have kept : Spaced _ := shifted.sublist sub
    refine ⟨(profileOk_iff _).mpr ⟨moved.sublist sub, kept, fun e he => ?_⟩, fun e he => ?_⟩
    · have anchor : IsStrongest (t.shift t.delay) ((x.profile.map (Echo.shift t.delay)).filter
          (fun e => decide (low ≤ e.delay ∧ e.delay ≤ high))) := by
        refine ⟨List.mem_filter.mpr ⟨List.mem_map_of_mem mem, ?_⟩, fun o ho => ?_⟩
        · simpa [Echo.shift] using ⟨hlow, hhigh⟩
        · obtain ⟨r, hr, rfl⟩ := List.mem_map.mp (sub.subset ho)
          have := greatest r hr
          simp only [Echo.shift]
          omega
      rw [(strongest_eq_some_iff kept.ascending).mpr anchor] at he
      cases he
      exact sub_self _
    · exact of_decide_eq_true (List.mem_filter.mp he).2

theorem windowLow_nonpos (m : Mode) (pat : Pattern) : windowLow m pat ≤ 0 := by unfold windowLow; omega

theorem windowHigh_nonneg (m : Mode) (pat : Pattern) : 0 ≤ windowHigh m pat := by
  cases m <;> cases pat <;> decide

/-- An update keeps the rules of R43 and leaves every delay within the detection window of its symbol (R54). -/
theorem updateProfile_keeps (st : Setup) (m : Mode) (pat : Pattern) (floorF : Nat) (impulse : List Nat) {x : Anchored}
    (h : profileOk x.profile = true) :
    let y := updateProfile st (windowLow m pat) (windowHigh m pat) (observe (windowLow m pat) floorF impulse) x
    profileOk y.profile = true ∧ ∀ e ∈ y.profile, windowLow m pat ≤ e.delay ∧ e.delay ≤ windowHigh m pat := by
  obtain ⟨bound, spaced, -⟩ := (profileOk_iff x.profile).mp h
  have powers : ∀ p ∈ observe (windowLow m pat) floorF impulse, p.power ≤ 4096 := fun p => observe_power
  have merged := mergeStage_spaced (ascending_smoothed spaced _ st.smoothA) (bounded_smoothed bound powers st.smoothA)
  have inserted := insertStage_keeps merged
    (peaks := unmatchedPeaks (matchRecords x.profile (observe (windowLow m pat) floorF impulse))
      (observe (windowLow m pat) floorF impulse))
    (fun p hp => powers p (List.mem_filter.mp hp).1)
  exact reAnchor_keeps (windowLow_nonpos m pat) (windowHigh_nonneg m pat) (retireStage_keeps st.retireAge inserted)

end Sys2Proof.Machine
end

section
/-! SUPPORT. What leaves every lane's context as it is: ports, monitors, the map, timers, events and reports, and the requests
about them (Chapters 7 to 12). One lemma per function of the model, in the model's order. -/

namespace Sys2Proof.Machine

@[simp] theorem lanes_ite (c : Prop) [Decidable c] (s t : State) :
    (if c then s else t).lanes = if c then s.lanes else t.lanes := apply_ite State.lanes c s t

@[simp] theorem lanes_fst_ite (c : Prop) [Decidable c] (x y : State × Answer) :
    (if c then x else y).1.lanes = if c then x.1.lanes else y.1.lanes :=
  apply_ite (fun z : State × Answer => z.1.lanes) c x y

theorem lanes_foldl {α : Type} (f : State → α → State) (h : ∀ s a, (f s a).lanes = s.lanes) (l : List α) (s : State) :
    (l.foldl f s).lanes = s.lanes := by
  induction l generalizing s with
  | nil => rfl
  | cons a l ih => rw [List.foldl_cons, ih, h]

/-! ### Reports and ports (Chapters 12 and 8) -/

@[simp] theorem lanes_report (source : Nat) (reason : FaultReason) (info : Nat) (s : State) :
    (report source reason info s).lanes = s.lanes := by rw [report_rest]

@[simp] theorem lanes_judgeHold (s : State) : (judgeHold s).lanes = s.lanes := rfl

@[simp] theorem lanes_judgeHoldAt (p : PortId) (s : State) : (judgeHoldAt p s).lanes = s.lanes := by simp [judgeHoldAt]

@[simp] theorem lanes_queueDrop (p : PortId) (cls : Nat) (own : Bool) (pkt : Packet) (s : State) :
    (queueDrop p cls own pkt s).lanes = s.lanes := by simp [queueDrop]

/-- A packet that arrives at a port joins a class or makes a drop (R138). -/
@[simp] theorem lanes_portArrive (p : PortId) (cls : Nat) (restamp own : Bool) (pkt : Packet) (s : State) :
    (portArrive p cls restamp own pkt s).lanes = s.lanes := by
  unfold portArrive
  dsimp only
  split
  case h_1 => simp
  case h_2 =>
    split
    · simp
    · split <;> simp
  case h_3 => simp

@[simp] theorem lanes_placeOwn (kind tag code status reason : Nat) (params : List Byte) (s : State) :
    (placeOwn kind tag code status reason params s).lanes = s.lanes := by simp [placeOwn]

@[simp] theorem lanes_sendReply (tag code : Nat) (r : Reply) (s : State) : (sendReply tag code r s).lanes = s.lanes := by
  simp [sendReply]

@[simp] theorem lanes_buildNotice (s : State) : (buildNotice s).lanes = s.lanes := by simp [buildNotice]

@[simp] theorem lanes_forward (pkt : Packet) (s : State) : (forward pkt s).lanes = s.lanes := by simp [forward]

@[simp] theorem lanes_relayFirst (h : ReqHdr) (s : State) : (relayFirst h s).lanes = s.lanes := by
  unfold relayFirst
  split <;> simp

@[simp] theorem lanes_restamped (p : PortId) (e : Queued) (s : State) : (restamped p e s).2.lanes = s.lanes := by
  unfold restamped
  split
  · split <;> simp
  · rfl

@[simp] theorem lanes_putWire (p : PortId) (w : Option Packet) (s : State) : (putWire p w s).lanes = s.lanes := rfl

@[simp] theorem lanes_sendQueued (p : PortId) (e : Queued) (s : State) : (sendQueued p e s).lanes = s.lanes := by
  simp [sendQueued]

@[simp] theorem lanes_sendClass2 (p : PortId) (q : List Queued) (s : State) : (sendClass2 p q s).lanes = s.lanes := by
  induction q generalizing s with
  | nil => rfl
  | cons e q ih => simp [sendClass2, ih]

@[simp] theorem lanes_sendClass1 (p : PortId) (q : List Queued) (s : State) : (sendClass1 p q s).lanes = s.lanes := by
  induction q generalizing s with
  | nil => simp [sendClass1]
  | cons e q ih => simp [sendClass1, ih]

@[simp] theorem lanes_slotSend (p : PortId) (s : State) : (slotSend p s).lanes = s.lanes := by
  unfold slotSend
  dsimp only
  split
  · simp
  · split <;> simp

@[simp] theorem lanes_countHoldSlot (was : Bool) (s : State) : (countHoldSlot was s).lanes = s.lanes := by
  simp [countHoldSlot]

@[simp] theorem lanes_slotEvent (p : PortId) (s : State) : (slotEvent p s).lanes = s.lanes := by
  unfold slotEvent
  dsimp only
  generalize (if (s.port p).pstate = .stopping then (s.port p).pendingStop else none) = stop
  cases stop <;> simp

@[simp] theorem lanes_slotWhenDue (p : PortId) (s : State) : (slotWhenDue p s).lanes = s.lanes := by simp [slotWhenDue]

/-! ### Monitors and the map (Chapters 9 and 7) -/

@[simp] theorem lanes_offerTo (origin : Nat) (pkt : Packet) (s : State) (i : MonitorId) :
    (offerTo origin pkt s i).lanes = s.lanes := by simp [offerTo]

@[simp] theorem lanes_offer (origin : Nat) (pkt : Packet) (s : State) : (offer origin pkt s).lanes = s.lanes :=
  lanes_foldl _ (lanes_offerTo origin pkt) _ _

@[simp] theorem lanes_handCopy (c : Copies) (s : State) (p : PortId) : (handCopy c s p).lanes = s.lanes := by
  simp [handCopy]

@[simp] theorem lanes_handCopies (c : Copies) (s : State) : (handCopies c s).lanes = s.lanes :=
  lanes_foldl _ (lanes_handCopy c) _ _

/-- An arrival is discarded, reported, or offered and handed over (R121 to R124). -/
@[simp] theorem lanes_mapArrival (origin : Nat) (pkt : Packet) (s : State) : (mapArrival origin pkt s).lanes = s.lanes := by
  unfold mapArrival
  split
  · rfl
  · split
    · simp
    · split
      · rfl
      · dsimp only
        split <;> simp

/-! ### Pairs and timers (4.3, Chapter 10) -/

@[simp] theorem lanes_setPairState (p : PairId) (v : PairState) (s : State) : (setPairState p v s).lanes = s.lanes := by
  simp [setPairState]

@[simp] theorem lanes_dropRef (l : LaneId) (s : State) : (dropRef l s).lanes = s.lanes := by rw [dropRef_rest]

@[simp] theorem lanes_setPathLayout (l : LaneId) (r : FrameRecord) (s : State) : (setPathLayout l r s).lanes = s.lanes := by
  simp [setPathLayout]

@[simp] theorem lanes_followPair (s : State) (p : PairId) : (followPair s p).lanes = s.lanes := by simp [followPair]

@[simp] theorem lanes_followAll (s : State) : (followAll s).lanes = s.lanes := by simp [followAll, followPairs]

@[simp] theorem lanes_expire (t : TimerId) (s : State) : (expire t s).lanes = s.lanes := rfl

@[simp] theorem lanes_occurAt (src : Source) (s : State) (t : TimerId) : (occurAt src s t).lanes = s.lanes := by
  unfold occurAt
  dsimp only
  split
  · split <;> simp
  · rfl

@[simp] theorem lanes_occur (src : Source) (s : State) : (occur src s).lanes = s.lanes :=
  lanes_foldl _ (lanes_occurAt src) _ _

@[simp] theorem lanes_timerExpires (t : TimerId) (s : State) : (timerExpires t s).lanes = s.lanes := by simp [timerExpires]

@[simp] theorem lanes_tickAll (straps : BitVec 5) (s : State) : (tickAll straps s).lanes = s.lanes := by rw [tickAll_rest]

/-! ### Requests -/

@[simp] theorem lanes_doPartSetup (id : Nat) (notices : Bool) (s : State) :
    (doPartSetup id notices s).1.lanes = s.lanes := by simp [doPartSetup]

@[simp] theorem lanes_doPair (p : Nat) (s : State) : (doPair p s).1.lanes = s.lanes := by
  unfold doPair
  split <;> simp

@[simp] theorem lanes_doPoolSetup (r0 r1 r2 r3 : Nat) (s : State) : (doPoolSetup r0 r1 r2 r3 s).1.lanes = s.lanes := by
  simp [doPoolSetup]

@[simp] theorem lanes_judgeCongestion (s : State) : (judgeCongestion s).lanes = s.lanes := rfl

@[simp] theorem lanes_doDecoderSetup (high low : Nat) (s : State) : (doDecoderSetup high low s).1.lanes = s.lanes := rfl

@[simp] theorem lanes_doPoolRead (start : Nat) (s : State) : (doPoolRead start s).1.lanes = s.lanes := by simp [doPoolRead]

@[simp] theorem lanes_doDecoderRead (clear : Bool) (s : State) : (doDecoderRead clear s).1.lanes = s.lanes := by
  simp [doDecoderRead]

@[simp] theorem lanes_failLoad (code : Nat) (r : RefuseReason) (s : State) : (failLoad code r s).1.lanes = s.lanes := by
  simp [failLoad]

@[simp] theorem lanes_finishLoad (total : Nat) (es : List MapEntry) (s : State) :
    (finishLoad total es s).1.lanes = s.lanes := by simp [finishLoad]

/-- A segment fails, is staged, or ends its load (R131 to R134). -/
@[simp] theorem lanes_doMapLoad (g : SegmentForm) (s : State) : (doMapLoad g s).1.lanes = s.lanes := by
  unfold doMapLoad
  split
  · simp
  · split
    · simp
    · split <;> simp

@[simp] theorem lanes_doMapEditAdd (f : EntryForm) (s : State) : (doMapEditAdd f s).1.lanes = s.lanes := by
  unfold doMapEditAdd
  dsimp only
  split
  · rfl
  · split
    · rfl
    · split
      · rfl
      · split <;> simp

@[simp] theorem lanes_doMapEditReplace (f : EntryForm) (s : State) : (doMapEditReplace f s).1.lanes = s.lanes := by
  unfold doMapEditReplace
  split
  · rfl
  · split <;> simp

@[simp] theorem lanes_doMapEditRemove (f : EntryForm) (s : State) : (doMapEditRemove f s).1.lanes = s.lanes := by
  unfold doMapEditRemove
  split <;> rfl

@[simp] theorem lanes_judgeMapEdit (ps : List Byte) (s : State) : (judgeMapEdit ps s).1.lanes = s.lanes := by
  unfold judgeMapEdit
  split <;> simp [doMapEditUnknown]

@[simp] theorem lanes_doMapRead (first count : Nat) (clear : Bool) (s : State) :
    (doMapRead first count clear s).1.lanes = s.lanes := by simp [doMapRead]

@[simp] theorem lanes_doMapInvalidate (granularity origin id m : Nat) (s : State) :
    (doMapInvalidate granularity origin id m s).1.lanes = s.lanes := by
  unfold doMapInvalidate
  split <;> rfl

@[simp] theorem lanes_doOriginSetup (origin : Nat) (f : OriginForm) (s : State) :
    (doOriginSetup origin f s).1.lanes = s.lanes := by
  unfold doOriginSetup
  split
  · split <;> simp
  · rfl

@[simp] theorem lanes_doPortSetup (port interval high low limit : Nat) (s : State) :
    (doPortSetup port interval high low limit s).1.lanes = s.lanes := by
  unfold doPortSetup
  split <;> simp

@[simp] theorem lanes_doPortStop (port tag : Nat) (s : State) : (doPortStop port tag s).1.lanes = s.lanes := by
  unfold doPortStop
  split
  · rfl
  · split <;> rfl

@[simp] theorem lanes_doPortStart (port : Nat) (s : State) : (doPortStart port s).1.lanes = s.lanes := by
  unfold doPortStart answerOvertaken
  split
  · rfl
  · split
    · rfl
    · rfl
    · dsimp only
      split <;> simp

@[simp] theorem lanes_doPortFlush (port : Nat) (s : State) : (doPortFlush port s).1.lanes = s.lanes := by
  unfold doPortFlush
  split <;> simp

@[simp] theorem lanes_doPortRead (port : Nat) (clear : Bool) (s : State) : (doPortRead port clear s).1.lanes = s.lanes := by
  unfold doPortRead
  split <;> simp [clearPortCounts]

@[simp] theorem lanes_doMonitorSetup (monitor : Nat) (f : MonitorForm) (s : State) :
    (doMonitorSetup monitor f s).1.lanes = s.lanes := by
  unfold doMonitorSetup
  split
  · rfl
  · split <;> simp

@[simp] theorem lanes_doMonitorArm (monitor : Nat) (s : State) : (doMonitorArm monitor s).1.lanes = s.lanes := by
  unfold doMonitorArm
  split <;> rfl

@[simp] theorem lanes_doMonitorRead (monitor part : Nat) (clear : Bool) (s : State) :
    (doMonitorRead monitor part clear s).1.lanes = s.lanes := by
  unfold doMonitorRead
  dsimp only
  split
  · rfl
  · split <;> simp

/-- TIMER SETUP refuses, or sets the one timer (R173). -/
@[simp] theorem lanes_doTimerSetup (timer : Nat) (f : TimerForm) (s : State) :
    (doTimerSetup timer f s).1.lanes = s.lanes := by
  unfold doTimerSetup
  split
  · rfl
  · split <;> simp

@[simp] theorem lanes_doTimerStart (timer : Nat) (s : State) : (doTimerStart timer s).1.lanes = s.lanes := by
  unfold doTimerStart
  split <;> rfl

@[simp] theorem lanes_doTimerStop (timer : Nat) (s : State) : (doTimerStop timer s).1.lanes = s.lanes := by
  unfold doTimerStop
  split <;> rfl

@[simp] theorem lanes_doTimerRead (timer : Nat) (clear : Bool) (s : State) :
    (doTimerRead timer clear s).1.lanes = s.lanes := by
  unfold doTimerRead
  split <;> simp

end Sys2Proof.Machine
end

section
/-! SUPPORT. The rules of an echo profile at every lane (R43), through every event of a lane: a lane's profile is kept, cleared,
or updated (R45, R47). `EchoesOk` says it of the lanes; one lemma per function of the model that touches a lane, in the model's
order: an equivalence where profiles are kept, an implication where one is cleared or updated. -/

namespace Sys2Proof.Machine

/-- Every lane's profile keeps the rules of R43. -/
def EchoesOk (lanes : Vector Lane 4) : Prop := ∀ l : LaneId, profileOk lanes[l].profile = true

theorem profilesOk_iff (s : State) : profilesOk s = true ↔ EchoesOk s.lanes := by
  have every (l : LaneId) : l ∈ allLanes := by revert l; decide
  exact List.all_eq_true.trans ⟨fun all l => all l (every l), fun all l _ => all l⟩

theorem profileOk_nil : profileOk [] = true := rfl

@[simp] theorem echoesOk_ite (c : Prop) [Decidable c] (v w : Vector Lane 4) :
    EchoesOk (if c then v else w) ↔ if c then EchoesOk v else EchoesOk w := by split <;> rfl

/-! ### Updates of a lane -/

theorem EchoesOk.lane {s : State} (h : EchoesOk s.lanes) (l : LaneId) : profileOk (s.lane l).profile = true := h l

theorem echoesOk_of_profiles {s t : State} (same : ∀ l, (t.lane l).profile = (s.lane l).profile) :
    EchoesOk t.lanes ↔ EchoesOk s.lanes :=
  forall_congr' (fun l => by rw [← Bool.eq_iff_iff]; exact congrArg profileOk (same l))

theorem EchoesOk.setLane {s : State} (h : EchoesOk s.lanes) (l : LaneId) {c : Lane} (hc : profileOk c.profile = true) :
    EchoesOk (s.setLane l c).lanes := by
  intro k
  show profileOk ((s.setLane l c).lane k).profile = true
  by_cases hk : k = l
  · subst hk; rwa [lane_setLane_self]
  · rw [lane_setLane_ne _ _ _ _ hk]; exact h.lane k

/-- A change of a lane that keeps its profile. -/
@[simp] theorem echoesOk_modLane_keep {s : State} {l : LaneId} {f : Lane → Lane} (hf : ∀ c, (f c).profile = c.profile) :
    EchoesOk (s.modLane l f).lanes ↔ EchoesOk s.lanes :=
  echoesOk_of_profiles (fun k => by
    by_cases hk : k = l
    · subst hk; rw [lane_modLane_self, hf]
    · rw [lane_modLane_ne _ _ _ _ hk])

/-- A change of a lane that clears its profile (R45). -/
@[simp] theorem echoesOk_modLane_clear {s : State} {l : LaneId} {f : Lane → Lane} (h : EchoesOk s.lanes)
    (hf : ∀ c, (f c).profile = []) : EchoesOk (s.modLane l f).lanes :=
  h.setLane l (by rw [hf]; exact profileOk_nil)

/-! ### Work on a data path -/

/-- Work on a data path keeps every profile. -/
theorem PathKept.echoesOk {s t : State} (k : PathKept s t) : EchoesOk t.lanes ↔ EchoesOk s.lanes :=
  echoesOk_of_profiles (fun l => by rw [k.lanes l])

@[simp] theorem echoesOk_takeIfIdle (s : State) : EchoesOk (takeIfIdle s).lanes ↔ EchoesOk s.lanes :=
  (path_takeIfIdle s).echoesOk

@[simp] theorem echoesOk_emptyReady (p : LaneId) (counted : Bool) (s : State) :
    EchoesOk (emptyReady p counted s).lanes ↔ EchoesOk s.lanes := (path_emptyReady p counted s).echoesOk

@[simp] theorem echoesOk_abandonGroup (p : LaneId) (s : State) : EchoesOk (abandonGroup p s).lanes ↔ EchoesOk s.lanes :=
  (path_abandonGroup p s).echoesOk

@[simp] theorem echoesOk_beginGroup (p : LaneId) (half : Half) (s : State) :
    EchoesOk (beginGroup p half s).lanes ↔ EchoesOk s.lanes := (path_beginGroup p half s).echoesOk

@[simp] theorem echoesOk_beginAgain (p : LaneId) (s : State) : EchoesOk (beginAgain p s).lanes ↔ EchoesOk s.lanes :=
  (path_beginAgain p s).echoesOk

@[simp] theorem echoesOk_frameAccounting (p : LaneId) (s : State) :
    EchoesOk (frameAccounting p s).lanes ↔ EchoesOk s.lanes := (path_frameAccounting p s).echoesOk

@[simp] theorem echoesOk_decideAll (p : PairId) (s : State) : EchoesOk (decideAll p s).lanes ↔ EchoesOk s.lanes :=
  (path_decideAll p s).echoesOk

@[simp] theorem echoesOk_deliverCells (l : LaneId) (y : Layout) (idx : Nat) (cells : List PoolCell) (s : State) :
    EchoesOk (deliverCells l y idx cells s).lanes ↔ EchoesOk s.lanes := (path_deliverCells l y idx cells s).echoesOk

@[simp] theorem echoesOk_releasePath (p : LaneId) (counted : Bool) (s : State) :
    EchoesOk (releasePath p counted s).lanes ↔ EchoesOk s.lanes := by simp [releasePath]

@[simp] theorem lanes_requestPages (p : LaneId) (n : Nat) (s : State) : (requestPages p n s).2.lanes = s.lanes := by
  unfold requestPages
  split <;> rfl

@[simp] theorem echoesOk_settlePages (p : LaneId) (need : Nat) (s : State) :
    EchoesOk (settlePages p need s).2.lanes ↔ EchoesOk s.lanes := by
  unfold settlePages
  dsimp only
  split
  · rfl
  · split <;> simp

/-! ### Leaving a path, and layout changes (R34, R35, R38, R76) -/

@[simp] theorem echoesOk_abandonIfDriving (l : LaneId) (s : State) :
    EchoesOk (abandonIfDriving l s).lanes ↔ EchoesOk s.lanes := by simp [abandonIfDriving]

@[simp] theorem echoesOk_departPath (l : LaneId) (s : State) : EchoesOk (departPath l s).lanes ↔ EchoesOk s.lanes := by
  simp [departPath]

@[simp] theorem echoesOk_enterFade (l : LaneId) (r : Reason) (s : State) :
    EchoesOk (enterFade l r s).lanes ↔ EchoesOk s.lanes := by simp [enterFade]

section
variable {s : State} (h : EchoesOk s.lanes)
include h

@[simp] theorem echoesOk_releaseToSearch (l : LaneId) : EchoesOk (releaseToSearch l s).lanes := by
  have departed : EchoesOk (raise (evReleased l) (departPath l s)).lanes := (echoesOk_departPath l s).mpr h
  rw [releaseToSearch, follow_lanes]
  exact echoesOk_modLane_clear departed (fun _ => rfl)

@[simp] theorem echoesOk_research (l : LaneId) : EchoesOk (research l s).lanes := by simp [research, h]

@[simp] theorem echoesOk_pathToSync (l : LaneId) (reason : Reason) : EchoesOk (pathToSync l reason s).lanes := by
  have led : EchoesOk (dropRef l s).lanes := by rwa [lanes_dropRef]
  rw [pathToSync, follow_lanes]
  generalize dropRef l s = t at led
  split <;> simp [Lane.toSync, led]

/-- A layout change goes to SYNC, or settles the pages and begins a group or goes to SYNC (R34). -/
@[simp] theorem echoesOk_layoutChange (l : LaneId) (r : FrameRecord) : EchoesOk (layoutChange l r s).lanes := by
  unfold layoutChange
  dsimp only
  split <;> simp [h]

/-! ### SEARCH, MODE and SYNC (2.3 to 2.5) -/

@[simp] theorem echoesOk_advanceSweep (l : LaneId) : EchoesOk (advanceSweep l s).lanes := by
  simp [advanceSweep, Lane.toSearch, h]

@[simp] theorem echoesOk_endAttempt (l : LaneId) : EchoesOk (endAttempt l s).lanes := by
  unfold endAttempt
  dsimp only
  split <;> simp [h, enterMode]

@[simp] theorem echoesOk_modeSymbol (l : LaneId) : EchoesOk (modeSymbol l s).lanes := by
  unfold modeSymbol
  dsimp only
  split <;> simp [h]

@[simp] theorem echoesOk_lockIn (l : LaneId) (fromSync : Bool) (r : FrameRecord) (pilots : List PilotRx) :
    EchoesOk (lockIn l fromSync r pilots s).lanes := by
  cases fromSync <;> simp [lockIn, h]

@[simp] theorem echoesOk_takeReference (l : LaneId) (granted : Bool) (r : FrameRecord) :
    EchoesOk (takeReference l granted r s).lanes := by
  have led : EchoesOk (s.modPair (pairOf l) (fun x => { x with ref := refName l })).lanes := h
  rw [takeReference, State.modPair_lanes]
  generalize s.modPair (pairOf l) (fun x => { x with ref := refName l }) = t at led
  simp [led]

@[simp] theorem echoesOk_switchReference (l : LaneId) (r : FrameRecord) : EchoesOk (switchReference l r s).lanes := by
  have led : EchoesOk ((decideAll (pairOf l) s).modPair (pairOf l) (fun x => { x with ref := refName l })).lanes :=
    (echoesOk_decideAll _ s).mpr h
  rw [switchReference, State.modPair_lanes]
  generalize (decideAll (pairOf l) s).modPair (pairOf l) (fun x => { x with ref := refName l }) = t at led
  simp [led]

@[simp] theorem echoesOk_pathAtEntry (l : LaneId) (granted : Bool) (r : FrameRecord) :
    EchoesOk (pathAtEntry l granted r s).lanes := by simp [pathAtEntry, h]

@[simp] theorem echoesOk_lockFromSync (l : LaneId) (granted : Bool) (r : FrameRecord) (pilots : List PilotRx) :
    EchoesOk (lockFromSync l granted r pilots s).lanes := by simp [lockFromSync, h]

@[simp] theorem echoesOk_checkLayout (l : LaneId) (cur : Option PipeParams) (r : FrameRecord) :
    EchoesOk (checkLayout l cur r s).lanes := by simp [checkLayout, h]

@[simp] theorem echoesOk_recover (l : LaneId) (r : FrameRecord) : EchoesOk (recover l r s).lanes := by simp [recover, h]

/-- A VALID record in SYNC locks, with pages or with a grant, or leaves a reason (R28). -/
@[simp] theorem echoesOk_syncValid (l : LaneId) (r : FrameRecord) (pilots : List PilotRx) :
    EchoesOk (syncValid l r pilots s).lanes := by
  unfold syncValid
  split <;> simp [h]

@[simp] theorem echoesOk_syncFailure (l : LaneId) : EchoesOk (syncFailure l s).lanes := by simp [syncFailure, h]

@[simp] theorem echoesOk_syncSymbol (l : LaneId) (x : SymbolRx) : EchoesOk (syncSymbol l x s).lanes := by
  unfold syncSymbol
  split <;> simp [h]

/-! ### LOCK and FADE (2.6, 2.7) -/

omit h in
/-- The update of a profile at a symbol's lane (R47). -/
theorem profileOk_trackEchoes (k : Candidate) (pat : Pattern) (pilots : List PilotRx) {c : Lane}
    (hc : profileOk c.profile = true) : profileOk (trackEchoes k pat pilots c).profile = true :=
  (updateProfile_keeps c.setup k.mode pat c.setup.floorF (impulseResponse k.mode pat pilots)
    (x := ⟨c.profile, c.w, c.offset⟩) hc).1

omit h in
theorem profileOk_trackSymbol (k : Candidate) (y : Layout) (idx : Nat) (f : SymbolFacts) (pilots : List PilotRx) {c : Lane}
    (hc : profileOk c.profile = true) : profileOk (trackSymbol k y idx f pilots c).profile = true := by
  unfold trackSymbol
  dsimp only
  split
  · exact hc
  · exact profileOk_trackEchoes k y.pattern pilots hc

@[simp] theorem echoesOk_trackSymbol (l : LaneId) (k : Candidate) (y : Layout) (idx : Nat) (f : SymbolFacts)
    (pilots : List PilotRx) : EchoesOk (s.modLane l (trackSymbol k y idx f pilots)).lanes :=
  h.setLane l (profileOk_trackSymbol k y idx f pilots (h.lane l))

omit h in
@[simp] theorem echoesOk_completeFrame (l : LaneId) (s : State) : EchoesOk (completeFrame l s).lanes ↔ EchoesOk s.lanes := by
  simp [completeFrame]

@[simp] theorem echoesOk_dataSymbol (l : LaneId) (k : Candidate) (y : Layout) (x : SymbolRx) :
    EchoesOk (dataSymbol l k y x s).lanes := by simp [dataSymbol, countBlanked, h]

@[simp] theorem echoesOk_drivingPreamble (l : LaneId) (last : Nat) (held : Option PipeParams) (r : FrameRecord) :
    EchoesOk (drivingPreamble l last held r s).lanes := by simp [drivingPreamble, h]

@[simp] theorem echoesOk_validExpected (l : LaneId) (y : Layout) (r : FrameRecord) :
    EchoesOk (validExpected l y r s).lanes := by simp [validExpected, h]

@[simp] theorem echoesOk_failedExpected (l : LaneId) (y : Layout) (wasInvalid : Bool) :
    EchoesOk (failedExpected l y wasInvalid s).lanes := by simp [failedExpected, h]

@[simp] theorem echoesOk_expectedPreamble (l : LaneId) (y : Layout) (x : SymbolRx) :
    EchoesOk (expectedPreamble l y x s).lanes := by
  unfold expectedPreamble
  split <;> simp [h]

omit h in
@[simp] theorem echoesOk_beginLockSymbol (l : LaneId) (s : State) :
    EchoesOk (beginLockSymbol l s).lanes ↔ EchoesOk s.lanes :=
  (path_beginLockSymbol l s).echoesOk.trans (echoesOk_modLane_keep (fun _ => rfl))

@[simp] theorem echoesOk_lockSymbol (l : LaneId) (x : SymbolRx) : EchoesOk (lockSymbol l x s).lanes := by
  unfold lockSymbol
  dsimp only
  split <;> simp [h]

@[simp] theorem echoesOk_fadeSymbol (l : LaneId) (x : SymbolRx) : EchoesOk (fadeSymbol l x s).lanes := by
  unfold fadeSymbol
  dsimp only
  split <;> simp [h, countBlanked]

/-! ### Samples, links, holdoff -/

@[simp] theorem echoesOk_symbolEvent (l : LaneId) (x : SymbolRx) : EchoesOk (symbolEvent l x s).lanes := by
  unfold symbolEvent
  split <;> simp [h]

@[simp] theorem echoesOk_countSample (l : LaneId) (x : SymbolRx) : EchoesOk (countSample l x s).lanes := by
  simp [countSample, h]

@[simp] theorem echoesOk_takeSample (l : LaneId) (i q : Int) (x : SymbolRx) : EchoesOk (takeSample l i q x s).lanes := by
  unfold takeSample
  dsimp only
  split
  · exact h
  · split <;> simp [h]

@[simp] theorem echoesOk_linkLost (l : LaneId) : EchoesOk (linkLost l s).lanes := by
  unfold linkLost laneLinkDown
  split
  · dsimp only
    split <;> simp [h, Lane.toSearch]
  · exact h

@[simp] theorem echoesOk_holdoffExpires (l : LaneId) : EchoesOk (holdoffExpires l s).lanes := by simp [holdoffExpires, h]

end

/-! ### Completions of the decoder (6) -/

@[simp] theorem echoesOk_countCompletion (cw : Codeword) (s : State) :
    EchoesOk (countCompletion cw s).lanes ↔ EchoesOk s.lanes := by
  have packets := lanes_foldl (fun s p => mapArrival cw.owner.val p s) (fun s p => lanes_mapArrival _ p s) (packetsOf cw) s
  simp [countCompletion, packets]

@[simp] theorem echoesOk_decodeCompletes (s : State) : EchoesOk (decodeCompletes s).lanes ↔ EchoesOk s.lanes := by
  unfold decodeCompletes
  split <;> simp [nextTake]

/-! ### The rest of an event (log 11) -/

section
variable {s : State}

@[simp] theorem echoesOk_performAction (t : TimerId) (h : EchoesOk s.lanes) : EchoesOk (performAction t s).lanes := by
  unfold performAction
  dsimp only
  split
  · split <;> simp [h]
  · split <;> simp [h, armMonitor]
  · exact h

theorem echoesOk_deliver (w : Work) (h : EchoesOk s.lanes) : EchoesOk (deliver s w).lanes := by
  cases w <;> simp [deliver, h]

theorem echoesOk_handOn (h : EchoesOk s.lanes) : EchoesOk (handOn s).lanes :=
  
  List.foldlRecOn (motive := fun t => EchoesOk t.lanes) s.work deliver (b := { s with work := [] }) h
    (fun _ ht w _ => echoesOk_deliver w ht)

theorem echoesOk_settle (n : Nat) (h : EchoesOk s.lanes) : EchoesOk (settle n s).lanes := by
  induction n generalizing s with
  | zero => exact h
  | succ n ih =>
    have followed : EchoesOk (followAll s).lanes := by rwa [lanes_followAll]
    rw [settle_succ]
    split
    · exact ih (echoesOk_handOn followed)
    · split
      · exact ih (by rwa [lanes_buildNotice])
      · exact followed

theorem echoesOk_afterEvent (h : EchoesOk s.lanes) : EchoesOk (afterEvent s).lanes := echoesOk_settle _ h

end

end Sys2Proof.Machine
end

section
/-! SUPPORT. The rules of an echo profile at every lane (R43), through every request and command, and at reset. -/

namespace Sys2Proof.Machine

/-! ### Resets (R42, R196) -/

theorem echoesOk_reset : EchoesOk State.reset.lanes := by
  intro l
  have cleared : State.reset.lanes[l].profile = [] := by simp [State.reset, Lane.reset]
  rw [cleared]
  exact profileOk_nil

theorem echoesOk_powerUp (straps : BitVec 5) (s : State) : EchoesOk (powerUp straps s).lanes := echoesOk_reset

theorem echoesOk_answerPartReset (h : ReqHdr) (s : State) : EchoesOk (answerPartReset h s).lanes := by
  rw [answerPartReset, lanes_relayFirst, lanes_sendReply]
  exact echoesOk_reset

/-! ### Requests -/

@[simp] theorem echoesOk_fst_ite (c : Prop) [Decidable c] (x y : State × Answer) :
    EchoesOk (if c then x else y).1.lanes ↔ if c then EchoesOk x.1.lanes else EchoesOk y.1.lanes := by split <;> rfl

section
variable {s : State} (h : EchoesOk s.lanes)
include h

@[simp] theorem echoesOk_doLaneSetup (lane : Nat) (f : SetupForm) : EchoesOk (doLaneSetup lane f s).1.lanes := by
  unfold doLaneSetup
  split
  · exact h
  · simp [h]

@[simp] theorem echoesOk_doLaneStart (lane : Nat) : EchoesOk (doLaneStart lane s).1.lanes := by
  unfold doLaneStart
  split
  · exact h
  · have started (l : LaneId) : EchoesOk (s.modLane l Lane.start).lanes := echoesOk_modLane_clear h (fun _ => rfl)
    have both (l k : LaneId) : EchoesOk ((s.modLane l Lane.start).modLane k Lane.start).lanes :=
      echoesOk_modLane_clear (started l) (fun _ => rfl)
    simp [h, started, both]

theorem echoesOk_stopLane (l : LaneId) : EchoesOk (stopLane l s).lanes := by
  have given : EchoesOk (dropRef l (markCodeword l (releasePath l false s))).lanes := by
    rw [lanes_dropRef, markCodeword_eq]
    exact (echoesOk_releasePath l false s).mpr h
  have off : EchoesOk ((dropRef l (markCodeword l (releasePath l false s))).modLane l Lane.toOff).lanes :=
    echoesOk_modLane_clear given (fun _ => rfl)
  unfold stopLane
  dsimp only
  split
  · exact echoesOk_modLane_clear off (fun _ => rfl)
  · exact off

@[simp] theorem echoesOk_doLaneStop (lane : Nat) : EchoesOk (doLaneStop lane s).1.lanes := by
  unfold doLaneStop
  split
  · exact h
  · simp [h, echoesOk_stopLane]

@[simp] theorem echoesOk_doLaneRead (lane : Nat) (clear : Bool) : EchoesOk (doLaneRead lane clear s).1.lanes := by
  unfold doLaneRead
  split
  · exact h
  · simp [h]

@[simp] theorem echoesOk_doProfileRead (lane : Nat) : EchoesOk (doProfileRead lane s).1.lanes := by
  unfold doProfileRead
  split <;> exact h

/-- The path of a pair that is dissolved stays with its primary or is released (R72). -/
theorem echoesOk_unpairPath (p : PairId) : EchoesOk (unpairPath p s).lanes := by
  unfold unpairPath
  dsimp only
  split
  · have adopted (z : PathLayout) : EchoesOk (s.modLane (primaryOf p) (adoptPathLayout z)).lanes :=
      (echoesOk_modLane_keep (f := adoptPathLayout z) (fun _ => rfl)).mpr h
    cases (s.pairAt p).layout with
    | none => simp [h]
    | some z => dsimp only; split <;> simp [adopted z]
  · simp [h]

@[simp] theorem echoesOk_doUnpair (p : Nat) : EchoesOk (doUnpair p s).1.lanes := by
  unfold doUnpair
  split
  · exact h
  · simp [h, unpairNow, Lane.toSearch, echoesOk_unpairPath]

/-- Every code of the dictionary is judged by a rule that keeps the profiles' rules (11.5). -/
@[simp] theorem echoesOk_judgeParams (tag code : Nat) (ps : List Byte) : EchoesOk (judgeParams tag code ps s).1.lanes := by
  unfold judgeParams
  split <;> simp [h, doIdent, doMapAbort, doOriginRead, doEventEnable, doEventRead, doEventClear, doFaultRead, doFaultClear]

@[simp] theorem echoesOk_judgeRequest (tag code len : Nat) (ps : List Byte) :
    EchoesOk (judgeRequest tag code len ps s).1.lanes := by
  unfold judgeRequest
  split
  · simp [h, judgeMapLoad]
  · split <;> simp [h]

/-- A request whose judging keeps the profiles' rules keeps them (R188 to R190). -/
theorem echoesOk_answerRequest (r : ReqHdr) (code : Nat) {judge : State → State × Answer}
    (hj : ∀ {s : State}, EchoesOk s.lanes → EchoesOk (judge s).1.lanes) :
    EchoesOk (answerRequest r code judge s).lanes := by
  have judged : EchoesOk (judge (relayFirst r s)).1.lanes := hj (by rwa [lanes_relayFirst])
  unfold answerRequest placeReply
  split
  · rwa [lanes_sendReply]
  · exact judged

theorem echoesOk_takeRequest (r : ReqHdr) (code : Nat) {judge : State → State × Answer}
    (hj : ∀ {s : State}, EchoesOk s.lanes → EchoesOk (judge s).1.lanes) :
    EchoesOk (takeRequest r code judge s).lanes := echoesOk_afterEvent (echoesOk_answerRequest h r code hj)

/-! ### Units on the chain (R151, R186) -/

theorem echoesOk_takeWireRequest (relay : Option Packet) (pkt : Packet) : EchoesOk (takeWireRequest relay pkt s).lanes := by
  unfold takeWireRequest
  dsimp only
  split
  · exact echoesOk_answerPartReset _ s
  · exact echoesOk_answerRequest h _ _ (fun k => echoesOk_judgeRequest k _ _ _ _)

theorem echoesOk_handUnit (u : Packet) : EchoesOk (handUnit u s).lanes := by
  simp [handUnit, mgmtArrival, h, echoesOk_takeWireRequest]

theorem echoesOk_frameUnit (u : Packet) : EchoesOk (frameUnit u s).lanes := by
  have handed (run : ChainIn) : EchoesOk (handUnit u { s with ci := run }).lanes := 
    echoesOk_handUnit (s := { s with ci := run }) h u
  simp [frameUnit, h, handed]

end

/-! ### Every command -/

/-- A command keeps the profiles' rules. -/
def CommandKeepsEchoes (c : Instr) (s : State) : Prop := ∀ t, exec c s = .next t → EchoesOk t.lanes

theorem keeps_event {c : Instr} {a s : State} (hc : exec c s = .next (afterEvent a)) (ha : EchoesOk a.lanes) :
    CommandKeepsEchoes c s := by
  intro t ht
  obtain rfl := Host.Outcome.next.inj (hc.symm.trans ht)
  exact echoesOk_afterEvent ha

/-- A request whose judging keeps the profiles' rules. -/
theorem keeps_request {c : Instr} {r : ReqHdr} {code : Nat} {judge : State → State × Answer} {s : State}
    (hc : exec c s = .next (takeRequest r code judge s)) (h : EchoesOk s.lanes)
    (hj : ∀ {s : State}, EchoesOk s.lanes → EchoesOk (judge s).1.lanes) : CommandKeepsEchoes c s := by
  intro t ht
  obtain rfl := Host.Outcome.next.inj (hc.symm.trans ht)
  exact echoesOk_takeRequest h r code hj

/-- A request whose judging leaves every lane as it is. -/
theorem keeps_offLanes {c : Instr} {r : ReqHdr} {code : Nat} {judge : State → State × Answer} {s : State}
    (hc : exec c s = .next (takeRequest r code judge s)) (h : EchoesOk s.lanes) (hj : ∀ s, (judge s).1.lanes = s.lanes) :
    CommandKeepsEchoes c s := keeps_request hc h (fun k => by rwa [hj])

/-- Every command keeps the profiles' rules. -/
theorem exec_keeps_echoes (c : Instr) {s : State} (h : EchoesOk s.lanes) : CommandKeepsEchoes c s := by
  cases c with
  | powerUpReset straps => intro t ht; cases ht; exact echoesOk_powerUp straps s
  | tick straps => exact keeps_event rfl (by rwa [lanes_tickAll])
  | linkDown l => exact keeps_event rfl (echoesOk_linkLost h l)
  | linkUp l => exact keeps_event (a := linkFound l s) rfl h
  | sampleArrival l i q x => exact keeps_event rfl (echoesOk_takeSample h l i q x)
  | holdoffExpiry l => exact keeps_event rfl (echoesOk_holdoffExpires h l)
  | decodeCompletion _ => exact keeps_event rfl ((echoesOk_decodeCompletes s).mpr h)
  | slotEvent p => exact keeps_event rfl (by rwa [lanes_slotWhenDue])
  | coHoldAssert => exact keeps_event (a := { s with co := { s.co with held := true } }) rfl h
  | coHoldRelease => exact keeps_event (a := { s with co := { s.co with held := false } }) rfl h
  | ciUnitArrival u =>
    have renewed : EchoesOk (renewHold s).lanes := by simpa [renewHold] using h
    exact keeps_event rfl (echoesOk_frameUnit renewed u)
  | timerExpiry t => exact keeps_event rfl (by rwa [lanes_timerExpires])
  | partReset r => exact keeps_event rfl (echoesOk_answerPartReset r s)
  | laneSetup r lane f => exact keeps_request rfl h (fun k => echoesOk_doLaneSetup k lane f)
  | laneStart r lane => exact keeps_request rfl h (fun k => echoesOk_doLaneStart k lane)
  | laneStop r lane => exact keeps_request rfl h (fun k => echoesOk_doLaneStop k lane)
  | laneRead r lane clear => exact keeps_request rfl h (fun k => echoesOk_doLaneRead k lane clear)
  | profileRead r lane => exact keeps_request rfl h (fun k => echoesOk_doProfileRead k lane)
  | unpair r p => exact keeps_request rfl h (fun k => echoesOk_doUnpair k p)
  | ident r => exact keeps_offLanes rfl h (fun _ => rfl)
  | partSetup r id notices => exact keeps_offLanes rfl h (lanes_doPartSetup id notices)
  | pair r p => exact keeps_offLanes rfl h (lanes_doPair p)
  | poolSetup r r0 r1 r2 r3 => exact keeps_offLanes rfl h (lanes_doPoolSetup r0 r1 r2 r3)
  | poolRead r start => exact keeps_offLanes rfl h (lanes_doPoolRead start)
  | decoderSetup r high low => exact keeps_offLanes rfl h (lanes_doDecoderSetup high low)
  | decoderRead r clear => exact keeps_offLanes rfl h (lanes_doDecoderRead clear)
  | mapLoad r g => exact keeps_offLanes rfl h (lanes_doMapLoad g)
  | mapAbort r => exact keeps_offLanes rfl h (fun _ => rfl)
  | mapEditAdd r e => exact keeps_offLanes rfl h (lanes_doMapEditAdd e)
  | mapEditReplace r e => exact keeps_offLanes rfl h (lanes_doMapEditReplace e)
  | mapEditRemove r e => exact keeps_offLanes rfl h (lanes_doMapEditRemove e)
  | mapRead r first count clear => exact keeps_offLanes rfl h (lanes_doMapRead first count clear)
  | mapInvalidate r granularity origin id m => exact keeps_offLanes rfl h (lanes_doMapInvalidate granularity origin id m)
  | originSetup r origin f => exact keeps_offLanes rfl h (lanes_doOriginSetup origin f)
  | originRead r => exact keeps_offLanes rfl h (fun _ => rfl)
  | portSetup r port interval high low limit =>
    exact keeps_offLanes rfl h (lanes_doPortSetup port interval high low limit)
  | portStop r port => exact keeps_offLanes rfl h (lanes_doPortStop port r.tag)
  | portStart r port => exact keeps_offLanes rfl h (lanes_doPortStart port)
  | portFlush r port => exact keeps_offLanes rfl h (lanes_doPortFlush port)
  | portRead r port clear => exact keeps_offLanes rfl h (lanes_doPortRead port clear)
  | monitorSetup r monitor f => exact keeps_offLanes rfl h (lanes_doMonitorSetup monitor f)
  | monitorArm r monitor => exact keeps_offLanes rfl h (lanes_doMonitorArm monitor)
  | monitorRead r monitor part clear => exact keeps_offLanes rfl h (lanes_doMonitorRead monitor part clear)
  | timerSetup r timer f => exact keeps_offLanes rfl h (lanes_doTimerSetup timer f)
  | timerStart r timer => exact keeps_offLanes rfl h (lanes_doTimerStart timer)
  | timerStop r timer => exact keeps_offLanes rfl h (lanes_doTimerStop timer)
  | timerRead r timer clear => exact keeps_offLanes rfl h (lanes_doTimerRead timer clear)
  | eventEnable r enables => exact keeps_offLanes rfl h (fun _ => rfl)
  | eventRead r => exact keeps_offLanes rfl h (fun _ => rfl)
  | eventClear r named => exact keeps_offLanes rfl h (fun _ => rfl)
  | faultRead r => exact keeps_offLanes rfl h (fun _ => rfl)
  | faultClear r all places => exact keeps_offLanes rfl h (fun _ => rfl)

/-- A step is idle, or it is its front command on the queue's rest (log 1). -/
theorem step_cases {s t : State} (h : step s = .next t) :
    t = s ∨ ∃ c rest, s.pending = c :: rest ∧ exec c { s with pending := rest } = .next t := by
  unfold step at h
  split at h
  · cases h; exact .inl rfl
  next c rest queue => exact .inr ⟨c, rest, queue, h⟩

/-- Settles O9: a command keeps, clears or updates a profile, and an update keeps the rules stage by stage. -/
theorem profileRulesHold : Obligations.ProfileRulesHold := by
  refine ⟨fun s t h ht => ?step, fun st m pat floorF impulse x hx => ?update⟩
  case step =>
    rw [profilesOk_iff] at h ⊢
    rcases step_cases ht with rfl | ⟨c, rest, -, run⟩
    · exact h
    · exact exec_keeps_echoes c (s := { s with pending := rest }) h t run
  case update => exact updateProfile_keeps st m pat floorF impulse hx

end Sys2Proof.Machine
end

section
/-! SUPPORT. The rules of the whole part at reset (R43, R82 to R85, R116, R119, R125, R137, R199, R203). -/

namespace Sys2Proof.Machine

theorem pairAt_reset (p : PairId) : State.reset.pairAt p = Pair.reset := by simp [State.pairAt, State.reset]

/-- No lane owns a page of the FREE map. -/
theorem owned_reset (l : LaneId) : Pool.reset.owned l = 0 :=
  List.count_eq_zero.mpr (fun owned => by cases List.eq_of_mem_replicate owned)

theorem poolLaw_reset : poolLaw Pool.reset = true := by
  have reserved (l : LaneId) : Pool.reset.reserved[l] = 0 := Vector.getElem_replicate l.isLt
  have unmet (l : LaneId) : Pool.reset.unmet l = 0 := by rw [Pool.unmet, reserved, Nat.zero_sub]
  have length : Pool.reset.pageMap.length = 1024 := List.length_replicate
  simp [poolLaw, Pool.unmetSum, unmet, length]

/-- The map is empty. -/
theorem mapOk_reset (id : Nat) : mapOk id MapUnit.reset = true := by
  have entries : entriesIn MapUnit.reset.slots = [] := List.filterMap_replicate_of_none rfl
  have length : MapUnit.reset.slots.length = 1024 := List.length_replicate
  have staging : MapUnit.reset.staging = none := rfl
  simp [mapOk, entries, length, staging, keysDistinct, imageConflicts, claimsDistinct]

/-- Only CI is in a passing mode. -/
theorem originsOk_reset : originsOk MapUnit.reset = true := by decide

theorem pairsOk_reset : pairsOk State.reset = true := by
  simp [pairsOk, pairAt_reset, Pair.reset]

theorem ownersOk_reset : ownersOk State.reset = true := by
  have owned (l : LaneId) : State.reset.pool.owned l = 0 := owned_reset l
  simp [ownersOk, owned]

/-- Settles O4: each rule at its block's reset values. -/
theorem rulesHoldAtReset : Obligations.RulesHoldAtReset :=
  ⟨rfl, rfl, rfl, poolLaw_reset, mapOk_reset _, rfl, originsOk_reset, rfl, (profilesOk_iff _).mpr echoesOk_reset,
    pairsOk_reset, ownersOk_reset⟩

end Sys2Proof.Machine
end

section
/-! SUPPORT. PAIR and UNPAIR of a pair that exists (R71, R72): the data path that a primary keeps as its own or gives up, and
the rest of an UNPAIR. -/

namespace Sys2Proof.Machine

@[simp] theorem asPair_val (p : PairId) : asPair p.val = some p := dif_pos p.isLt

theorem secondaryOf_ne_primaryOf (p : PairId) : secondaryOf p ≠ primaryOf p := by revert p; decide

theorem paired_primaryOf {p : PairId} {s : State} (h : (s.pairAt p).formed = true) : paired s (primaryOf p) = true := by
  rw [paired, pairOf_primaryOf, h]

/-! ### PAIR -/

theorem doPair_busy {p : PairId} {s : State}
    (h : (s.lane (primaryOf p)).state ≠ .off ∨ (s.lane (secondaryOf p)).state ≠ .off) :
    doPair p.val s = (s, .now (.refused .busy)) := by
  simp only [doPair, asPair_val, if_pos h]

theorem doPair_off {p : PairId} {s : State} (first : (s.lane (primaryOf p)).state = .off)
    (second : (s.lane (secondaryOf p)).state = .off) :
    doPair p.val s = (if (s.pairAt p).formed then s else s.setPair p Pair.fresh, .now (.done [])) := by
  have off : ¬((s.lane (primaryOf p)).state ≠ .off ∨ (s.lane (secondaryOf p)).state ≠ .off) := by simp [first, second]
  simp only [doPair, asPair_val, if_neg off]
  split <;> rfl

/-! ### The data path at an UNPAIR -/

/-- A primary's lane with the layout of its pair's path (R72 step 1). -/
def adoptedFrom (x : Pair) (c : Lane) : Lane := x.layout.elim c (fun z => adoptPathLayout z c)

/-- The layout a lane adopts: version and pipe are the path's, the first cell its own (log 49). -/
def adoptedLayout (x : Pair) (c : Lane) : Option Layout := (adoptedFrom x c).layout

theorem adoptedFrom_eq (x : Pair) (c : Lane) : adoptedFrom x c = { c with layout := adoptedLayout x c } := by
  unfold adoptedLayout adoptedFrom
  cases x.layout <;> rfl

theorem adoptedLayout_none {x : Pair} (h : x.layout = none) (c : Lane) : adoptedLayout x c = c.layout := by
  simp [adoptedLayout, adoptedFrom, h]

theorem adoptedLayout_some {x : Pair} {c : Lane} {z : PathLayout} {v : Layout} (hz : x.layout = some z)
    (hv : c.layout = some v) : ∃ cell, adoptedLayout x c = some { v with
      version := z.version, pipe := some ⟨z.params, cell⟩ } ∧ ∀ w, v.pipe = some w → cell = w.first := by
  simp only [adoptedLayout, adoptedFrom, hz, Option.elim_some, adoptPathLayout, hv, Option.map_some]
  refine ⟨_, rfl, fun w hw => ?_⟩
  rw [hw]

/-- A path that stays with its primary as it stands (R72 steps 1 and 2; log 21). -/
theorem unpairPath_serving {p : PairId} {s : State} (h : inLockOrFade s (primaryOf p) = true) : unpairPath p s =
    if (s.pairAt p).ref = .secondary
      then abandonGroup (primaryOf p) (s.setLane (primaryOf p) (adoptedFrom (s.pairAt p) (s.lane (primaryOf p))))
      else s.setLane (primaryOf p) (adoptedFrom (s.pairAt p) (s.lane (primaryOf p))) := by
  simp only [unpairPath, h, if_true]
  cases hz : (s.pairAt p).layout with
  | none => simp only [adoptedFrom, hz, Option.elim_none, setLane_lane]
  | some z => simp only [adoptedFrom, hz, Option.elim_some, modLane_eq]; rfl

/-- A path given up at an UNPAIR (R72 step 2, R88). -/
theorem unpairPath_idle {p : PairId} {s : State} (h : inLockOrFade s (primaryOf p) = false) :
    unpairPath p s = judgeCongestion (pathReleased (primaryOf p) true s) := by
  simp only [unpairPath, h, Bool.false_eq_true, if_false, releasePath_eq]

/-- What the path's part of an UNPAIR leaves, whichever it is. -/
structure PathUnpaired (p : PairId) (s t : State) : Prop where
  lanes : ∀ k, k ≠ primaryOf p → t.lane k = s.lane k
  pairs : ∀ q, q ≠ p → t.pairAt q = s.pairAt q
  pstate : (t.pairAt p).pstate = (s.pairAt p).pstate
  waiting : (t.pairAt p).waiting =
    if inLockOrFade s (primaryOf p) = true ∧ (s.pairAt p).ref ≠ .secondary then (s.pairAt p).waiting else []
  reserved : t.pool.reserved = s.pool.reserved
  rest : t = { s with lanes := t.lanes, pairs := t.pairs, pool := t.pool, dec := t.dec, ev := t.ev, work := t.work }

/-- A pair with its waiting symbols and its frame's counts discarded (R77). -/
def Pair.discarded (x : Pair) : Pair := { x with waiting := [], contrib := 0, doneFrame := none }

theorem unpairPath_goesOn {p : PairId} {s : State} (serves : inLockOrFade s (primaryOf p) = true)
    (own : (s.pairAt p).ref ≠ .secondary) :
    unpairPath p s = s.setLane (primaryOf p) (adoptedFrom (s.pairAt p) (s.lane (primaryOf p))) := by
  rw [unpairPath_serving serves, if_neg own]

theorem unpairPath_abandons {p : PairId} {s : State} (formed : (s.pairAt p).formed = true)
    (serves : inLockOrFade s (primaryOf p) = true) (other : (s.pairAt p).ref = .secondary) : unpairPath p s =
      (s.setLane (primaryOf p) { adoptedFrom (s.pairAt p) (s.lane (primaryOf p)) with group := none }).setPair p
        (s.pairAt p).discarded := by
  rw [unpairPath_serving serves, if_pos other, abandonGroup_paired (paired_primaryOf (s := s.setLane _ _) formed),
    pairOf_primaryOf, lane_setLane_self, setLane_setLane]
  rfl

theorem pathReleased_pairs {p : PairId} {s : State} (formed : (s.pairAt p).formed = true) :
    (pathReleased (primaryOf p) true s).pairs = (s.setPair p (s.pairAt p).discarded).pairs := by
  rw [pathReleased, discardWaiting_paired (paired_primaryOf formed), pairOf_primaryOf]
  rfl

theorem pathUnpaired {p : PairId} {s : State} (formed : (s.pairAt p).formed = true) : PathUnpaired p s (unpairPath p s) := by
  cases serves : inLockOrFade s (primaryOf p) with
  | true =>
    by_cases other : (s.pairAt p).ref = .secondary
    · rw [unpairPath_abandons formed serves other]
      exact ⟨fun k hk => lane_setLane_ne s _ _ _ hk, fun q hq => pairAt_setPair_ne (s.setLane _ _) _ _ _ hq,
        by rw [pairAt_setPair_self]; rfl, by rw [pairAt_setPair_self]; simp [other, Pair.discarded], rfl, rfl⟩
    · rw [unpairPath_goesOn serves other]
      exact ⟨fun k hk => lane_setLane_ne s _ _ _ hk, fun _ _ => rfl, rfl, by simp [serves, other], rfl, rfl⟩
  | false =>
    have pairs : (unpairPath p s).pairs = (s.setPair p (s.pairAt p).discarded).pairs := by
      rw [unpairPath_idle serves, ← pathReleased_pairs formed]
      rfl
    have self : (unpairPath p s).pairAt p = (s.pairAt p).discarded :=
      (pairAt_congr (s := s.setPair p _) pairs p).trans (pairAt_setPair_self _ _ _)
    refine ⟨fun k hk => ?_, fun q hq => (pairAt_congr (s := s.setPair p _) pairs q).trans (pairAt_setPair_ne _ _ _ _ hq),
      by rw [self]; rfl, by rw [self]; simp [serves, Pair.discarded], ?_, ?_⟩ <;> rw [unpairPath_idle serves]
    · exact lane_setLane_ne s _ _ _ hk
    · rfl
    · rfl

/-! ### The rest of an UNPAIR -/

/-- The secondary of a pair that is dissolved goes to SEARCH unless it is OFF (R72 step 3). -/
def secondaryLeft (p : PairId) (u : State) : State :=
  if (u.lane (secondaryOf p)).state ≠ .off then u.modLane (secondaryOf p) (fun c => c.toSearch 0) else u

theorem secondaryLeft_rest (p : PairId) (u : State) :
    secondaryLeft p u = { u with lanes := (secondaryLeft p u).lanes } := by
  unfold secondaryLeft
  split <;> rfl

theorem lane_secondaryLeft_other {p : PairId} {k : LaneId} (hk : k ≠ secondaryOf p) (u : State) :
    (secondaryLeft p u).lane k = u.lane k := by
  unfold secondaryLeft
  split
  · exact lane_modLane_ne _ _ _ _ hk
  · rfl

theorem lane_secondaryLeft (p : PairId) (u : State) : (secondaryLeft p u).lane (secondaryOf p) =
    if (u.lane (secondaryOf p)).state ≠ .off then (u.lane (secondaryOf p)).toSearch 0 else u.lane (secondaryOf p) := by
  unfold secondaryLeft
  split
  · exact lane_modLane_self _ _ _
  · rfl

/-- A lane that goes to SEARCH keeps its ready list. -/
theorem ready_secondaryLeft (p : PairId) (u : State) (k : LaneId) :
    ((secondaryLeft p u).lane k).ready = (u.lane k).ready := by
  by_cases hk : k = secondaryOf p
  · rw [hk, lane_secondaryLeft]
    split <;> rfl
  · rw [lane_secondaryLeft_other hk]

/-- An UNPAIR in full: the path's part, the secondary, the pair's state with its event, and the pair dissolved (R72, R79). -/
theorem unpairNow_eq (p : PairId) (s : State) : unpairNow p s = { unpairPath p s with
    lanes := (secondaryLeft p (unpairPath p s)).lanes
    pairs := (unpairPath p s).pairs.set p ((unpairPath p s).pairAt p).dissolved
    ev := if ((unpairPath p s).pairAt p).pstate = .none then (unpairPath p s).ev
      else raiseIn (unpairPath p s).ev (26 + p.val) } := by
  have whole : unpairNow p s =
      (setPairState p .none (secondaryLeft p (unpairPath p s))).modPair p Pair.dissolved := rfl
  have pair : (secondaryLeft p (unpairPath p s)).pairAt p = (unpairPath p s).pairAt p := by rw [secondaryLeft_rest]; rfl
  rw [whole, setPairState, pair]
  split
  · rw [secondaryLeft_rest, modPair_eq]
    rfl
  · rw [modPair_eq, pairAt_raise, pairAt_modPair_self, modPair_eq, secondaryLeft_rest]
    simp only [State.setPair, raise, Vector.set_set]
    rfl

theorem doUnpair_single {p : PairId} {s : State} (h : (s.pairAt p).formed = false) :
    doUnpair p.val s = (s, .now (.done [])) := by
  simp [doUnpair, h]

theorem doUnpair_formed {p : PairId} {s : State} (h : (s.pairAt p).formed = true) :
    doUnpair p.val s = (unpairNow p s, .now (.done [])) := by
  simp [doUnpair, h]

section
variable {p : PairId} {s : State} (formed : (s.pairAt p).formed = true)
include formed

theorem pairAt_unpairNow_self : (unpairNow p s).pairAt p = ⟨false, .none, .none, [],
    if inLockOrFade s (primaryOf p) = true ∧ (s.pairAt p).ref ≠ .secondary then (s.pairAt p).waiting else [],
    none, 0, 0, none⟩ := by
  rw [unpairNow_eq, ← (pathUnpaired formed).waiting]
  exact pairAt_setPair_self (unpairPath p s) p _

theorem pairAt_unpairNow_other {q : PairId} (hq : q ≠ p) : (unpairNow p s).pairAt q = s.pairAt q := by
  rw [unpairNow_eq, ← (pathUnpaired formed).pairs q hq]
  exact pairAt_setPair_ne (unpairPath p s) p q _ hq

omit formed in
theorem lane_unpairNow (k : LaneId) : (unpairNow p s).lane k = (secondaryLeft p (unpairPath p s)).lane k := by
  rw [unpairNow_eq]
  rfl

theorem lane_unpairNow_other {k : LaneId} (first : k ≠ primaryOf p) (second : k ≠ secondaryOf p) :
    (unpairNow p s).lane k = s.lane k := by
  rw [lane_unpairNow, lane_secondaryLeft_other second, (pathUnpaired formed).lanes k first]

omit formed in
theorem lane_unpairNow_primary : (unpairNow p s).lane (primaryOf p) = (unpairPath p s).lane (primaryOf p) := by
  rw [lane_unpairNow, lane_secondaryLeft_other (secondaryOf_ne_primaryOf p).symm]

theorem lane_unpairNow_secondary : (unpairNow p s).lane (secondaryOf p) =
    if (s.lane (secondaryOf p)).state ≠ .off then (s.lane (secondaryOf p)).toSearch 0 else s.lane (secondaryOf p) := by
  rw [lane_unpairNow, lane_secondaryLeft, (pathUnpaired formed).lanes _ (secondaryOf_ne_primaryOf p)]

/-- A path that stays with its primary (R72 steps 1 and 2). -/
theorem unpairNow_serving (serves : inLockOrFade s (primaryOf p) = true) :
    (unpairNow p s).pool = s.pool ∧ (unpairNow p s).dec = s.dec ∧
    (unpairNow p s).lane (primaryOf p) = { s.lane (primaryOf p) with
      layout := adoptedLayout (s.pairAt p) (s.lane (primaryOf p))
      group := if (s.pairAt p).ref = .secondary then none else (s.lane (primaryOf p)).group } := by
  rw [lane_unpairNow_primary, unpairNow_eq]
  by_cases other : (s.pairAt p).ref = .secondary
  · rw [unpairPath_abandons formed serves other, if_pos other, adoptedFrom_eq]
    exact ⟨rfl, rfl, lane_setLane_self s _ _⟩
  · rw [unpairPath_goesOn serves other, if_neg other, adoptedFrom_eq]
    exact ⟨rfl, rfl, lane_setLane_self s _ _⟩

omit formed in
/-- A path given up: no page, no group, no ready list, and the congestion flag judged (R72, R88, R101). -/
theorem unpairNow_idle (idle : inLockOrFade s (primaryOf p) = false) :
    (unpairNow p s).pool = s.pool.release (primaryOf p) ∧
    (unpairNow p s).lane (primaryOf p) = { s.lane (primaryOf p) with group := none }.unready true ∧
    (unpairNow p s).dec = { s.dec with congested := (unpairNow p s).dec.congested } ∧
    ((unpairNow p s).dec.congested = true ↔ (if s.dec.congested then s.dec.low < readyTotal (unpairNow p s)
      else s.dec.high ≤ readyTotal (unpairNow p s))) := by
  obtain ⟨flag, judged, low_or_high⟩ := judgeCongestion_flag (pathReleased (primaryOf p) true s)
  have given : unpairPath p s = { pathReleased (primaryOf p) true s with
      dec := { s.dec with congested := flag }, ev := if flag then raiseIn s.ev 28 else lowerIn s.ev 28 } :=
    (unpairPath_idle idle).trans judged
  have total : readyTotal (unpairNow p s) = readyTotal (pathReleased (primaryOf p) true s) :=
    readyTotal_congr (fun k => by rw [lane_unpairNow, ready_secondaryLeft, given]; rfl)
  have dec : (unpairNow p s).dec = { s.dec with congested := flag } := by rw [unpairNow_eq, given]
  rw [total, dec, lane_unpairNow_primary, unpairNow_eq, given]
  exact ⟨rfl, lane_setLane_self s _ _, rfl, low_or_high⟩

/-- The blocks that an UNPAIR leaves. -/
theorem unpairNow_rest : unpairNow p s = { s with
    lanes := (unpairNow p s).lanes, pairs := (unpairNow p s).pairs, pool := (unpairNow p s).pool, dec := (unpairNow p s).dec
    ev := (unpairNow p s).ev, work := (unpairNow p s).work } := by
  have path := (pathUnpaired formed).rest
  rw [unpairNow_eq]
  generalize unpairPath p s = u at path
  rw [path]

theorem unpairNow_reserved : (unpairNow p s).pool.reserved = s.pool.reserved := by
  rw [unpairNow_eq]
  exact (pathUnpaired formed).reserved

/-- A pair that has a state loses it, which raises PAIR_CHANGE (R79). -/
theorem unpairNow_raises (had : (s.pairAt p).pstate ≠ .none) : (unpairNow p s).ev.flags.getLsbD (26 + p.val) = true := by
  rw [unpairNow_eq, (pathUnpaired formed).pstate]
  simp only [if_neg had]
  exact raiseIn_self _ _ (by have := p.isLt; omega)

end

/-- Settles O25: PAIR by its tests; UNPAIR part by part, its path kept or given up by the primary's state. -/
theorem pairRequests : Obligations.PairRequests := by
  intro tag p s first second serves
  refine ⟨?pair, ?unpair⟩
  case pair =>
    obtain ⟨t, ht, taken⟩ := request_taken (c := .pair ⟨tag, none⟩ p.val) (s := s) rfl
    refine ⟨t, ht, fun busy => taken (doPair_busy busy), fun off1 off2 formed => taken ?_, fun off1 off2 single => taken ?_⟩ <;>
      rw [doPair_off off1 off2]
    · rw [formed]; rfl
    · rw [single]; rfl
  case unpair =>
    obtain ⟨t, ht, taken⟩ := request_taken (c := .unpair ⟨tag, none⟩ p.val) (s := s) rfl
    refine ⟨t, ht, fun single => taken (doUnpair_single single), fun formed => ⟨unpairNow p s,
      taken (doUnpair_formed formed), ?_⟩⟩
    have serving : inLockOrFade s (primaryOf p) = true ↔ serves := inLockOrFade_iff s _
    have self := pairAt_unpairNow_self formed
    have second_lane := lane_unpairNow_secondary formed
    have rest := unpairNow_rest formed
    refine ⟨?self, fun q hq => pairAt_unpairNow_other formed hq, fun k h1 h2 => lane_unpairNow_other formed h1 h2,
      fun off => ?off, fun on => ?on, fun h => ?serves, fun h => ?idle, unpairNow_raises formed, ?_⟩
    case self => simpa only [serving] using self
    case off => exact second_lane.trans (if_neg (fun on => on off))
    case on =>
      rw [if_pos on] at second_lane
      rw [second_lane]
      exact ⟨rfl, rfl, rfl, rfl, rfl, rfl, rfl, rfl, rfl, rfl, rfl, rfl⟩
    case serves =>
      obtain ⟨pool, dec, lane⟩ := unpairNow_serving formed (serving.mpr h)
      exact ⟨pool, dec, _, lane, fun none_held => adoptedLayout_none none_held _, fun z v hz hv => adoptedLayout_some hz hv⟩
    case idle =>
      obtain ⟨pool, lane, dec, congested⟩ := unpairNow_idle (Bool.eq_false_iff.mpr (h ∘ serving.mp))
      refine ⟨?_, fun k hk => ?_, ?_, lane, dec, congested⟩ <;> rw [pool]
      · exact owned_release_self _ _
      · exact owned_release_other _ hk
      · rfl
    · have reserved := unpairNow_reserved formed
      rw [rest] at reserved ⊢
      exact ⟨rfl, rfl, rfl, rfl, rfl, rfl, rfl, rfl, reserved⟩

end Sys2Proof.Machine
end

section
/-! SUPPORT. A data-path completion (R79, R80): the pair state that a reference frame sets, and the report of a partner in LOCK
that contributed to none of its symbols. -/

namespace Sys2Proof.Machine

/-! ### The pair state (R79) -/

theorem setPairState_same {p : PairId} {v : PairState} {s : State} (h : (s.pairAt p).pstate = v) : setPairState p v s = s :=
  if_pos h

theorem setPairState_changed {p : PairId} {v : PairState} {s : State} (h : (s.pairAt p).pstate ≠ v) :
    setPairState p v s = raise (26 + p.val) (s.setPair p { s.pairAt p with pstate := v }) := if_neg h

theorem frameState_dual (ref : RefLane) {d contrib : Nat} (h : d ≤ 2 * contrib) : frameState ref d contrib = .dual := if_pos h

theorem frameState_singleP {ref : RefLane} {d contrib : Nat} (h : 2 * contrib < d) (hr : ref ≠ .secondary) :
    frameState ref d contrib = .singleP := by rw [frameState, if_neg (by omega), if_neg hr]

theorem frameState_singleS {ref : RefLane} {d contrib : Nat} (h : 2 * contrib < d) (hr : ref = .secondary) :
    frameState ref d contrib = .singleS := by rw [frameState, if_neg (by omega), if_pos hr]

/-- A pair keeps its state while one of its lanes is in LOCK. -/
theorem followPair_keeps {p : PairId} {s : State} (h : (s.pairAt p).formed = false ∨ (s.lane (primaryOf p)).state = .lock ∨
    (s.lane (secondaryOf p)).state = .lock) : followPair s p = s := by
  refine if_neg ?_
  rintro ⟨formed, first, second⟩
  rcases h with single | lock | lock
  · simp [formed] at single
  · exact first lock
  · exact second lock

/-! ### The completion -/

/-- The lane that is not the pair's reference; the secondary where there is none. -/
def partnerOfRef (pr : Pair) (p : PairId) : LaneId := if pr.ref = .secondary then primaryOf p else secondaryOf p

/-- Whether the partner was in LOCK through a frame and contributed to none of its symbols (R80). -/
def misaligned (p : PairId) (x : WaitingSymbol) (s : State) : Bool :=
  x.partnerLock && decide ((s.lane (partnerOfRef (s.pairAt p) p)).state = .lock) && decide ((s.pairAt p).contrib = 0)

theorem misaligned_iff (p : PairId) (x : WaitingSymbol) (s : State) : misaligned p x s = true ↔
    x.partnerLock = true ∧ (s.lane (partnerOfRef (s.pairAt p) p)).state = .lock ∧ (s.pairAt p).contrib = 0 := by
  simp only [misaligned, Bool.and_eq_true, decide_eq_true_eq, and_assoc]

/-- The last frame counter of a lane's layout; 0 without one. -/
def lastCounter (c : Lane) : Nat := match c.layout with | some y => y.lastFrame | none => 0

/-- The state after a frame's pair state is set (R79). -/
def frameStateSet (p : PairId) (x : WaitingSymbol) (s : State) : State :=
  setPairState p (frameState (s.pairAt p).ref x.d (s.pairAt p).contrib) s

/-- The state after PAIR_MISALIGNED is reported of a frame (R80): the offset is the partner's counter against the frame's. -/
def misalignedTold (p : PairId) (x : WaitingSymbol) (s : State) : State :=
  report (10 + p.val) .pairMisaligned ((lastCounter (s.lane (partnerOfRef (s.pairAt p) p)) + 256 - x.counter % 256) % 256)
    (frameStateSet p x s)

/-- The frame accounted for and remembered as completed (R79, R93; log 33). -/
def frameCompleted (p : PairId) (x : WaitingSymbol) (b : State) : State :=
  frameAccounting (primaryOf p) (b.setPair p { b.pairAt p with contrib := 0, doneFrame := some x.counter })

theorem lane_setPairState (p : PairId) (v : PairState) (s : State) (l : LaneId) : (setPairState p v s).lane l = s.lane l := by
  unfold setPairState
  split <;> rfl

theorem pathCompletion_eq (p : PairId) (x : WaitingSymbol) (s : State) : pathCompletion p x s =
    frameCompleted p x (if misaligned p x s = true then misalignedTold p x s else frameStateSet p x s) := by
  simp only [pathCompletion, misaligned, misalignedTold, lastCounter, partnerOfRef, lane_setPairState]
  rfl

/-- Settles O57: a completion by whether its partner is misaligned, a change of the pair state, and what follows the lanes. -/
theorem dataPathCompletes : Obligations.DataPathCompletes := by
  refine ⟨fun p x s => ?completion, fun p v s => ⟨setPairState_same, setPairState_changed⟩,
    fun p s => ⟨fun formed first second => if_pos ⟨formed, first, second⟩, followPair_keeps⟩⟩
  intro pr partner told
  refine ⟨frameStateSet p x s, if misaligned p x s = true then misalignedTold p x s else frameStateSet p x s,
    pathCompletion_eq p x s, fun h => by rw [← frameState_dual pr.ref h]; rfl,
    fun h hr => by rw [← frameState_singleP h hr]; rfl, fun h hr => by rw [← frameState_singleS h hr]; rfl,
    fun no => if_neg (no ∘ (misaligned_iff p x s).mp), fun yes y layout small _ => ?_⟩
  have last : lastCounter (s.lane partner) = y.lastFrame := by rw [lastCounter, layout]
  rw [if_pos ((misaligned_iff p x s).mpr yes), ← last, ← Nat.mod_eq_of_lt small]
  rfl

end Sys2Proof.Machine
end

section
/-! SUPPORT. How the reference of a pair moves to a lane (R75, R76): the reference led over, the record compared with the layout
held, and the record's counter taken as the data path's last. -/

namespace Sys2Proof.Machine

/-- The reference of a lane's pair is the lane (R75). -/
def refLed (l : LaneId) (z : State) : State :=
  z.setPair (pairOf l) { z.pairAt (pairOf l) with ref := if l.val % 2 = 0 then .primary else .secondary }

/-- A record's counter is the data path's last frame counter (R75). -/
def counterTaken (l : LaneId) (r : FrameRecord) (z : State) : State :=
  z.setPair (pairOf l) { z.pairAt (pairOf l) with lastFrame := r.counter }

/-- A record's selected pipe has the parameters that a pair's data path holds (R33; log 18). -/
def Unaltered (l : LaneId) (r : FrameRecord) (s : State) : Prop :=
  ∃ w z, (s.pairAt (pairOf l)).layout.map (·.params) = some w ∧ selectPipe (selectId s l) r = some z ∧ z.params = w

theorem modPair_refName (l : LaneId) (z : State) :
    z.modPair (pairOf l) (fun x => { x with ref := refName l }) = refLed l z := by
  rw [modPair_eq, refName_eq]
  rfl

theorem lane_refLed (l k : LaneId) (z : State) : (refLed l z).lane k = z.lane k := rfl

@[simp] theorem paired_refLed (l : LaneId) (z : State) : paired (refLed l z) l = paired z l := by
  simp [paired, refLed]

theorem selectId_refLed (l : LaneId) (z : State) : selectId (refLed l z) l = selectId z l := by
  simp only [selectId, pathOf, paired_refLed]
  rfl

theorem pathParams_primary {l : LaneId} {s : State} (h : paired s l = true) :
    pathParams s (primaryOf (pairOf l)) = (s.pairAt (pairOf l)).layout.map (·.params) := by
  have same : paired s (primaryOf (pairOf l)) = true := by rw [← pathOf_paired h, paired_pathOf, h]
  rw [pathParams, if_pos same, pairOf_primaryOf]

theorem pathParams_refLed {l : LaneId} {z : State} (h : paired z l = true) :
    pathParams (refLed l z) (primaryOf (pairOf l)) = (z.pairAt (pairOf l)).layout.map (·.params) := by
  rw [pathParams_primary ((paired_refLed l z).trans h)]
  simp [refLed]

/-- The comparison that the move of a reference makes (R75, R76). -/
theorem altersPipe_refLed {l : LaneId} {z : State} (r : FrameRecord) (h : paired z l = true) :
    altersPipe (pathParams (refLed l z) (pathOf (refLed l z) l)) (selectId (refLed l z) l) r = false ↔ Unaltered l r z := by
  rw [pathOf_paired ((paired_refLed l z).trans h), pathParams_refLed h, selectId_refLed]
  exact altersPipe_eq_false_iff

/-- Deciding the symbols that wait leaves what a record is compared with. -/
theorem unaltered_decideAll (l : LaneId) (r : FrameRecord) (s : State) :
    Unaltered l r (decideAll (pairOf l) s) ↔ Unaltered l r s := by
  have kept := path_decideAll (pairOf l) s
  have layout : ((decideAll (pairOf l) s).pairAt (pairOf l)).layout = (s.pairAt (pairOf l)).layout := by
    rw [kept.pairs]
  rw [Unaltered, Unaltered, layout, kept.selectId]

/-! ### From none to a lane (R75) -/

/-- What a lane that becomes the reference does to the data path before the counter is taken (R75). -/
def pathTaken (l : LaneId) (granted : Bool) (r : FrameRecord) (z : State) : State :=
  if granted then beginGroup (pathOf z l) .a (setPathLayout l r (abandonGroup (pathOf z l) z))
  else if altersPipe (pathParams z (pathOf z l)) (selectId z l) r then layoutChange l r z
  else beginAgain (pathOf z l) (setPathLayout l r z)

theorem takeReference_eq (l : LaneId) (granted : Bool) (r : FrameRecord) (s : State) :
    takeReference l granted r s = counterTaken l r (pathTaken l granted r (refLed l s)) := by
  rw [← modPair_refName]
  rfl

section
variable {l : LaneId} {s : State} (h : paired s l = true)
include h

theorem pathOf_refLed : pathOf (refLed l s) l = primaryOf (pairOf l) := pathOf_paired ((paired_refLed l s).trans h)

theorem pathTaken_granted (r : FrameRecord) : pathTaken l true r (refLed l s) =
    beginGroup (primaryOf (pairOf l)) .a (setPathLayout l r (abandonGroup (primaryOf (pairOf l)) (refLed l s))) := by
  rw [← pathOf_refLed h]
  rfl

theorem pathTaken_unaltered {r : FrameRecord} (same : Unaltered l r s) : pathTaken l false r (refLed l s) =
    beginAgain (primaryOf (pairOf l)) (setPathLayout l r (refLed l s)) := by
  rw [pathTaken, if_neg Bool.false_ne_true, (altersPipe_refLed r h).mpr same, if_neg Bool.false_ne_true, pathOf_refLed h]

theorem pathTaken_altered {r : FrameRecord} (altered : ¬Unaltered l r s) : pathTaken l false r (refLed l s) =
    layoutChange l r (refLed l s) := by
  rw [pathTaken, if_neg Bool.false_ne_true, if_pos]
  exact Bool.eq_true_of_not_eq_false (fun no => altered ((altersPipe_refLed r h).mp no))

end

/-! ### From one lane to the other (R76) -/

/-- Whether a new frame carries the old one's group on (R76): the old frame complete, the counter next, a group there
(log 33). -/
def groupGoesOn (l : LaneId) (r : FrameRecord) (d : State) : Prop :=
  (d.pairAt (pairOf l)).doneFrame = some (d.pairAt (pairOf l)).lastFrame ∧
    r.counter = ((d.pairAt (pairOf l)).lastFrame + 1) % 256 ∧ (d.lane (primaryOf (pairOf l))).group.isSome = true

theorem not_groupGoesOn_iff (l : LaneId) (r : FrameRecord) (d : State) : ¬groupGoesOn l r d ↔
    (d.pairAt (pairOf l)).doneFrame ≠ some (d.pairAt (pairOf l)).lastFrame ∨
      r.counter ≠ ((d.pairAt (pairOf l)).lastFrame + 1) % 256 ∨ (d.lane (primaryOf (pairOf l))).group = none := by
  rw [groupGoesOn, not_and_or, not_and_or, Option.not_isSome_iff_eq_none]

/-- What a switch of the reference does to the data path before the counter is taken, the symbols that wait decided (R76). -/
def pathSwitched (l : LaneId) (r : FrameRecord) (d : State) : State :=
  if altersPipe (pathParams (refLed l d) (pathOf (refLed l d) l)) (selectId (refLed l d) l) r then layoutChange l r (refLed l d)
  else
    if decide ((d.pairAt (pairOf l)).doneFrame = some (d.pairAt (pairOf l)).lastFrame) &&
        decide (r.counter = ((d.pairAt (pairOf l)).lastFrame + 1) % 256) &&
        ((refLed l d).lane (pathOf (refLed l d) l)).group.isSome then setPathLayout l r (refLed l d)
    else beginAgain (pathOf (setPathLayout l r (refLed l d)) l) (setPathLayout l r (refLed l d))

theorem switchReference_eq (l : LaneId) (r : FrameRecord) (s : State) :
    switchReference l r s = counterTaken l r (pathSwitched l r (decideAll (pairOf l) s)) := by
  rw [pathSwitched, ← modPair_refName]
  rfl

section
variable {l : LaneId} {r : FrameRecord} {d : State} (h : paired d l = true)
include h

/-- The test of the group as the model makes it, on the state whose reference is led over. -/
theorem groupGoesOn_iff : groupGoesOn l r d ↔
    (decide ((d.pairAt (pairOf l)).doneFrame = some (d.pairAt (pairOf l)).lastFrame) &&
      decide (r.counter = ((d.pairAt (pairOf l)).lastFrame + 1) % 256) &&
      ((refLed l d).lane (pathOf (refLed l d) l)).group.isSome) = true := by
  rw [pathOf_refLed h, lane_refLed, groupGoesOn, Bool.and_eq_true, Bool.and_eq_true, decide_eq_true_eq, decide_eq_true_eq,
    and_assoc]

theorem pathSwitched_altered (altered : ¬Unaltered l r d) : pathSwitched l r d = layoutChange l r (refLed l d) := by
  rw [pathSwitched, if_pos]
  exact Bool.eq_true_of_not_eq_false (fun no => altered ((altersPipe_refLed r h).mp no))

theorem pathSwitched_goesOn (same : Unaltered l r d) (on : groupGoesOn l r d) :
    pathSwitched l r d = setPathLayout l r (refLed l d) := by
  rw [pathSwitched, (altersPipe_refLed r h).mpr same, if_neg Bool.false_ne_true, if_pos ((groupGoesOn_iff h).mp on)]

theorem pathSwitched_begins (same : Unaltered l r d) (off : ¬groupGoesOn l r d) :
    pathSwitched l r d = beginAgain (primaryOf (pairOf l)) (setPathLayout l r (refLed l d)) := by
  rw [pathSwitched, (altersPipe_refLed r h).mpr same, if_neg Bool.false_ne_true, if_neg (off ∘ (groupGoesOn_iff h).mpr),
    (roles_setPathLayout l r _).pathOf, pathOf_refLed h]

end

/-- Settles O56: the reference from none by pages granted and the record compared, and from lane to lane by the record and the
group. -/
theorem referenceMoves : Obligations.ReferenceMoves := by
  intro l r s h p path led took unaltered d
  have hd : paired d l = true := ((path_decideAll p s).paired l).trans h
  have decided : Unaltered l r d ↔ Unaltered l r s := unaltered_decideAll l r s
  refine ⟨?granted, fun same => ?again, fun altered => ?changed, fun altered => ?switched, fun same done next group => ?goesOn,
    fun same off => ?begins⟩
  case granted => rw [takeReference_eq, pathTaken_granted h]; rfl
  case again => rw [takeReference_eq, pathTaken_unaltered h same]; rfl
  case changed => rw [takeReference_eq, pathTaken_altered h altered]; rfl
  case switched => rw [switchReference_eq, pathSwitched_altered hd (altered ∘ decided.mp)]; rfl
  case goesOn => rw [switchReference_eq, pathSwitched_goesOn hd (decided.mpr same) ⟨done, next, group⟩]; rfl
  case begins =>
    rw [switchReference_eq, pathSwitched_begins hd (decided.mpr same) ((not_groupGoesOn_iff l r d).mpr off)]
    rfl

end Sys2Proof.Machine
end

section
/-! SUPPORT. The combining of a pair's symbols (R76 to R78): rounding to nearest, a combined cell and a combined symbol, the
match in the alignment store, and the symbols that are written in order. -/

namespace Sys2Proof.Machine

/-! ### Rounding to nearest, halves away from zero -/

/-- A whole number nearest to a value, the one away from zero where two are. -/
def NearestTo (k : Int) (v : Rat) : Prop := |2 * ((k : Rat) - v)| ≤ 1 ∧ (|2 * ((k : Rat) - v)| = 1 → |v| < |(k : Rat)|)

theorem NearestTo.neg {k : Int} {v : Rat} (h : NearestTo k v) : NearestTo (-k) (-v) := by
  have mirror : 2 * (((-k : Int) : Rat) - -v) = -(2 * ((k : Rat) - v)) := by push_cast; ring
  unfold NearestTo
  rw [mirror, abs_neg, Int.cast_neg, abs_neg, abs_neg]
  exact h

theorem nearestTo_floor {v : Rat} (h : 0 ≤ v) : NearestTo (v + 1 / 2).floor v := by
  have low : ((v + 1 / 2).floor : Rat) ≤ v + 1 / 2 := Rat.floor_le _
  have high : v + 1 / 2 - 1 < ((v + 1 / 2).floor : Rat) := Rat.lt_floor
  refine ⟨abs_le.mpr ⟨by linarith, by linarith⟩, fun tie => ?_⟩
  have up : ((v + 1 / 2).floor : Rat) = v + 1 / 2 := by
    rcases (abs_eq (zero_le_one' Rat)).mp tie with e | e <;> linarith
  rw [up, abs_of_nonneg h, abs_of_nonneg (by linarith)]
  linarith

theorem nearestTo_roundHalfAway (v : Rat) : NearestTo (roundHalfAway v) v := by
  unfold roundHalfAway
  split
  · exact nearestTo_floor ‹_›
  · have mirrored := (nearestTo_floor (v := -v) (by linarith)).neg
    rwa [neg_neg] at mirrored

/-- The nearest whole number to a quotient, in whole numbers. -/
theorem NearestTo.of_quotient {k sum : Int} {d : Nat} (hd : d ≠ 0) (h : NearestTo k ((sum : Rat) / (d : Rat))) :
    2 * (k * d - sum).natAbs ≤ d ∧ (2 * (k * d - sum).natAbs = d → sum.natAbs < (k * d).natAbs) := by
  obtain ⟨near, tie⟩ := h
  have pos : (0 : Rat) < d := by exact_mod_cast Nat.pos_of_ne_zero hd
  have scaled : ((2 * (k * d - sum).natAbs : Nat) : Rat) = |2 * ((k : Rat) - sum / d)| * d := by
    rw [← abs_of_pos pos, ← abs_mul, abs_of_pos pos]
    push_cast [Nat.cast_natAbs]
    rw [← abs_two, ← abs_mul, abs_two]
    congr 1
    field_simp
  have whole : ∀ x : Int, ((x.natAbs : Nat) : Rat) = |(x : Rat)| := fun x => by push_cast [Nat.cast_natAbs]; rfl
  constructor
  · have : ((2 * (k * d - sum).natAbs : Nat) : Rat) ≤ d := by rw [scaled]; nlinarith
    exact_mod_cast this
  · intro half
    have one : |2 * ((k : Rat) - sum / d)| = 1 := by
      have : |2 * ((k : Rat) - sum / d)| * d = d := by rw [← scaled, half]
      exact mul_right_cancel₀ pos.ne' (this.trans (one_mul _).symm)
    have farther : |(sum : Rat)| < |(k : Rat)| * d := by
      have := tie one
      rwa [abs_div, abs_of_pos pos, div_lt_iff₀ pos] at this
    have : ((sum.natAbs : Nat) : Rat) < ((k * d).natAbs : Nat) := by
      rw [whole, whole, Int.cast_mul, abs_mul, Int.cast_natCast, abs_of_pos pos]
      exact farther
    exact_mod_cast this

/-! ### A combined cell, a combined symbol (R78) -/

theorem combineCell_erased {x y : PoolCell} (h : x.r + y.r = 0) : combineCell x y = ⟨0, 0, 0⟩ := if_pos h

theorem combineCell_weighted {x y : PoolCell} (h : x.r + y.r ≠ 0) : combineCell x y =
    ⟨combineComponent x.re x.r y.re y.r, combineComponent x.im x.r y.im y.r, min 4095 (x.r + y.r)⟩ := if_neg h

theorem combineComponent_nearest (u v : Int) (a b : Nat) :
    NearestTo (combineComponent u a v b) ((((a : Int) * u + (b : Int) * v : Int) : Rat) / ((a + b : Nat) : Rat)) :=
  nearestTo_roundHalfAway _

theorem combineCells_getElem? (a b : List PoolCell) (k : Nat) :
    (combineCells a b)[k]? = a[k]?.map (fun x => (b[k]?.map (combineCell x)).getD x) := by
  induction a generalizing b k with
  | nil => rfl
  | cons x xs ih =>
    cases b with
    | nil => simp [combineCells]
    | cons y ys =>
      cases k with
      | zero => rfl
      | succ k => simpa [combineCells] using ih ys k

theorem length_combineCells (a b : List PoolCell) : (combineCells a b).length = a.length := by
  induction a generalizing b with
  | nil => rfl
  | cons x xs ih =>
    cases b with
    | nil => rfl
    | cons y ys => simp [combineCells, ih]

theorem combineWaiting_match {x : WaitingSymbol} {y : StoredSymbol} (waits : x.decided = false)
    (counter : y.counter = some x.counter) (index : y.index = x.index) : combineWaiting x y =
      { x with cells := combineCells x.cells y.cells, decided := true, contributed := true } := by
  simp [combineWaiting, waits, counter, index]

theorem combineWaiting_other {x : WaitingSymbol} {y : StoredSymbol}
    (h : x.decided = true ∨ y.counter ≠ some x.counter ∨ y.index ≠ x.index) : combineWaiting x y = x := by
  refine if_neg ?_
  simp only [Bool.and_eq_true, Bool.not_eq_true', decide_eq_true_eq, not_and_or]
  rcases h with decided | counter | index
  · exact .inl (.inl (by simp [decided]))
  · exact .inl (.inr counter)
  · exact .inr index

/-! ### The alignment store (R77) -/

/-- A partner's layout fits where it has the data path's version and the pair's pipe (R77). -/
theorem partnerFits_iff (s : State) (p : PairId) (partner : LaneId) : partnerFits s p partner = true ↔
    ∃ y z, (s.lane partner).layout = some y ∧ (s.pairAt p).layout = some z ∧ y.version = z.version ∧ y.pipe.isSome = true := by
  unfold partnerFits
  cases (s.lane partner).layout <;> cases (s.pairAt p).layout <;> simp

/-- A stored symbol is a partner's symbol of a reference symbol's frame counter and index (R77). -/
def matchesStored (partner : LaneId) (x : WaitingSymbol) (y : StoredSymbol) : Bool :=
  decide (y.lane = partner) && decide (y.counter = some x.counter) && decide (y.index = x.index)

theorem matchesStored_iff (partner : LaneId) (x : WaitingSymbol) (y : StoredSymbol) :
    matchesStored partner x y = true ↔ y.lane = partner ∧ y.counter = some x.counter ∧ y.index = x.index := by
  simp only [matchesStored, Bool.and_eq_true, decide_eq_true_eq, and_assoc]

/-- A reference symbol as it joins those that wait: combined with the first match of the store, if the partner fits (R77). -/
def joining (p : PairId) (partner : LaneId) (x : WaitingSymbol) (s : State) : WaitingSymbol :=
  match (s.pairAt p).store.find? (matchesStored partner x) with
  | some y => if partnerFits s p partner then combineWaiting x y else x
  | none => x

theorem referenceSymbol_eq (p : PairId) (partner : LaneId) (x : WaitingSymbol) (s : State) : referenceSymbol p partner x s =
    flush p (s.setPair p { s.pairAt p with waiting := (s.pairAt p).waiting ++ [joining p partner x s] }) := rfl

theorem joining_match {p : PairId} {partner : LaneId} {x : WaitingSymbol} {y : StoredSymbol} {s : State}
    (fits : partnerFits s p partner = true) (stored : y ∈ (s.pairAt p).store) (hy : matchesStored partner x y = true)
    (only : ∀ z ∈ (s.pairAt p).store, matchesStored partner x z = true → z = y) :
    joining p partner x s = combineWaiting x y := by
  have found : (s.pairAt p).store.find? (matchesStored partner x) = some y := by
    obtain ⟨z, hz⟩ := Option.isSome_iff_exists.mp (List.find?_isSome.mpr ⟨y, stored, hy⟩)
    rw [hz, only z (List.mem_of_find?_eq_some hz) (List.find?_some hz)]
  simp only [joining, found, fits, if_true]

theorem joining_alone {p : PairId} {partner : LaneId} {x : WaitingSymbol} {s : State}
    (h : partnerFits s p partner = false ∨ ∀ y ∈ (s.pairAt p).store, ¬matchesStored partner x y = true) :
    joining p partner x s = x := by
  unfold joining
  split
  · rename_i y hy
    rcases h with unfit | absent
    · rw [if_neg (by simp [unfit])]
    · exact absurd (List.find?_some hy) (absent y (List.mem_of_find?_eq_some hy))
  · rfl

/-- The last three of a store that a symbol has joined (R77; log 20). -/
theorem lastThree {l lead last : List StoredSymbol} (h : l = lead ++ last)
    (three : last.length = 3 ∨ (last.length ≤ 3 ∧ lead = [])) : (l.reverse.take 3).reverse = last := by
  rcases three with full | ⟨few, rfl⟩
  · rw [h, List.reverse_append, List.take_left' (by simpa using full), List.reverse_reverse]
  · rw [h, List.nil_append, List.take_of_length_le (by simpa using few), List.reverse_reverse]

theorem partnerSymbol_eq (p : PairId) (y : StoredSymbol) (s : State) : partnerSymbol p y s =
    flush p (s.setPair p { s.pairAt p with
      store := (((s.pairAt p).store ++ [y]).reverse.take 3).reverse
      waiting := if partnerFits s p y.lane then (s.pairAt p).waiting.map (fun x => combineWaiting x y)
        else (s.pairAt p).waiting }) := rfl

/-! ### The symbols written in order (R77, R79) -/

/-- A decided symbol written, and counted where the partner contributed (R77, R79). -/
def symbolWritten (p : PairId) (x : WaitingSymbol) (s : State) : State :=
  (placeCells (primaryOf p) x.cells s).setPair p { (placeCells (primaryOf p) x.cells s).pairAt p with
    contrib := ((placeCells (primaryOf p) x.cells s).pairAt p).contrib + (if x.contributed then 1 else 0) }

theorem flushWaiting_decided {p : PairId} {x : WaitingSymbol} (rest : List WaitingSymbol) (s : State)
    (h : x.decided = true) : flushWaiting p (x :: rest) s =
      flushWaiting p rest (if x.index = x.d then pathCompletion p x (symbolWritten p x s) else symbolWritten p x s) := if_pos h

theorem flushWaiting_waits {p : PairId} {x : WaitingSymbol} (rest : List WaitingSymbol) (s : State)
    (h : x.decided = false) : flushWaiting p (x :: rest) s = s.setPair p { s.pairAt p with waiting := x :: rest } :=
  if_neg (by simp [h])

theorem writeLeft_eq_foldl (l : LaneId) (ws : List WaitingSymbol) (s : State) : writeLeft l ws s =
    ws.foldl (fun z x => if x.index = x.d then frameAccounting l (placeCells l x.cells z) else placeCells l x.cells z) s := by
  induction ws generalizing s with
  | nil => rfl
  | cons x xs ih => exact ih _

theorem takeLeft_none {l : LaneId} {s : State} (h : paired s l = true ∨ l.val % 2 = 1) : takeLeft l s = s := by
  refine if_neg ?_
  rintro ⟨single, primary⟩
  rw [isPrimary_iff] at primary
  rcases h with formed | odd
  · simp [formed] at single
  · omega

theorem takeLeft_writes {l : LaneId} {s : State} (single : paired s l = false) (primary : l.val % 2 = 0) : takeLeft l s =
    writeLeft l (s.pairAt (pairOf l)).waiting
      (s.setPair (pairOf l) { s.pairAt (pairOf l) with waiting := [] }) :=
  if_pos ⟨single, (isPrimary_iff l).mpr primary⟩

/-- Settles O55: a symbol and a cell combined, the store and its match, the ageing, and the order of writing. -/
theorem symbolsCombine : Obligations.SymbolsCombine := by
  refine ⟨fun x y => ⟨combineWaiting_match, combineWaiting_other⟩, fun a b k x hx => ⟨fun hb => ?lone, fun y hy => ?both⟩,
    length_combineCells, fun p s => ?store, fun p x rest s => ?order, fun l s => ⟨takeLeft_none, fun single primary => ?left⟩⟩
  case lone => rw [combineCells_getElem?, hx, hb]; rfl
  case both =>
    refine ⟨combineCell x y, by rw [combineCells_getElem?, hx, hy]; rfl, combineCell_erased, fun h => ?_⟩
    rw [combineCell_weighted h]
    exact ⟨rfl, (combineComponent_nearest x.re y.re x.r y.r).of_quotient h,
      (combineComponent_nearest x.im y.im x.r y.r).of_quotient h⟩
  case store =>
    intro pr held
    refine ⟨fun partner x => ⟨fun y stored fits lane counter index only => ?_, fun alone => ?_⟩,
      fun y lead last split three => ?_, fun partner => partnerFits_iff s p partner, rfl, rfl, rfl⟩
    · have first : matchesStored partner x y = true := (matchesStored_iff partner x y).mpr ⟨lane, counter, index⟩
      rw [referenceSymbol_eq, joining_match fits stored first]
      intro z hz same
      obtain ⟨hl, hc, hi⟩ := (matchesStored_iff partner x z).mp same
      exact only z hz hl hc hi
    · rw [referenceSymbol_eq, joining_alone]
      exact alone.imp_right (fun no y hy same => no y hy ((matchesStored_iff partner x y).mp same))
    · rw [partnerSymbol_eq, lastThree split three]
  case order =>
    intro wrote counted
    refine ⟨rfl, flushWaiting_waits rest s, fun h inside => ?_, fun h ends => ?_⟩
    · rw [flushWaiting_decided rest s h, if_neg inside]
      rfl
    · rw [flushWaiting_decided rest s h, if_pos ends]
      rfl
  case left => rw [takeLeft_writes single primary, writeLeft_eq_foldl]

end Sys2Proof.Machine
end

section
/-! SUPPORT. The quality of a frame (R66 to R68): smoothing toward a target, the MER by its rounding boundaries, and the grade
with its hysteresis. -/

namespace Sys2Proof.Machine

/-! ### Smoothing toward a target (R50, R63, R67) -/

theorem smoothToward_step {old target : Int} {n : Nat} (h : Int.tdiv (target - old) n ≠ 0) :
    smoothToward old target n = old + Int.tdiv (target - old) n := if_pos h

theorem smoothToward_up {old target : Int} {n : Nat} (h : Int.tdiv (target - old) n = 0) (up : old < target) :
    smoothToward old target n = old + 1 := (if_neg (fun no => no h)).trans (if_pos up)

theorem smoothToward_down {old target : Int} {n : Nat} (h : Int.tdiv (target - old) n = 0) (down : target < old) :
    smoothToward old target n = old - 1 :=
  (if_neg (fun no => no h)).trans ((if_neg (by omega)).trans (if_pos down))

theorem smoothToward_self (old : Int) (n : Nat) : smoothToward old old n = old := by simp [smoothToward, truncDiv]

/-- A smoothed value does not fall below both the old one and the target. -/
theorem le_smoothToward {old target bound : Int} (ho : bound ≤ old) (ht : bound ≤ target) (n : Nat) :
    bound ≤ smoothToward old target n := by
  by_cases step : Int.tdiv (target - old) n = 0
  · rcases lt_trichotomy old target with up | same | down
    · rw [smoothToward_up step up]; omega
    · rw [← same, smoothToward_self]; exact ho
    · rw [smoothToward_down step down]; omega
  · rw [smoothToward_step step]
    rcases le_or_gt old target with rising | falling
    · have := Int.tdiv_nonneg (a := target - old) (b := n) (by omega) (by omega)
      omega
    · have least := Int.tdiv_le_self (a := old - target) n (by omega)
      have mirror : Int.tdiv (target - old) n = -Int.tdiv (old - target) n := by rw [← Int.neg_tdiv, Int.neg_sub]
      omega

/-! ### MER (R66) -/

/-- Of a downward-closed test, as many of the first `n` numbers pass as lie below a bound. -/
theorem length_filter_range {test : Nat → Bool} (down : ∀ i j, i ≤ j → test j = true → test i = true) (n : Nat) :
    ((List.range n).filter test).length ≤ n ∧
      ∀ i, i < n → (test i = true ↔ i < ((List.range n).filter test).length) := by
  induction n with
  | zero => simp
  | succ n ih =>
    obtain ⟨bound, below⟩ := ih
    rw [List.range_succ, List.filter_append, List.length_append]
    by_cases last : test n = true
    · have all : ((List.range n).filter test).length = n := by
        rw [List.filter_eq_self.mpr (fun i hi => down i n (List.mem_range.mp hi).le last), List.length_range]
      rw [all, List.filter_singleton, last]
      exact ⟨le_refl _, fun i hi => ⟨fun _ => hi, fun _ => down i n (Nat.lt_succ_iff.mp hi) last⟩⟩
    · rw [List.filter_singleton, Bool.eq_false_iff.mpr last]
      refine ⟨bound.trans n.le_succ, fun i hi => ?_⟩
      rcases Nat.lt_succ_iff_lt_or_eq.mp hi with less | rfl
      · exact below i less
      · exact ⟨fun yes => absurd yes last, fun less => absurd bound (not_le.mpr less)⟩

theorem merOf_zero (s : Nat) : merOf s 0 = 400 := if_pos rfl

/-- The MER by its rounding boundaries (R66). -/
theorem merOf_spec (s : Nat) {e : Nat} (he : e ≠ 0) :
    merOf s e ≤ 400 ∧ ∀ k, 1 ≤ k → k ≤ 400 → (k ≤ merOf s e ↔ 10 ^ (2 * k - 1) * e ^ 200 ≤ s ^ 200) := by
  have down : ∀ i j, i ≤ j → decide (10 ^ (2 * j + 1) * e ^ 200 ≤ s ^ 200) = true →
      decide (10 ^ (2 * i + 1) * e ^ 200 ≤ s ^ 200) = true := by
    intro i j le hj
    rw [decide_eq_true_eq] at hj ⊢
    exact (Nat.mul_le_mul_right _ (Nat.pow_le_pow_right (by decide) (by omega))).trans hj
  have mer : merOf s e = ((List.range 400).filter (fun i => decide (10 ^ (2 * i + 1) * e ^ 200 ≤ s ^ 200))).length :=
    if_neg he
  obtain ⟨bound, below⟩ := length_filter_range down 400
  rw [← mer] at bound below
  refine ⟨bound, fun k one most => ?_⟩
  obtain ⟨i, rfl⟩ := Nat.exists_eq_add_of_le' one
  rw [show 2 * (i + 1) - 1 = 2 * i + 1 by omega, ← Nat.lt_iff_add_one_le, ← below i (by omega), decide_eq_true_eq]

theorem merOf_le (s e : Nat) : merOf s e ≤ 400 := by
  by_cases he : e = 0
  · rw [he, merOf_zero]
  · exact (merOf_spec s he).1

theorem merOf_silent {e : Nat} (he : e ≠ 0) : merOf 0 e = 0 := by
  by_contra some_mer
  have first := ((merOf_spec 0 he).2 1 le_rfl (by omega)).mp (Nat.one_le_iff_ne_zero.mpr some_mer)
  rw [Nat.zero_pow (by decide)] at first
  have : 0 < 10 ^ (2 * 1 - 1) * e ^ 200 := by positivity
  omega

/-! ### Q (R67) -/

theorem qAfter_first {m : Nat} (h : m ≤ 400) (k : Nat) : qAfter none k m = m := min_eq_right h

theorem qAfter_smoothed {v m : Nat} (hv : v ≤ 400) (hm : m ≤ 400) (k : Nat) :
    ((qAfter (some v) k m : Nat) : Int) = smoothToward v m (2 ^ k) := by
  have low : 0 ≤ smoothToward v m (2 ^ k) := le_smoothToward (by omega) (by omega) _
  have high : smoothToward v m (2 ^ k) ≤ 400 := smoothToward_le (by omega) (by omega) _
  show ((min 400 (smoothToward v m (2 ^ k)).toNat : Nat) : Int) = _
  omega

/-! ### The grade (R68) -/

theorem judgeGrade_none (st : Setup) (q : Nat) : judgeGrade st .none q = gradeAt st.tg st.tf st.tp q := by
  simp [judgeGrade]

section
variable {st : Setup} {present : Grade} {q : Nat} (graded : present ≠ .none)
include graded

theorem judgeGrade_falls (h : gradeRank (gradeAt st.tg st.tf st.tp q) < gradeRank present) :
    judgeGrade st present q = gradeAt st.tg st.tf st.tp q := (if_neg graded).trans (if_pos h)

theorem judgeGrade_rises (h : ¬gradeRank (gradeAt st.tg st.tf st.tp q) < gradeRank present)
    (up : gradeRank present < gradeRank (gradeAt (st.tg + st.gradeHyst) (st.tf + st.gradeHyst) (st.tp + st.gradeHyst) q)) :
    judgeGrade st present q = gradeAt (st.tg + st.gradeHyst) (st.tf + st.gradeHyst) (st.tp + st.gradeHyst) q :=
  (if_neg graded).trans ((if_neg h).trans (if_pos up))

theorem judgeGrade_stays (h : ¬gradeRank (gradeAt st.tg st.tf st.tp q) < gradeRank present)
    (up : ¬gradeRank present < gradeRank (gradeAt (st.tg + st.gradeHyst) (st.tf + st.gradeHyst) (st.tp + st.gradeHyst) q)) :
    judgeGrade st present q = present :=
  (if_neg graded).trans ((if_neg h).trans (if_neg up))

end

/-- Settles O53: the MER by its boundaries, Q by the step of its smoothing, the grade by its two judgements. -/
theorem qualityOfFrame : Obligations.QualityOfFrame := by
  intro st f x
  refine ⟨fun idle => if_pos idle, fun taken => ?_⟩
  have le := merOf_le f.merS f.merE
  refine ⟨merOf f.merS f.merE, qAfter x.q st.k (merOf f.merS f.merE), _, if_neg taken, le, fun quiet => ?_,
    fun noisy silent => ?_, fun noisy => (merOf_spec f.merS noisy).2, fun first => ?_, fun v held hv => ?_, fun fresh => ?_, judgeGrade_falls,
    judgeGrade_rises, judgeGrade_stays⟩
  · rw [quiet, merOf_zero]
  · rw [silent, merOf_silent noisy]
  · rw [first, qAfter_first le]
  · intro toward
    have smoothed := qAfter_smoothed hv le st.k
    rw [held]
    refine ⟨fun step => ?_, fun near up => ?_, fun near down => ?_, fun same => ?_⟩
    · rw [smoothed, smoothToward_step step]
    · rw [smoothToward_up near (by omega)] at smoothed
      omega
    · rw [smoothToward_down near (by omega)] at smoothed
      omega
    · rw [same, smoothToward_self] at smoothed
      rw [same]
      omega
  · rw [fresh, judgeGrade_none]
    rfl

end Sys2Proof.Machine
end

section
/-! SUPPORT. Equalization (R61 to R63): the gain of a channel estimate at a carrier, the pilot powers, the noise estimate, an
equalized cell, and the cells that a data symbol gives. -/

namespace Sys2Proof.Machine

/-! ### The gain at a carrier (R61) -/

/-- The straight line between two pilots, at a carrier (R61). -/
def lineGain (a b : PilotGain) (c : Nat) : Cplx :=
  ⟨a.gain.re + ((c : Rat) - a.carrier) / ((b.carrier : Rat) - a.carrier) * (b.gain.re - a.gain.re),
    a.gain.im + ((c : Rat) - a.carrier) / ((b.carrier : Rat) - a.carrier) * (b.gain.im - a.gain.im)⟩

theorem lineGain_start (a b : PilotGain) : lineGain a b a.carrier = a.gain := by simp [lineGain]

/-- Pilots at or below the carrier are passed by; the last of them is the nearest below. -/
theorem gainFrom_passes {first : List PilotGain} {a : PilotGain} {c : Nat} (below : ∀ g ∈ first, g.carrier ≤ c)
    (ha : a.carrier ≤ c) (before : Option PilotGain) (rest : List PilotGain) :
    gainFrom before c (first ++ a :: rest) = gainFrom (some a) c rest := by
  induction first generalizing before with
  | nil => exact if_neg (by omega)
  | cons g gs ih =>
    have hg := below g (by simp)
    exact (if_neg (by omega)).trans (ih (fun x hx => below x (by simp [hx])) _)

theorem gainFrom_between {a b : PilotGain} {c : Nat} (ha : a.carrier ≤ c) (hb : c < b.carrier) (rest : List PilotGain) :
    gainFrom (some a) c (b :: rest) = lineGain a b c := by
  have line : gainFrom (some a) c (b :: rest) = Cplx.add a.gain (Cplx.scale
      (((c - a.carrier : Nat) : Rat) / ((b.carrier - a.carrier : Nat) : Rat)) (Cplx.sub b.gain a.gain)) := if_pos hb
  rw [line, Nat.cast_sub ha, Nat.cast_sub (by omega)]
  rfl

theorem gainFrom_before {g : PilotGain} {c : Nat} (h : c < g.carrier) (rest : List PilotGain) :
    gainFrom none c (g :: rest) = g.gain := if_pos h

/-- Of an ascending estimate, the pilots before one lie below it, and those behind it above. -/
theorem ascending_around {first rest : List PilotGain} {a : PilotGain}
    (asc : (first ++ a :: rest).Pairwise (fun x y => x.carrier < y.carrier)) :
    (∀ g ∈ first, g.carrier < a.carrier) ∧ ∀ g ∈ rest, a.carrier < g.carrier := by
  obtain ⟨_, tail, cross⟩ := List.pairwise_append.mp asc
  exact ⟨fun g hg => cross g hg a (by simp), (List.pairwise_cons.mp tail).1⟩

section
variable {est : List PilotGain} {c : Nat} (asc : est.Pairwise (fun a b => a.carrier < b.carrier))
include asc

theorem gainAt_between {first rest : List PilotGain} {a b : PilotGain} (h : est = first ++ a :: b :: rest)
    (ha : a.carrier ≤ c) (hb : c < b.carrier) : gainAt (some est) c = lineGain a b c := by
  subst h
  obtain ⟨below, _⟩ := ascending_around asc
  exact (gainFrom_passes (fun g hg => (below g hg).le.trans ha) ha none _).trans (gainFrom_between ha hb rest)

theorem gainAt_last {first : List PilotGain} {g : PilotGain} (h : est = first ++ [g]) (hg : g.carrier ≤ c) :
    gainAt (some est) c = g.gain := by
  subst h
  obtain ⟨below, _⟩ := ascending_around asc
  exact gainFrom_passes (fun x hx => (below x hx).le.trans hg) hg none []

theorem gainAt_pilot {g : PilotGain} (hg : g ∈ est) : gainAt (some est) g.carrier = g.gain := by
  obtain ⟨first, rest, split⟩ := List.append_of_mem hg
  cases rest with
  | nil => exact gainAt_last asc split le_rfl
  | cons b rest =>
    have above : g.carrier < b.carrier := (ascending_around (split ▸ asc)).2 b (by simp)
    rw [gainAt_between asc split le_rfl above, lineGain_start]

end

/-! ### Pilot powers and noise (R63) -/

theorem floorMean_nil : floorMean [] = 0 := if_pos rfl

theorem floorMean_map {pilots : List PilotRx} (h : pilots ≠ []) (f : PilotRx → Rat) :
    floorMean (pilots.map f) = ((pilots.map f).sum / (pilots.length : Rat)).floor.toNat := by
  rw [floorMean, if_neg (by simpa using h), List.length_map]

theorem noiseAfter_smoothed (v e : Nat) :
    ∃ w, noiseAfter (some v) false e = some w ∧ (w : Int) = max 1 (smoothToward v e 16) := by
  refine ⟨max 1 (smoothToward v e 16).toNat, rfl, ?_⟩
  omega

/-! ### An equalized cell (R62) -/

/-- A whole number nearest to a value, held to the range of a component (R62). -/
def ClampedNearest (n : Int) (v : Rat) : Prop := ∃ k : Int, n = max (-32767) (min 32767 k) ∧ NearestTo k v

theorem toUnits_clampedNearest {u v : Rat} (h : u = v) : ClampedNearest (toUnits u) (1024 * v) :=
  h ▸ ⟨_, rfl, nearestTo_roundHalfAway _⟩

theorem equalize_silent (noise : Nat) {h : Cplx} (y : Cplx) (hp : Cplx.normSq h = 0) : equalize noise h y = ⟨0, 0, 0⟩ :=
  if_pos hp

theorem equalize_heard (noise : Nat) {h : Cplx} (y : Cplx) (hp : Cplx.normSq h ≠ 0) : equalize noise h y =
    ⟨toUnits (Cplx.div y h).re, toUnits (Cplx.div y h).im, min 4095 (256 * Cplx.normSq h / (noise : Rat)).floor.toNat⟩ :=
  if_neg hp

theorem div_re (y h : Cplx) : (Cplx.div y h).re = (y.re * h.re + y.im * h.im) / Cplx.normSq h := by
  simp only [Cplx.div, Cplx.scale, Cplx.mul, Cplx.conj]
  ring

theorem div_im (y h : Cplx) : (Cplx.div y h).im = (y.im * h.re - y.re * h.im) / Cplx.normSq h := by
  simp only [Cplx.div, Cplx.scale, Cplx.mul, Cplx.conj]
  ring

/-! ### The cells of a data symbol (R13, R62) -/

/-- The cell at a place of a data symbol: erased in a blanked symbol, while the noise is unset, and where no cell stands. -/
def cellAt (est : Option (List PilotGain)) (noise : Option Nat) (blanked : Bool) (cells : List CellRx) (k : Nat) : PoolCell :=
  match noise, cells[k]? with
  | some v, some c => if blanked then PoolCell.erased else equalize v (gainAt est c.carrier) c.y
  | _, _ => PoolCell.erased

theorem cellAt_erased (est : Option (List PilotGain)) {noise : Option Nat} {blanked : Bool} (cells : List CellRx) (k : Nat)
    (h : noise = none ∨ blanked = true) : cellAt est noise blanked cells k = ⟨0, 0, 0⟩ := by
  unfold cellAt
  split
  · rcases h with unset | hit
    · cases unset
    · exact if_pos hit
  · rfl

theorem cellAt_equalized (est : Option (List PilotGain)) (v : Nat) {cells : List CellRx} {k : Nat} {y : CellRx}
    (h : cells[k]? = some y) : cellAt est (some v) false cells k = equalize v (gainAt est y.carrier) y.y := by
  simp [cellAt, h]

section
variable (dc d idx : Nat) (pipe : PipeSel) (est : Option (List PilotGain)) (noise : Option Nat) (blanked : Bool)
  (cells : List CellRx)

/-- The first cell index of the frame that a data symbol gives a pipe. -/
def firstCell : Nat := max pipe.first ((idx - 1) * dc)

/-- How many cells of the pipe a data symbol carries. -/
def cellCount : Nat := min (pipe.first + pipe.params.cells) ((idx - 1) * dc + dc) - firstCell dc idx pipe

/-- How many cells of the pipe lie beyond the frame's data capacity, at its last data symbol (R13; log 17). -/
def erasedCount : Nat := if idx = d then pipe.first + pipe.params.cells - max pipe.first (d * dc) else 0

theorem symbolCells_eq : symbolCells dc d idx pipe est noise blanked cells =
    (List.range' (firstCell dc idx pipe - (idx - 1) * dc) (cellCount dc idx pipe)).map (cellAt est noise blanked cells) ++
      List.replicate (erasedCount dc d idx pipe) ⟨0, 0, 0⟩ := rfl

theorem length_symbolCells : (symbolCells dc d idx pipe est noise blanked cells).length =
    cellCount dc idx pipe + erasedCount dc d idx pipe := by
  rw [symbolCells_eq, List.length_append, List.length_map, List.length_range', List.length_replicate]

theorem symbolCells_carried {j : Nat} (h : j < cellCount dc idx pipe) :
    (symbolCells dc d idx pipe est noise blanked cells)[j]? =
      some (cellAt est noise blanked cells (firstCell dc idx pipe - (idx - 1) * dc + j)) := by
  rw [symbolCells_eq, List.getElem?_append_left (by simpa using h), List.getElem?_map, List.getElem?_range' h, Nat.one_mul]
  rfl

theorem symbolCells_beyond {j : Nat} (h : cellCount dc idx pipe ≤ j)
    (hj : j < cellCount dc idx pipe + erasedCount dc d idx pipe) :
    (symbolCells dc d idx pipe est noise blanked cells)[j]? = some ⟨0, 0, 0⟩ := by
  rw [symbolCells_eq, List.getElem?_append_right (by simpa using h), List.length_map, List.length_range',
    List.getElem?_replicate, if_pos (by omega)]

end

/-- Settles O52: the estimate pilot by pilot, the powers as means, the noise by its smoothing, and a cell by its rounding. -/
theorem cellsAreEqualized : Obligations.CellsAreEqualized := by
  refine ⟨fun _ => rfl, fun est c asc => ⟨fun g hg at_g => at_g ▸ gainAt_pilot asc hg,
    fun first a b rest split ha hb => gainAt_between asc split ha.le hb,
    fun g rest split before => split ▸ gainFrom_before before rest,
    fun first g split behind => gainAt_last asc split behind.le⟩, fun held pilots => ?powers, fun v e => ?noise,
    fun noise h y _ => ?cell, fun dc d idx pipe est noise blanked cells => ?symbol⟩
  case powers =>
    intro seen mean
    refine ⟨fun some_pilots => ⟨?_, floorMean_map some_pilots _⟩, fun no_pilots => ?_⟩
    · exact congrArg (min 4294967295) (floorMean_map some_pilots _)
    · subst no_pilots
      exact ⟨rfl, floorMean_nil⟩
  case noise =>
    intro step
    refine ⟨rfl, rfl, fun hv => ?_⟩
    obtain ⟨w, taken, value⟩ := noiseAfter_smoothed v e
    refine ⟨w, taken, by omega, fun moves => ?_, fun near up => ?_, fun near down => ?_, fun same => ?_⟩
    · rw [value, smoothToward_step moves]
      rfl
    · rw [smoothToward_up near (by omega)] at value
      omega
    · rw [smoothToward_down near (by omega)] at value
      omega
    · rw [same, smoothToward_self] at value
      omega
  case cell =>
    intro p z rounds
    refine ⟨equalize_silent noise y, fun heard => ?_⟩
    have cell : z = _ := equalize_heard noise y heard
    rw [cell]
    exact ⟨toUnits_clampedNearest (div_re y h), toUnits_clampedNearest (div_im y h), rfl⟩
  case symbol =>
    intro base lo hi erased out
    have length : out.length = cellCount dc idx pipe + erasedCount dc d idx pipe :=
      length_symbolCells dc d idx pipe est noise blanked cells
    refine ⟨length, fun j v y hj set clear there => ?_, fun j hj why => ?_⟩
    · have carried : out[j]? = _ := symbolCells_carried dc d idx pipe est noise blanked cells hj
      rw [carried, set, clear]
      exact congrArg some (cellAt_equalized est v there)
    · by_cases inside : j < cellCount dc idx pipe
      · have carried : out[j]? = _ := symbolCells_carried dc d idx pipe est noise blanked cells inside
        rw [carried, cellAt_erased est cells _ (why.resolve_left (not_le.mpr inside))]
      · exact symbolCells_beyond dc d idx pipe est noise blanked cells (not_lt.mp inside) (length ▸ hj)

end Sys2Proof.Machine
end

section
/-! SUPPORT. Pages granted to a lane (R82, R87), a symbol's cells written at their pages and places (R90, R91), and a group
abandoned and begun (R77, R90, R92). -/

namespace Sys2Proof.Machine

/-! ### A page grant -/

theorem grantMap_zero (l : LaneId) (m : List (Option LaneId)) : grantMap l 0 m = m := by cases m <;> rfl

theorem grantMap_free (l : LaneId) (n : Nat) (m : List (Option LaneId)) :
    grantMap l (n + 1) (none :: m) = some l :: grantMap l n m := rfl

theorem grantMap_taken (l k : LaneId) (n : Nat) (m : List (Option LaneId)) :
    grantMap l n (some k :: m) = some k :: grantMap l n m := by
  cases n with
  | zero => rw [grantMap_zero, grantMap_zero]
  | succ n => rfl

theorem count_grantMap_self {l : LaneId} {n : Nat} {m : List (Option LaneId)} (h : n ≤ m.count none) :
    (grantMap l n m).count (some l) = m.count (some l) + n ∧ (grantMap l n m).count none + n = m.count none := by
  induction m generalizing n with
  | nil => simp_all [grantMap]
  | cons o m ih =>
    cases o with
    | some k =>
      obtain ⟨own, free⟩ := ih (n := n) (by simpa using h)
      rw [grantMap_taken]
      simp only [List.count_cons]
      constructor <;> simp <;> omega
    | none =>
      cases n with
      | zero => simp [grantMap_zero]
      | succ n =>
        obtain ⟨own, free⟩ := ih (n := n) (by simpa using h)
        rw [grantMap_free]
        simp only [List.count_cons]
        constructor <;> simp <;> omega

theorem count_grantMap_other {l k : LaneId} (hk : k ≠ l) (n : Nat) (m : List (Option LaneId)) :
    (grantMap l n m).count (some k) = m.count (some k) := by
  induction m generalizing n with
  | nil => cases n <;> rfl
  | cons o m ih =>
    cases o with
    | some j => rw [grantMap_taken, List.count_cons, List.count_cons, ih]
    | none =>
      cases n with
      | zero => rw [grantMap_zero]
      | succ n =>
        rw [grantMap_free, List.count_cons, List.count_cons, ih]
        simp [Ne.symm hk]

/-- An owned page keeps its owner (R87). -/
theorem grantMap_keeps_owner (l : LaneId) (n : Nat) {m : List (Option LaneId)} {i : Nat} {k : LaneId}
    (h : m[i]? = some (some k)) : (grantMap l n m)[i]? = some (some k) := by
  induction m generalizing n i with
  | nil => simp at h
  | cons o m ih =>
    cases o with
    | some j =>
      rw [grantMap_taken]
      cases i with
      | zero => exact h
      | succ i => exact ih n h
    | none =>
      cases n with
      | zero => rwa [grantMap_zero]
      | succ n =>
        cases i with
        | zero => cases h
        | succ i => exact ih n h

/-- The pages granted lie below those that stay free (R87). -/
theorem grantMap_takes_lowest {l : LaneId} {n : Nat} {m : List (Option LaneId)} {i j : Nat} (free : m[i]? = some none)
    (gained : (grantMap l n m)[i]? = some (some l)) (stays : (grantMap l n m)[j]? = some none) : i < j := by
  induction m generalizing n i j with
  | nil => simp at free
  | cons o m ih =>
    cases o with
    | some k =>
      rw [grantMap_taken] at gained stays
      cases i with
      | zero => cases free
      | succ i =>
        cases j with
        | zero => cases stays
        | succ j => exact Nat.succ_lt_succ (ih free gained stays)
    | none =>
      cases n with
      | zero =>
        rw [grantMap_zero, free] at gained
        cases gained
      | succ n =>
        rw [grantMap_free] at gained stays
        cases j with
        | zero => cases stays
        | succ j =>
          cases i with
          | zero => exact Nat.succ_pos j
          | succ i => exact Nat.succ_lt_succ (ih free gained stays)

theorem Pool.le_freeCount_of_grants {pool : Pool} {l : LaneId} {n : Nat} (h : pool.grants l n = true) : n ≤ pool.freeCount := by
  simp only [Pool.grants, Bool.and_eq_true, decide_eq_true_eq] at h
  exact h.1

/-! ### The pages of a lane in logical order (R82) -/

theorem length_pagesFrom (l : LaneId) (k : Nat) (m : List (Option LaneId)) : (pagesFrom l k m).length = m.count (some l) := by
  induction m generalizing k with
  | nil => rfl
  | cons o m ih =>
    by_cases h : o = some l
    · simp [pagesFrom, h, ih]
    · simp [pagesFrom, h, ih]

theorem le_of_mem_pagesFrom {l : LaneId} {k page : Nat} {m : List (Option LaneId)} (h : page ∈ pagesFrom l k m) : k ≤ page := by
  induction m generalizing k with
  | nil => simp [pagesFrom] at h
  | cons o m ih =>
    unfold pagesFrom at h
    split at h
    · rcases List.mem_cons.mp h with rfl | later
      · exact le_rfl
      · have := ih later; omega
    · have := ih h; omega

theorem nodup_pagesFrom (l : LaneId) (k : Nat) (m : List (Option LaneId)) : (pagesFrom l k m).Nodup := by
  induction m generalizing k with
  | nil => exact List.nodup_nil
  | cons o m ih =>
    unfold pagesFrom
    split
    · exact List.nodup_cons.mpr ⟨fun h => by have := le_of_mem_pagesFrom h; omega, ih _⟩
    · exact ih _

theorem Pool.length_pagesOf (pool : Pool) (l : LaneId) : (pool.pagesOf l).length = pool.owned l := length_pagesFrom _ _ _

theorem Pool.nodup_pagesOf (pool : Pool) (l : LaneId) : (pool.pagesOf l).Nodup := nodup_pagesFrom _ _ _

/-! ### Where a cell lands (R91) -/

section
variable (pages : List Nat) (g : PipeParams) (half : Half) (f : Nat)

/-- The logical page of a cell of a frame (R91). -/
def logicalPage (c : Nat) : Nat := halfBase g half + f * framePages g + c / 2048

/-- The address of a cell of a frame: its page and its place there (R91). -/
def cellAddress (c : Nat) : Option Nat := pages[logicalPage g half f c]?.map (fun page => page * 2048 + c % 2048)

theorem cellAddress_eq_some_iff (c a : Nat) : cellAddress pages g half f c = some a ↔
    ∃ page, pages[logicalPage g half f c]? = some page ∧ page * 2048 + c % 2048 = a := by
  simp [cellAddress]

variable {pages g half f}

/-- No two cells of a frame share an address. -/
theorem cellAddress_injective (nodup : pages.Nodup) {c d a : Nat} (hc : cellAddress pages g half f c = some a)
    (hd : cellAddress pages g half f d = some a) : c = d := by
  obtain ⟨page, at_c, rfl⟩ := (cellAddress_eq_some_iff pages g half f c _).mp hc
  obtain ⟨other, at_d, same⟩ := (cellAddress_eq_some_iff pages g half f d _).mp hd
  have pages_eq : other = page := by omega
  obtain ⟨hi, _⟩ := List.getElem?_eq_some_iff.mp at_c
  have logical : logicalPage g half f c = logicalPage g half f d :=
    (List.getElem?_inj hi nodup).mp (by rw [at_c, at_d, pages_eq])
  unfold logicalPage at logical
  omega

/-- A lane that owns its page need owns the page of every cell of a frame (R84, R91). -/
theorem logicalPage_lt (g : PipeParams) (half : Half) {f c : Nat} (hf : f < g.depth) (hc : c < g.cells) :
    logicalPage g half f c < pageNeed g := by
  have place : c / 2048 < framePages g := by unfold framePages; omega
  have base : halfBase g half ≤ g.depth * framePages g := by
    cases half
    · exact Nat.zero_le _
    · exact le_rfl
  have frame : (f + 1) * framePages g ≤ g.depth * framePages g := Nat.mul_le_mul_right _ hf
  rw [Nat.succ_mul] at frame
  have need : pageNeed g = g.depth * framePages g + g.depth * framePages g := by unfold pageNeed; ring
  unfold logicalPage
  omega

/-! ### The cells written (R90, R91) -/

theorem writeAt_address (pool : Pool) (c : Nat) (v : PoolCell) :
    (pool.writeAt pages (logicalPage g half f c) (c % 2048) v).cells =
      match cellAddress pages g half f c with
      | none => pool.cells
      | some a => writeCell pool.cells a v := by
  unfold Pool.writeAt cellAddress
  cases pages[logicalPage g half f c]? <;> rfl

theorem writeCells_cons (c : Nat) (v : PoolCell) (vs : List PoolCell) (pool : Pool) :
    writeCells pages g half f c (v :: vs) pool =
      writeCells pages g half f (c + 1) vs (pool.writeAt pages (logicalPage g half f c) (c % 2048) v) := rfl

theorem readCell_writeAt_other {c a : Nat} (h : cellAddress pages g half f c ≠ some a) (v : PoolCell) (pool : Pool) :
    readCell (pool.writeAt pages (logicalPage g half f c) (c % 2048) v).cells a = readCell pool.cells a := by
  rw [writeAt_address]
  split
  · rfl
  · rename_i b hb
    exact readCell_writeCell_ne _ _ _ _ (fun same => h (same ▸ hb))

theorem readCell_writeAt_self {c a : Nat} (h : cellAddress pages g half f c = some a) (v : PoolCell) {pool : Pool}
    (wf : cellsWf pool.cells = true) :
    readCell (pool.writeAt pages (logicalPage g half f c) (c % 2048) v).cells a = v := by
  rw [writeAt_address, h]
  simp only [cellsWf, Bool.and_eq_true] at wf
  exact readCell_writeCell_self wf.1 a v

/-- Only page contents are written. -/
theorem writeCells_rest (pages : List Nat) (g : PipeParams) (half : Half) (f c : Nat) (vs : List PoolCell) (pool : Pool) :
    writeCells pages g half f c vs pool = { pool with cells := (writeCells pages g half f c vs pool).cells } := by
  obtain ⟨map, reserved⟩ := writeCells_map pages g half f c vs pool
  show _ = Pool.mk pool.pageMap pool.reserved _
  rw [← map, ← reserved]

/-- An address that no cell written has reads as before (R91). -/
theorem readCell_writeCells_other {vs : List PoolCell} {c a : Nat}
    (h : ∀ k, k < vs.length → cellAddress pages g half f (c + k) ≠ some a) (pool : Pool) :
    readCell (writeCells pages g half f c vs pool).cells a = readCell pool.cells a := by
  induction vs generalizing c pool with
  | nil => rfl
  | cons v vs ih =>
    have later : ∀ k, k < vs.length → cellAddress pages g half f (c + 1 + k) ≠ some a := by
      intro k hk
      rw [Nat.add_right_comm, Nat.add_assoc]
      exact h (k + 1) (by simpa using hk)
    exact (ih later _).trans (readCell_writeAt_other (h 0 (by simp)) v pool)

/-- Each cell written is read at its address (R91). -/
theorem readCell_writeCells_self (nodup : pages.Nodup) {vs : List PoolCell} {c k a : Nat} {v : PoolCell}
    (hv : vs[k]? = some v) (ha : cellAddress pages g half f (c + k) = some a) {pool : Pool} (wf : cellsWf pool.cells = true) :
    readCell (writeCells pages g half f c vs pool).cells a = v := by
  induction vs generalizing c k pool with
  | nil => simp at hv
  | cons w vs ih =>
    rw [writeCells_cons]
    cases k with
    | zero =>
      obtain rfl : w = v := by simpa using hv
      have later : ∀ j, j < vs.length → cellAddress pages g half f (c + 1 + j) ≠ some a := by
        intro j _ same
        have := cellAddress_injective nodup ha same
        omega
      exact (readCell_writeCells_other later _).trans (readCell_writeAt_self ha w wf)
    | succ k => exact ih (by simpa using hv) (by rwa [Nat.add_right_comm, Nat.add_assoc]) (cellsWf_writeAt _ _ _ _ _ wf)

end

section
variable {p : LaneId} {cells : List PoolCell} {pos : WritePos} {g : PipeParams} {s : State}
  (group : (s.lane p).group = some pos) (params : pathParams s p = some g)
include group params

/-- A symbol's cells placed on a path that has a group (R90). -/
theorem placeCells_group : placeCells p cells s = { s with
    lanes := s.lanes.set p { s.lane p with group := some { pos with cell := pos.cell + cells.length } }
    pool := writeCells (s.pool.pagesOf p) g pos.half pos.frame pos.cell cells s.pool } := by
  simp only [placeCells, group, params]
  rfl

theorem placeCells_rest : placeCells p cells s = { s with
    lanes := s.lanes.set p { s.lane p with group := some { pos with cell := pos.cell + cells.length } }
    pool := { s.pool with cells := (placeCells p cells s).pool.cells } } := by
  rw [placeCells_group group params]
  exact congrArg (fun pool : Pool => { s with
    lanes := s.lanes.set p { s.lane p with group := some { pos with cell := pos.cell + cells.length } }, pool := pool })
    (writeCells_rest _ _ _ _ _ _ _)

end

/-! ### A group abandoned (R77, R92) -/

theorem abandonGroup_single {p : LaneId} {s : State} (h : paired s p = false) : abandonGroup p s =
    if p.val % 2 = 0 then (s.setLane p { s.lane p with group := none }).setPair (pairOf p)
      { s.pairAt (pairOf p) with waiting := [] }
    else s.setLane p { s.lane p with group := none } :=
  discardWaiting_single (s := s.setLane p { s.lane p with group := none }) h

/-- Settles O42: the page map entry by entry, the cells by their addresses, and a group by whether its lane is in a pair. -/
theorem pagesAreGrantedAndWritten : Obligations.PagesAreGrantedAndWritten := by
  refine ⟨fun pool l n granted => ?grant, fun p cells pos g s wf group params _ owns frame room => ?write,
    fun p half s => ⟨abandonGroup_paired, fun single primary => ?primary, fun single odd => ?secondary, rfl, rfl⟩⟩
  case grant =>
    obtain ⟨own, free⟩ := count_grantMap_self (l := l) (Pool.le_freeCount_of_grants granted)
    exact ⟨own, free, fun k hk => count_grantMap_other hk n _, fun _ _ => grantMap_keeps_owner l n,
      fun _ _ => grantMap_takes_lowest, rfl, rfl⟩
  case write =>
    intro pages logical t
    have placed : t.pool = writeCells pages g pos.half pos.frame pos.cell cells s.pool :=
      congrArg State.pool (placeCells_group group params)
    rw [placed]
    refine ⟨fun k v hv => ?_, fun a untouched => ?_, ?_⟩
    · have inside : k < cells.length := (List.getElem?_eq_some_iff.mp hv).1
      have page_there : logicalPage g pos.half pos.frame (pos.cell + k) < pages.length := by
        have needed := logicalPage_lt g pos.half frame (c := pos.cell + k) (by omega)
        have owned : pages.length = s.pool.owned p := s.pool.length_pagesOf p
        omega
      have page : pages[logicalPage g pos.half pos.frame (pos.cell + k)]? = some _ := List.getElem?_eq_getElem page_there
      exact ⟨_, page, readCell_writeCells_self (s.pool.nodup_pagesOf p) hv
        ((cellAddress_eq_some_iff pages g pos.half pos.frame _ _).mpr ⟨_, page, rfl⟩) wf⟩
    · refine readCell_writeCells_other (fun k hk written => ?_) s.pool
      obtain ⟨page, there, rfl⟩ := (cellAddress_eq_some_iff pages g pos.half pos.frame _ _).mp written
      exact untouched k page hk there rfl
    · rw [← placed]
      exact placeCells_rest group params
  case primary => rw [abandonGroup_single single, if_pos primary]
  case secondary => rw [abandonGroup_single single, if_neg (by omega)]

end Sys2Proof.Machine
end

section
/-! SUPPORT. How the rest of an event comes to rest where no timer counts occurrences or measures (R79, R167, R198): conditions
followed once stay followed, and a handing on leaves at most occurrences, then nothing. -/

namespace Sys2Proof.Machine

/-! ### No timer counts occurrences or measures (R169, R171) -/

/-- No running timer counts occurrences or measures. -/
def NoneCounts (s : State) : Prop :=
  ∀ i : TimerId, (s.timer i).run = .running → (s.timer i).setting.mode ≠ .count ∧ (s.timer i).setting.mode ≠ .span

theorem NoneCounts.congr {s t : State} (h : NoneCounts s) (same : t.timers = s.timers) : NoneCounts t := by
  unfold NoneCounts State.timer at *
  rw [same]
  exact h

/-- What the rest of an event leaves of the timers carries the premise back to where it began. -/
theorem NoneCounts.of_kept {s t : State} (kept : Kept s t) (h : NoneCounts t) : NoneCounts s := by
  intro i runs
  have timer := kept.timers i
  rw [← timer.setting]
  exact h i (timer.running runs)

theorem followSpan_none {s : State} (h : NoneCounts s) (i : TimerId) : followSpan s i = s :=
  if_neg (fun measures => (h i measures.1).2 measures.2)

/-! ### Condition events (R198) -/

/-- The conditions with the numbers of their events (R197, R198). -/
def conditionsOf (s : State) : List (Nat × Bool) :=
  (1, s.log.overflow) :: allLanes.map (fun l => (22 + l.val, gradeLow s l)) ++
    [(28, s.dec.congested), (31, ciHolding s)]

/-- The event unit after the event of a condition follows it. -/
def followIn (e : EventUnit) (c : Nat × Bool) : EventUnit := if c.2 then raiseIn e c.1 else lowerIn e c.1

theorem foldl_gradeLow (lanes : List LaneId) (s : State) (e : EventUnit) :
    lanes.foldl (fun x l => setCondition (evGradeLow l) (gradeLow x l) x) { s with ev := e } =
      { s with ev := (lanes.map (fun l => (22 + l.val, gradeLow s l))).foldl followIn e } := by
  induction lanes generalizing e with
  | nil => rfl
  | cons l lanes ih => exact ih _

theorem followEvents_eq (s : State) : followEvents s = { s with ev := (conditionsOf s).foldl followIn s.ev } := by
  rw [conditionsOf, List.cons_append, List.foldl_cons, List.foldl_append]
  have lanes := foldl_gradeLow allLanes s (followIn s.ev (1, s.log.overflow))
  have first : setCondition 1 s.log.overflow s = { s with ev := followIn s.ev (1, s.log.overflow) } := rfl
  simp only [followEvents, first, lanes]
  rfl

theorem follow_none {s : State} (h : NoneCounts s) : follow s = followEvents s := by
  have still : ∀ l : List TimerId, l.foldl followSpan (followEvents s) = followEvents s := by
    intro l
    induction l with
    | nil => rfl
    | cons i l ih => rw [List.foldl_cons, followSpan_none (h.congr (by rw [followEvents_eq])), ih]
  exact still allTimers

/-- An event agrees with its condition: its flag is the condition's value, and it is not pending where the condition is not. -/
def Agrees (e : EventUnit) (c : Nat × Bool) : Prop :=
  e.flags.getLsbD c.1 = c.2 ∧ (c.2 = false → e.pending.getLsbD c.1 = false)

theorem getLsbD_setBit (x : BitVec 51) (n m : Nat) : (setBit x n).getLsbD m = (x.getLsbD m || decide (m < 51 ∧ m = n)) := by
  have bit : (1#51 <<< n).getLsbD m = decide (m < 51 ∧ m = n) := by
    rw [BitVec.getLsbD_shiftLeft, BitVec.getLsbD_one]
    by_cases same : m = n
    · simp [same]
    · simp [same]
      omega
  rw [setBit, BitVec.getLsbD_or, bit]

theorem getLsbD_clearBit (x : BitVec 51) (n m : Nat) : (clearBit x n).getLsbD m = (x.getLsbD m && !decide (m = n)) := by
  by_cases high : m < 51
  · have bit : (1#51 <<< n).getLsbD m = decide (m = n) := by
      rw [BitVec.getLsbD_shiftLeft, BitVec.getLsbD_one]
      by_cases same : m = n
      · simp [same] at high ⊢; omega
      · simp [same]
        omega
    rw [clearBit, BitVec.getLsbD_and, BitVec.getLsbD_not, bit]
    simp [high]
  · rw [BitVec.getLsbD_of_ge _ _ (not_lt.mp high), BitVec.getLsbD_of_ge _ _ (not_lt.mp high), Bool.false_and]

theorem flags_raiseIn (e : EventUnit) (n m : Nat) :
    (raiseIn e n).flags.getLsbD m = (e.flags.getLsbD m || decide (m < 51 ∧ m = n)) := by
  unfold raiseIn
  split
  · by_cases same : m = n
    · subst same; simp [*]
    · simp [same]
  · exact getLsbD_setBit _ _ _

theorem pending_raiseIn_other (e : EventUnit) {n m : Nat} (h : m ≠ n) :
    (raiseIn e n).pending.getLsbD m = e.pending.getLsbD m := by
  unfold raiseIn
  split
  · rfl
  · dsimp only
    split
    · simp [getLsbD_setBit, h]
    · rfl

theorem raiseIn_raised {e : EventUnit} {n : Nat} (h : e.flags.getLsbD n = true) : raiseIn e n = e := if_pos h

theorem Agrees.raiseIn_other {e : EventUnit} {c : Nat × Bool} (h : Agrees e c) {n : Nat} (other : c.1 ≠ n) :
    Agrees (raiseIn e n) c := by
  obtain ⟨flag, calm⟩ := h
  exact ⟨by simp [flags_raiseIn, flag, other], fun low => (pending_raiseIn_other e other).trans (calm low)⟩

theorem Agrees.lowerIn_other {e : EventUnit} {c : Nat × Bool} (h : Agrees e c) {n : Nat} (other : c.1 ≠ n) :
    Agrees (lowerIn e n) c := by
  obtain ⟨flag, calm⟩ := h
  exact ⟨by simp [lowerIn, getLsbD_clearBit, flag, other], fun low => by simp [lowerIn, getLsbD_clearBit, calm low]⟩

theorem Agrees.followIn_other {e : EventUnit} {c d : Nat × Bool} (h : Agrees e c) (other : c.1 ≠ d.1) :
    Agrees (followIn e d) c := by
  unfold followIn
  split
  · exact h.raiseIn_other other
  · exact h.lowerIn_other other

/-- An event agrees with the condition it has just followed. -/
theorem agrees_followIn (e : EventUnit) {c : Nat × Bool} (h : c.1 < 51) : Agrees (followIn e c) c := by
  obtain ⟨n, holds⟩ := c
  cases holds with
  | true => exact ⟨raiseIn_self e n h, fun low => by cases low⟩
  | false => exact ⟨by simp [followIn, lowerIn, getLsbD_clearBit], fun _ => by simp [followIn, lowerIn, getLsbD_clearBit]⟩

theorem clearBit_low {x : BitVec 51} {n : Nat} (h : x.getLsbD n = false) : clearBit x n = x := by
  refine BitVec.eq_of_getLsbD_eq (fun m _ => ?_)
  rw [getLsbD_clearBit]
  by_cases same : m = n
  · rw [same, h, Bool.false_and]
  · simp [same]

/-- An event that agrees with its condition does not move. -/
theorem Agrees.followIn_eq {e : EventUnit} {c : Nat × Bool} (h : Agrees e c) : followIn e c = e := by
  obtain ⟨n, holds⟩ := c
  obtain ⟨flag, calm⟩ := h
  cases holds with
  | true => exact raiseIn_raised flag
  | false =>
    show lowerIn e n = e
    rw [lowerIn, clearBit_low flag, clearBit_low (calm rfl)]

theorem Agrees.foldl_other {c : Nat × Bool} {l : List (Nat × Bool)} (other : ∀ d ∈ l, c.1 ≠ d.1) {e : EventUnit}
    (h : Agrees e c) : Agrees (l.foldl followIn e) c := by
  induction l generalizing e with
  | nil => exact h
  | cons d l ih => exact ih (fun x hx => other x (by simp [hx])) (h.followIn_other (other d (by simp)))

theorem agrees_foldl_followIn {l : List (Nat × Bool)} (distinct : l.Pairwise (fun c d => c.1 ≠ d.1))
    (small : ∀ c ∈ l, c.1 < 51) (e : EventUnit) : ∀ c ∈ l, Agrees (l.foldl followIn e) c := by
  induction l generalizing e with
  | nil => simp
  | cons d l ih =>
    obtain ⟨apart, distinct⟩ := List.pairwise_cons.mp distinct
    intro c hc
    rcases List.mem_cons.mp hc with rfl | later
    · exact (agrees_followIn e (small c (by simp))).foldl_other apart
    · exact ih distinct (fun x hx => small x (by simp [hx])) _ c later

theorem foldl_followIn_eq {l : List (Nat × Bool)} {e : EventUnit} (h : ∀ c ∈ l, Agrees e c) : l.foldl followIn e = e := by
  induction l with
  | nil => rfl
  | cons d l ih => rw [List.foldl_cons, (h d (by simp)).followIn_eq, ih (fun c hc => h c (by simp [hc]))]

/-! ### Everything followed (R79, R198) -/

/-- The numbers of the condition events. -/
theorem conditionsOf_numbers (s : State) : (conditionsOf s).map (·.1) = [1, 22, 23, 24, 25, 28, 31] := rfl

theorem conditionsOf_distinct (s : State) : (conditionsOf s).Pairwise (fun c d => c.1 ≠ d.1) := by
  have numbers : ((conditionsOf s).map (·.1)).Pairwise (· ≠ ·) := by
    rw [conditionsOf_numbers]
    decide
  exact List.pairwise_map.mp numbers

theorem mem_numbers {s : State} {c : Nat × Bool} (h : c ∈ conditionsOf s) : c.1 ∈ [1, 22, 23, 24, 25, 28, 31] :=
  conditionsOf_numbers s ▸ List.mem_map_of_mem h

theorem conditionsOf_small {s : State} {c : Nat × Bool} (h : c ∈ conditionsOf s) : c.1 < 51 := by
  have := mem_numbers h
  revert this
  generalize c.1 = n
  revert n
  decide

/-- A formed pair with neither lane in LOCK has no pair state (R79). -/
def PairAgrees (s : State) (p : PairId) : Prop :=
  (s.pairAt p).formed = true → (s.lane (primaryOf p)).state ≠ .lock → (s.lane (secondaryOf p)).state ≠ .lock →
    (s.pairAt p).pstate = .none

/-- Every condition event and every pair state agree with what they follow. -/
structure Followed (s : State) : Prop where
  events : ∀ c ∈ conditionsOf s, Agrees s.ev c
  pairs : ∀ p, PairAgrees s p

theorem followPair_agrees {s : State} {p : PairId} (h : PairAgrees s p) : followPair s p = s := by
  unfold followPair
  split
  · rename_i idle
    exact setPairState_same (h idle.1 idle.2.1 idle.2.2)
  · rfl

/-- What the following of a pair's state leaves (R79). -/
theorem followPair_rest (s : State) (p : PairId) :
    followPair s p = { s with pairs := (followPair s p).pairs, ev := (followPair s p).ev } := by
  unfold followPair setPairState
  split
  · split <;> rfl
  · rfl

theorem lane_followPair (s : State) (p : PairId) (l : LaneId) : (followPair s p).lane l = s.lane l := by
  rw [followPair_rest]
  rfl

theorem pairAgrees_followPair (s : State) (p : PairId) : PairAgrees (followPair s p) p := by
  unfold PairAgrees
  rw [lane_followPair, lane_followPair]
  unfold followPair setPairState
  split
  · split
    · exact fun _ _ _ => ‹_›
    · intro _ _ _
      simp
  · rename_i kept
    exact fun formed first second => absurd ⟨formed, first, second⟩ kept

theorem pairAt_followPair_other (s : State) {p q : PairId} (h : q ≠ p) : (followPair s p).pairAt q = s.pairAt q := by
  unfold followPair setPairState
  split
  · split
    · rfl
    · rw [pairAt_raise, pairAt_modPair_ne _ _ _ _ h]
  · rfl

theorem PairAgrees.followPair_other {s : State} {p q : PairId} (h : PairAgrees s q) (other : q ≠ p) :
    PairAgrees (followPair s p) q := by
  unfold PairAgrees
  rw [pairAt_followPair_other s other, lane_followPair, lane_followPair]
  exact h

theorem pairAgrees_followPairs (s : State) (p : PairId) : PairAgrees (followPairs s) p := by
  unfold followPairs
  rcases (show p = 0 ∨ p = 1 by revert p; decide) with rfl | rfl
  · exact (pairAgrees_followPair s 0).followPair_other (by decide)
  · exact pairAgrees_followPair _ 1

theorem followPairs_rest (s : State) :
    followPairs s = { s with pairs := (followPairs s).pairs, ev := (followPairs s).ev } := by
  unfold followPairs
  rw [followPair_rest (followPair s 0) 1, followPair_rest s 0]

section
variable {s : State} (none_counts : NoneCounts s)
include none_counts

theorem followAll_none : followAll s =
    { followPairs s with ev := (conditionsOf (followPairs s)).foldl followIn (followPairs s).ev } :=
  (follow_none (none_counts.congr (by rw [followPairs_rest]))).trans (followEvents_eq _)

theorem followAll_rest : followAll s = { s with pairs := (followAll s).pairs, ev := (followAll s).ev } := by
  rw [followAll_none none_counts, followPairs_rest]

/-- Everything is followed once the conditions have been (R79, R198). -/
theorem followed_followAll : Followed (followAll s) := by
  rw [followAll_none none_counts]
  exact ⟨agrees_foldl_followIn (conditionsOf_distinct _) (fun _ => conditionsOf_small) _, pairAgrees_followPairs s⟩

/-- Where everything is followed nothing moves. -/
theorem followAll_followed (h : Followed s) : followAll s = s := by
  have pairs : followPairs s = s := by
    unfold followPairs
    rw [followPair_agrees (h.pairs 0), followPair_agrees (h.pairs 1)]
  rw [followAll_none none_counts, pairs, foldl_followIn_eq h.events]

theorem noneCounts_followAll : NoneCounts (followAll s) := none_counts.congr (by rw [followAll_rest none_counts])

end

end Sys2Proof.Machine
end

section
/-! SUPPORT. What the rest of an event hands on where no timer counts occurrences or measures (R167, R170, R172): timer actions
add only occurrences, and occurrences only restart ONESHOT timers. -/

namespace Sys2Proof.Machine

/-! ### An occurrence (R169, R170) -/

/-- Where none counts, an occurrence leaves a timer or restarts a ONESHOT one (R170). -/
theorem occurAt_cases {s : State} (h : NoneCounts s) (src : Source) (i : TimerId) : occurAt src s i = s ∨
    ((s.timer i).setting.mode = .oneshot ∧ occurAt src s i = s.setTimer i (s.timer i).restart) := by
  unfold occurAt
  dsimp only
  split
  · split
    · rename_i mode run
      exact absurd mode (h i run).1
    · rename_i mode _
      exact .inr ⟨mode, rfl⟩
    · rename_i mode _
      exact .inr ⟨mode, rfl⟩
    · exact .inl rfl
  · exact .inl rfl

/-- A change of the timers alone after which none counts. -/
structure OnlyRestarts (s t : State) : Prop where
  rest : t = { s with timers := t.timers }
  none_counts : NoneCounts t

theorem OnlyRestarts.refl {s : State} (h : NoneCounts s) : OnlyRestarts s s := ⟨rfl, h⟩

theorem OnlyRestarts.trans {s t u : State} (h : OnlyRestarts s t) (k : OnlyRestarts t u) : OnlyRestarts s u :=
  ⟨by rw [k.rest, h.rest], k.none_counts⟩

theorem onlyRestarts_occurAt {s : State} (h : NoneCounts s) (src : Source) (i : TimerId) :
    OnlyRestarts s (occurAt src s i) := by
  rcases occurAt_cases h src i with same | ⟨mode, restarted⟩
  · rw [same]
    exact .refl h
  · rw [restarted]
    refine ⟨rfl, fun j runs => ?_⟩
    by_cases hj : j = i
    · subst hj
      have oneshot : ((s.setTimer j (s.timer j).restart).timer j).setting.mode = .oneshot := by
        rw [timer_setTimer_self]
        exact mode
      rw [oneshot]
      decide
    · rw [timer_setTimer_ne _ _ _ _ hj] at runs ⊢
      exact h j runs

theorem onlyRestarts_foldl {α : Type} {f : State → α → State} (step : ∀ s a, NoneCounts s → OnlyRestarts s (f s a)) (l : List α)
    {s : State} (h : NoneCounts s) : OnlyRestarts s (l.foldl f s) := by
  induction l generalizing s with
  | nil => exact .refl h
  | cons a l ih => exact (step s a h).trans (ih (step s a h).none_counts)

theorem onlyRestarts_occurrence {s : State} (h : NoneCounts s) (src : Source) : OnlyRestarts s (deliver s (.occ src)) :=
  onlyRestarts_foldl (fun _ i hx => onlyRestarts_occurAt hx src i) allTimers h

/-! ### An action (R172) -/

/-- No timer counts occurrences or measures, and only occurrences are left to hand on. -/
structure OnlyOccurs (s : State) : Prop where
  none_counts : NoneCounts s
  work : onlyOccurrences s.work = true

theorem OnlyOccurs.congr {s t : State} (h : OnlyOccurs s) (timers : t.timers = s.timers) (work : t.work = s.work) :
    OnlyOccurs t := ⟨h.none_counts.congr timers, work ▸ h.work⟩

theorem onlyOccurrences_append (v w : List Work) :
    onlyOccurrences (v ++ w) = true ↔ onlyOccurrences v = true ∧ onlyOccurrences w = true := by
  simp [onlyOccurrences]

theorem onlyOccurrences_droppedWork (p : LaneId) (counted : Bool) (n : Nat) :
    onlyOccurrences (droppedWork p counted n) = true := by
  cases counted <;> simp [droppedWork, onlyOccurrences]

theorem abandonGroup_rest (p : LaneId) (s : State) :
    abandonGroup p s = { s with lanes := (abandonGroup p s).lanes, pairs := (abandonGroup p s).pairs } := by
  rw [abandonGroup, discardWaiting_rest]
  rfl

theorem OnlyOccurs.departPath {s : State} (h : OnlyOccurs s) (l : LaneId) : OnlyOccurs (departPath l s) := by
  by_cases shared : paired s l = true ∧ inLockOrFade s (partnerOf l) = true
  · rw [departPath_kept shared]
    split
    · rw [dropRef_rest, abandonGroup_rest]
      exact h.congr rfl rfl
    · exact h
  · rw [departPath_given_up shared, (pathGivenUp_rest l true s).1]
    exact ⟨h.none_counts.congr rfl, (onlyOccurrences_append _ _).mpr ⟨h.work, onlyOccurrences_droppedWork _ _ _⟩⟩

theorem OnlyOccurs.follow {s : State} (h : OnlyOccurs s) : OnlyOccurs (follow s) := by
  rw [follow_none h.none_counts, followEvents_eq]
  exact h.congr rfl rfl

theorem OnlyOccurs.research {s : State} (h : OnlyOccurs s) (l : LaneId) : OnlyOccurs (research l s) := by
  unfold Machine.research
  split
  · rw [releaseToSearch_eq]
    refine OnlyOccurs.follow ?_
    exact (h.departPath l).congr rfl rfl
  · exact h

theorem OnlyOccurs.performAction {s : State} (h : OnlyOccurs s) (i : TimerId) : OnlyOccurs (performAction i s) := by
  unfold Machine.performAction
  dsimp only
  split
  · split
    · exact h.research _
    · exact h
  · split
    · exact h.congr rfl rfl
    · exact h
  · exact h

theorem OnlyOccurs.deliver {s : State} (h : OnlyOccurs s) (w : Work) : OnlyOccurs (deliver s w) := by
  cases w with
  | occ src =>
    have restarts := onlyRestarts_occurrence h.none_counts src
    exact ⟨restarts.none_counts, by rw [restarts.rest]; exact h.work⟩
  | act i => exact h.performAction i

/-! ### A handing on -/

/-- A handing on of anything leaves only occurrences. -/
theorem onlyOccurs_handOn {s : State} (h : NoneCounts s) : OnlyOccurs (handOn s) := by
  have all : ∀ (ws : List Work) {x : State}, OnlyOccurs x → OnlyOccurs (ws.foldl deliver x) := by
    intro ws
    induction ws with
    | nil => exact fun hx => hx
    | cons w ws ih => exact fun hx => ih (hx.deliver w)
  exact all s.work ⟨h.congr rfl, rfl⟩

/-- A handing on of occurrences leaves nothing to hand on. -/
theorem onlyRestarts_handOn {s : State} (h : OnlyOccurs s) : OnlyRestarts { s with work := [] } (handOn s) := by
  have all : ∀ (ws : List Work) (x : State), onlyOccurrences ws = true → NoneCounts x →
      OnlyRestarts x (ws.foldl deliver x) := by
    intro ws
    induction ws with
    | nil => exact fun x _ hx => .refl hx
    | cons w ws ih =>
      intro x only hx
      obtain ⟨first, others⟩ := (onlyOccurrences_append [w] ws).mp only
      rw [List.foldl_cons]
      cases w with
      | occ src =>
        have step := onlyRestarts_occurrence hx src
        exact step.trans (ih _ others step.none_counts)
      | act i => cases first
  exact all s.work _ h.work (h.none_counts.congr rfl)

end Sys2Proof.Machine
end

section
/-! SUPPORT. Notices (R200), and how the rest of an event ends (log 11): where no timer counts occurrences or measures, six
rounds leave nothing to hand on, no notice due and everything followed. -/

namespace Sys2Proof.Machine

/-! ### A notice (R200) -/

theorem noticeDue_iff (s : State) : noticeDue s = true ↔
    s.mgmt.notices = true ∧ s.mgmt.addr ≠ 31 ∧ s.ev.pending ≠ 0#51 ∧ s.ev.outstanding = false := by
  simp [noticeDue, and_assoc]

theorem noticeDue_outstanding {s : State} (h : s.ev.outstanding = true) : noticeDue s = false :=
  Bool.eq_false_iff.mpr (fun due => by
    obtain ⟨_, _, _, quiet⟩ := (noticeDue_iff s).mp due
    simp [h] at quiet)

theorem noticeDue_noPending {s : State} (h : s.ev.pending = 0#51) : noticeDue s = false :=
  Bool.eq_false_iff.mpr (fun due => by
    obtain ⟨_, _, pending, _⟩ := (noticeDue_iff s).mp due
    exact pending h)

/-- The packet of a notice of the whole pending set (R189, R200). -/
def noticePacket (s : State) : Packet :=
  ownPacket s.mgmt.id s.mgmt.cc 3 s.mgmt.addr 0 0 0 0
    (b1 (eventList s.ev.pending).length ++ (eventList s.ev.pending).flatMap b1)

/-- The continuity count taken, the pending set empty, and whether a notice is outstanding (R191, R200). -/
def noticeTaken (outstanding : Bool) (s : State) : State :=
  { s with
    mgmt := { s.mgmt with cc := (s.mgmt.cc + 1) % 16 }
    ev := { s.ev with pending := 0#51, outstanding := outstanding } }

/-- A notice placed in CO class 0 (R200). -/
def noticePlaced (s : State) : State :=
  (noticeTaken true s).setPort portCO
    { s.port portCO with q0 := (s.port portCO).q0 ++ [⟨noticePacket s, 0, false, true, s.time⟩] }

/-- A notice dropped, before its report: counted, with PORT_DROP and its occurrence (R138, R200). -/
def noticeDropped (s : State) : State :=
  (raise 32 ((noticeTaken false s).setPort portCO
    { s.port portCO with drop0 := ((s.port portCO).drop0 + 1) % 4294967296 })).addWork [.occ (.portDrop portCO)]

/-- A notice dropped and reported (R200, R203). -/
def noticeLost (s : State) : State := report 9 .replyLost 3 (noticeDropped s)

theorem buildNotice_eq {s : State} (heard : s.mgmt.addr ≠ 31) : buildNotice s =
    portArrive portCO 0 false true (noticePacket s) (noticeTaken (decide ((s.port portCO).q0.length < 8)) s) := if_neg heard

theorem buildNotice_room {s : State} (heard : s.mgmt.addr ≠ 31) (room : (s.port portCO).q0.length < 8) :
    buildNotice s = noticePlaced s := by
  rw [buildNotice_eq heard, decide_eq_true room]
  exact portArrive_room portCO false true _ (noticeTaken true s) room

theorem mgmtKind_noticePacket (s : State) : mgmtKind (noticePacket s) = 3 := rfl

theorem buildNotice_full {s : State} (heard : s.mgmt.addr ≠ 31) (full : 8 ≤ (s.port portCO).q0.length) :
    buildNotice s = noticeLost s := by
  rw [buildNotice_eq heard, decide_eq_false (not_lt.mpr full)]
  refine (if_neg (not_lt.mpr full)).trans ?_
  rw [noticeLost, ← mgmtKind_noticePacket s]
  rfl

/-! ### What a notice leaves followed -/

theorem Followed.raise_other {s : State} (h : Followed s) {n : Nat} (other : n ∉ [1, 22, 23, 24, 25, 28, 31]) :
    Followed (raise n s) :=
  ⟨fun c hc => (h.events c hc).raiseIn_other (fun same => other (same ▸ mem_numbers hc)), h.pairs⟩

theorem Followed.noticeTaken {s : State} (h : Followed s) (outstanding : Bool) : Followed (noticeTaken outstanding s) :=
  ⟨fun c hc => ⟨(h.events c hc).1, fun _ => by simp [Machine.noticeTaken]⟩, h.pairs⟩

theorem Followed.noticeDropped {s : State} (h : Followed s) : Followed (noticeDropped s) := by
  have taken := h.noticeTaken false
  have port : Followed ((Machine.noticeTaken false s).setPort portCO
      { s.port portCO with drop0 := ((s.port portCO).drop0 + 1) % 4294967296 }) := ⟨taken.events, taken.pairs⟩
  have raised := port.raise_other (n := 32) (by decide)
  exact ⟨raised.events, raised.pairs⟩

/-- A report moves the overflow flag with its event (R203). -/
theorem Followed.report {s : State} (h : Followed s) (source : Nat) (reason : FaultReason) (info : Nat) :
    Followed (report source reason info s) := by
  unfold Machine.report
  split
  · exact ⟨h.events, h.pairs⟩
  · split
    · have logged : Followed { s with log := { s.log with
          records := s.log.records ++ [⟨source, reason.code, info, 1, s.time, s.time⟩] } } := ⟨h.events, h.pairs⟩
      exact logged.raise_other (by decide)
    · refine ⟨fun c hc => ?_, h.pairs⟩
      rcases List.mem_cons.mp hc with rfl | others
      · exact agrees_followIn s.ev (c := (1, true)) (by decide)
      · have apart : c.1 ≠ 1 := ((List.pairwise_cons.mp (conditionsOf_distinct s)).1 c others).symm
        exact (h.events c (List.mem_cons_of_mem _ others)).raiseIn_other apart

/-! ### A state at rest, a notice apart -/

/-- Everything followed and nothing left to hand on; a notice may be due. -/
structure Resting (s : State) : Prop where
  none_counts : NoneCounts s
  followed : Followed s
  work : s.work = []

/-- A state at rest with no notice due: where the rest of an event ends. -/
structure Rested (s : State) : Prop where
  resting : Resting s
  quiet : noticeDue s = false

theorem Rested.settle {s : State} (h : Rested s) (n : Nat) : Rested (settle n s) := by
  rw [settle_quiet n s (followAll_followed h.resting.none_counts h.resting.followed) h.resting.work h.quiet]
  exact h

theorem Resting.settle_due {s : State} (h : Resting s) (due : noticeDue s = true) (n : Nat) :
    settle (n + 1) s = settle n (buildNotice s) := by
  rw [settle_succ, followAll_followed h.none_counts h.followed, if_neg (fun no => no h.work), if_pos due]

theorem Resting.noticePlaced {s : State} (h : Resting s) : Rested (noticePlaced s) := by
  have taken := h.followed.noticeTaken true
  exact ⟨⟨h.none_counts.congr rfl, ⟨taken.events, taken.pairs⟩, h.work⟩, noticeDue_outstanding rfl⟩

/-- A state with a dropped notice's occurrence to hand on comes to rest again. -/
theorem rests_after_loss {s : State} (none_counts : NoneCounts s) (followed : Followed s)
    (work : s.work = [.occ (.portDrop portCO)]) (n : Nat) :
    ∃ t, settle (n + 1) s = settle n t ∧ Resting t ∧ t.ev = s.ev ∧ t.log = s.log := by
  have restarts := onlyRestarts_handOn (s := s) ⟨none_counts, by rw [work]; rfl⟩
  refine ⟨handOn s, ?_, ⟨restarts.none_counts, ?_, ?_⟩, ?_, ?_⟩
  · rw [settle_succ, followAll_followed none_counts followed, if_pos (by simp [work])]
  all_goals rw [restarts.rest]
  exact ⟨followed.events, followed.pairs⟩

theorem Resting.noticeLost {s : State} (h : Resting s) : NoneCounts (noticeLost s) ∧ Followed (noticeLost s) ∧
    (noticeLost s).work = [.occ (.portDrop portCO)] := by
  refine ⟨h.none_counts.congr ?_, h.followed.noticeDropped.report 9 .replyLost 3, ?_⟩
  · rw [Machine.noticeLost, report_rest]
    rfl
  · rw [Machine.noticeLost, report_rest]
    show s.work ++ _ = _
    rw [h.work]
    rfl

/-! ### A second loss raises nothing new (R198, R203) -/

/-- The log holds a record of a source and reason. -/
def Recorded (source reason : Nat) (records : List FaultRecord) : Prop :=
  ∃ r ∈ records, r.source = source ∧ r.reason = reason

theorem any_iff_recorded (source reason : Nat) (records : List FaultRecord) :
    records.any (fun r => decide (r.source = source ∧ r.reason = reason)) = true ↔ Recorded source reason records := by
  simp [Recorded]

theorem Recorded.collapse {source reason : Nat} {records : List FaultRecord} (h : Recorded source reason records) (now : Nat) :
    Recorded source reason (collapse source reason now records) := by
  obtain ⟨r, hr, hs, hc⟩ := h
  have stamp : r.stamp ∈ (Machine.collapse source reason now records).map FaultRecord.stamp :=
    collapse_stamp source reason now records ▸ List.mem_map_of_mem hr
  obtain ⟨x, hx, same⟩ := List.mem_map.mp stamp
  simp only [FaultRecord.stamp, Prod.mk.injEq] at same
  exact ⟨x, hx, same.1.trans hs, same.2.1.trans hc⟩

section
variable {source : Nat} {reason : FaultReason} {s : State}

theorem report_recorded (info : Nat) (h : Recorded source reason.code s.log.records) : report source reason info s =
    { s with log := { s.log with records := collapse source reason.code s.time s.log.records } } :=
  if_pos ((any_iff_recorded _ _ _).mpr h)

theorem report_new (info : Nat) (h : ¬Recorded source reason.code s.log.records) (room : s.log.records.length < 8) :
    report source reason info s = raise 0 { s with log := { s.log with
      records := s.log.records ++ [⟨source, reason.code, info, 1, s.time, s.time⟩] } } :=
  (if_neg (h ∘ (any_iff_recorded _ _ _).mp)).trans (if_pos room)

theorem report_full (info : Nat) (h : ¬Recorded source reason.code s.log.records) (full : ¬s.log.records.length < 8) :
    report source reason info s = raise 1 { s with log := { s.log with overflow := true } } :=
  (if_neg (h ∘ (any_iff_recorded _ _ _).mp)).trans (if_neg full)

end

/-- A report of a source and reason has been taken: it stands in the log, or the log is full and its overflow raised. -/
def Reported (source reason : Nat) (s : State) : Prop :=
  Recorded source reason s.log.records ∨ (8 ≤ s.log.records.length ∧ s.ev.flags.getLsbD 1 = true)

theorem reported_report (source : Nat) (reason : FaultReason) (info : Nat) (s : State) :
    Reported source reason.code (report source reason info s) := by
  by_cases known : Recorded source reason.code s.log.records
  · rw [report_recorded info known]
    exact .inl (known.collapse _)
  · by_cases room : s.log.records.length < 8
    · rw [report_new info known room]
      exact .inl ⟨⟨source, reason.code, info, 1, s.time, s.time⟩, by simp, rfl, rfl⟩
    · rw [report_full info known room]
      exact .inr ⟨not_lt.mp room, raiseIn_self _ _ (by decide)⟩

/-- What has been reported raises nothing when it is reported again. -/
theorem ev_report_reported {source : Nat} {reason : FaultReason} {s : State} (h : Reported source reason.code s) (info : Nat) :
    (report source reason info s).ev = s.ev := by
  by_cases known : Recorded source reason.code s.log.records
  · rw [report_recorded info known]
  · obtain ⟨full, raised⟩ := h.resolve_left known
    rw [report_full info known (not_lt.mpr full)]
    exact raiseIn_raised raised

/-- A lost notice has been raised and reported. -/
structure LossKnown (s : State) : Prop where
  raised : s.ev.flags.getLsbD 32 = true
  reported : Reported 9 FaultReason.replyLost.code s

theorem lossKnown_noticeLost (s : State) : LossKnown (noticeLost s) where
  raised := (kept_report 9 .replyLost 3 (noticeDropped s)).latched 32 (by decide) (raiseIn_self _ 32 (by decide))
  reported := reported_report 9 .replyLost 3 (noticeDropped s)

theorem LossKnown.congr {s t : State} (h : LossKnown s) (ev : t.ev = s.ev) (log : t.log = s.log) : LossKnown t := by
  obtain ⟨raised, reported⟩ := h
  exact ⟨by rw [ev]; exact raised, by unfold Reported; rw [ev, log]; exact reported⟩

/-- The second lost notice leaves nothing pending. -/
theorem LossKnown.pending_noticeLost {s : State} (h : LossKnown s) : (noticeLost s).ev.pending = 0#51 := by
  have dropped : (noticeDropped s).ev = (noticeTaken false s).ev := raiseIn_raised (e := (noticeTaken false s).ev) h.raised
  have reported : Reported 9 FaultReason.replyLost.code (noticeDropped s) := by
    unfold Reported
    rw [dropped]
    exact h.reported
  rw [noticeLost, ev_report_reported reported, dropped]
  rfl

/-! ### The rounds (log 11) -/

/-- Where a lost notice is known, two rounds are enough. -/
theorem rested_of_lossKnown {s : State} (h : Resting s) (known : LossKnown s) (n : Nat) : Rested (settle (n + 2) s) := by
  by_cases due : noticeDue s = true
  · rw [h.settle_due due]
    have heard := ((noticeDue_iff s).mp due).2.1
    by_cases room : (s.port portCO).q0.length < 8
    · rw [buildNotice_room heard room]
      exact h.noticePlaced.settle _
    · rw [buildNotice_full heard (not_lt.mp room)]
      obtain ⟨none_counts, followed, work⟩ := h.noticeLost
      obtain ⟨t, rounds, resting, ev, _⟩ := rests_after_loss none_counts followed work n
      rw [rounds]
      exact Rested.settle ⟨resting, noticeDue_noPending (by rw [ev, known.pending_noticeLost])⟩ n
  · exact Rested.settle ⟨h, Bool.eq_false_iff.mpr due⟩ _

/-- From a state at rest, four rounds are enough for its notices. -/
theorem rested_of_resting {s : State} (h : Resting s) (n : Nat) : Rested (settle (n + 4) s) := by
  by_cases due : noticeDue s = true
  · rw [h.settle_due due]
    have heard := ((noticeDue_iff s).mp due).2.1
    by_cases room : (s.port portCO).q0.length < 8
    · rw [buildNotice_room heard room]
      exact h.noticePlaced.settle _
    · rw [buildNotice_full heard (not_lt.mp room)]
      obtain ⟨none_counts, followed, work⟩ := h.noticeLost
      obtain ⟨t, rounds, resting, ev, log⟩ := rests_after_loss none_counts followed work (n + 2)
      rw [rounds]
      exact rested_of_lossKnown resting ((lossKnown_noticeLost s).congr ev log) n
  · exact Rested.settle ⟨h, Bool.eq_false_iff.mpr due⟩ _

/-- A round begins by following, which a state already followed repeats. -/
theorem settle_followAll {s : State} (h : NoneCounts s) (n : Nat) : settle (n + 1) (followAll s) = settle (n + 1) s := by
  rw [settle_succ, settle_succ, followAll_followed (noneCounts_followAll h) (followed_followAll h)]

theorem rested_of_nothing_left {s : State} (h : NoneCounts s) (work : s.work = []) (n : Nat) : Rested (settle (n + 4) s) := by
  rw [← settle_followAll h]
  refine rested_of_resting ⟨noneCounts_followAll h, followed_followAll h, ?_⟩ n
  rw [followAll_rest h]
  exact work

theorem work_followAll {s : State} (h : NoneCounts s) : (followAll s).work = s.work := by rw [followAll_rest h]

theorem settle_handOn {s : State} (h : NoneCounts s) (some_left : s.work ≠ []) (n : Nat) :
    settle (n + 1) s = settle n (handOn (followAll s)) := by
  rw [settle_succ, if_pos (by rwa [work_followAll h])]

theorem rested_of_onlyOccurs {s : State} (h : OnlyOccurs s) (n : Nat) : Rested (settle (n + 5) s) := by
  by_cases work : s.work = []
  · exact rested_of_nothing_left h.none_counts work (n + 1)
  · rw [settle_handOn h.none_counts work]
    have restarts := onlyRestarts_handOn (s := followAll s)
      ⟨noneCounts_followAll h.none_counts, by rw [work_followAll h.none_counts]; exact h.work⟩
    exact rested_of_nothing_left restarts.none_counts (by rw [restarts.rest]) n

theorem rested_of_noneCounts {s : State} (h : NoneCounts s) (n : Nat) : Rested (settle (n + 6) s) := by
  by_cases work : s.work = []
  · exact rested_of_nothing_left h work (n + 2)
  · rw [settle_handOn h work]
    exact rested_of_onlyOccurs (onlyOccurs_handOn (noneCounts_followAll h)) n

/-- Where no timer is left that counts occurrences or measures, the rest of an event ends at rest (R79, R198, R200). -/
theorem rested_afterEvent {s : State} (h : NoneCounts (afterEvent s)) : Rested (afterEvent s) :=
  rested_of_noneCounts (h.of_kept (afterEvent_kept s)) 1018

/-! ### After every command -/

theorem rested_powerUp (straps : BitVec 5) (s : State) : Rested (powerUp straps s) := by
  obtain ⟨lanes, pairs, _, ⟨_, _, congested, _⟩, _, _, ⟨_, _, _, _, hold, _⟩, _, _, timers, _⟩ := blocksReset_powerUp straps s
  have conditions : ∀ c ∈ conditionsOf (powerUp straps s), c.2 = false := by
    intro c hc
    simp only [conditionsOf, allLanes, gradeLow, ciHolding, lanes, congested, hold] at hc
    have overflow : (powerUp straps s).log.overflow = false := rfl
    rw [overflow] at hc
    revert c
    decide
  refine ⟨⟨fun i runs => ?_, ⟨fun c hc => ?_, fun p _ _ _ => ?_⟩, rfl⟩, noticeDue_noPending rfl⟩
  · rw [timers i] at runs
    cases runs
  · rw [Agrees, conditions c hc]
    exact ⟨BitVec.getLsbD_zero, fun _ => BitVec.getLsbD_zero⟩
  · rw [pairs p]

/-- Every command but the power-up reset ends with the rest of an event (log 11). -/
theorem exec_ends (c : Instr) (s : State) : (∃ straps, c = .powerUpReset straps) ∨ ∃ a, exec c s = .next (afterEvent a) := by
  cases c with
  | powerUpReset straps => exact .inl ⟨straps, rfl⟩
  | _ => exact .inr ⟨_, rfl⟩

theorem rested_exec {c : Instr} {s t : State} (ht : exec c s = .next t) (h : NoneCounts t) : Rested t := by
  rcases exec_ends c s with ⟨straps, rfl⟩ | ⟨a, ends⟩
  · have same : powerUp straps s = t := Host.Outcome.next.inj ht
    exact same ▸ rested_powerUp straps s
  · have same : afterEvent a = t := Host.Outcome.next.inj (ends.symm.trans ht)
    subst same
    exact rested_afterEvent h

theorem mem_conditionsOf_gradeLow (s : State) (l : LaneId) : (22 + l.val, gradeLow s l) ∈ conditionsOf s :=
  List.mem_append_left _ (List.mem_cons_of_mem _ (List.mem_map_of_mem (by revert l; decide)))

/-- Settles O35: the rounds by their definition, a state at rest after every command, and a notice by the room for it. -/
theorem noticeIsBuilt : Obligations.NoticeIsBuilt := by
  refine ⟨fun n s => ?rounds, fun c s t ht none_counts => ?after, fun s => ?notice⟩
  case rounds =>
    intro f
    refine ⟨rfl, rfl, rfl, fun left => ?_, fun none_left due => ?_, fun none_left quiet => ?_⟩
    · exact (settle_succ n s).trans (if_pos left)
    · exact (settle_succ n s).trans ((if_neg (fun left => left none_left)).trans (if_pos due))
    · exact (settle_succ n s).trans ((if_neg (fun left => left none_left)).trans (if_neg (by simp [f, quiet])))
  case after =>
    obtain ⟨⟨_, followed, work⟩, quiet⟩ := rested_exec ht none_counts
    have flag : ∀ {n : Nat} {b : Bool}, (n, b) ∈ conditionsOf t → t.ev.flags.getLsbD n = b := fun hc => (followed.events _ hc).1
    refine ⟨work, quiet, ?_, fun l => ?_, ?_, ?_, followed.pairs, followAll_followed none_counts followed⟩
    · rw [flag (b := t.log.overflow) (by simp [conditionsOf])]
    · rw [flag (b := gradeLow t l) (mem_conditionsOf_gradeLow t l)]
      simp [gradeLow]
    · rw [flag (b := t.dec.congested) (by simp [conditionsOf])]
    · rw [flag (b := ciHolding t) (by simp [conditionsOf])]
      simp [ciHolding]
  case notice => exact ⟨noticeDue_iff s, buildNotice_room, buildNotice_full⟩

end Sys2Proof.Machine
end

section
/-! SUPPORT. What leaves the pairs and the page pool as they are: ports, monitors, the map, timers, events and reports, and the
requests about them (Chapters 7 to 12). `State.estate` reads the two blocks; with the lanes, whose lemmas `lanes_…` stand above,
they are all that the rules of R83 and R85 speak of. One lemma per function of the model, in the model's order. -/

namespace Sys2Proof.Machine

/-- The pairs and the page pool. -/
def State.estate (s : State) : Vector Pair 2 × Pool := (s.pairs, s.pool)

/-- An update reads at its two fields, which the lemmas of the state's updates then simplify. -/
@[simp] theorem estate_mk (time : Nat) (links : Vector Bool 4) (straps : BitVec 5) (lanes : Vector Lane 4)
    (pairs : Vector Pair 2) (pool : Pool) (dec : Decoder) (smap : MapUnit) (ports : Vector Port 3) (co : ChainOut)
    (ci : ChainIn) (monitors : Vector Monitor 8) (timers : Vector Timer 8) (mgmt : Mgmt) (ev : EventUnit) (log : FaultLog)
    (work : List Work) (pending : List Instr) :
    State.estate ⟨time, links, straps, lanes, pairs, pool, dec, smap, ports, co, ci, monitors, timers, mgmt, ev, log, work,
      pending⟩ = (pairs, pool) := rfl

@[simp] theorem estate_eta (s : State) : (s.pairs, s.pool) = s.estate := rfl

@[simp] theorem estate_ite (c : Prop) [Decidable c] (s t : State) :
    (if c then s else t).estate = if c then s.estate else t.estate := apply_ite State.estate c s t

@[simp] theorem estate_fst_ite (c : Prop) [Decidable c] (x y : State × Answer) :
    (if c then x else y).1.estate = if c then x.1.estate else y.1.estate :=
  apply_ite (fun z : State × Answer => z.1.estate) c x y

theorem estate_foldl {α : Type} (f : State → α → State) (h : ∀ s a, (f s a).estate = s.estate) (l : List α)
    (s : State) : (l.foldl f s).estate = s.estate := by
  induction l generalizing s with
  | nil => rfl
  | cons a l ih => rw [List.foldl_cons, ih, h]

/-! ### The state's updates -/

@[simp] theorem estate_setLane (s : State) (l : LaneId) (c : Lane) : (s.setLane l c).estate = s.estate := rfl
@[simp] theorem estate_modLane (s : State) (l : LaneId) (f : Lane → Lane) : (s.modLane l f).estate = s.estate := rfl
@[simp] theorem estate_setPort (s : State) (p : PortId) (c : Port) : (s.setPort p c).estate = s.estate := rfl
@[simp] theorem estate_modPort (s : State) (p : PortId) (f : Port → Port) : (s.modPort p f).estate = s.estate := rfl
@[simp] theorem estate_setMonitor (s : State) (m : MonitorId) (c : Monitor) : (s.setMonitor m c).estate = s.estate := rfl
@[simp] theorem estate_setTimer (s : State) (t : TimerId) (c : Timer) : (s.setTimer t c).estate = s.estate := rfl
@[simp] theorem estate_modTimer (s : State) (t : TimerId) (f : Timer → Timer) : (s.modTimer t f).estate = s.estate := rfl
@[simp] theorem estate_addWork (s : State) (ws : List Work) : (s.addWork ws).estate = s.estate := rfl
@[simp] theorem estate_raise (n : Nat) (s : State) : (raise n s).estate = s.estate := rfl
@[simp] theorem estate_setCondition (n : Nat) (b : Bool) (s : State) : (setCondition n b s).estate = s.estate := rfl

/-! ### Reports, conditions and ports (Chapters 12 and 8) -/

@[simp] theorem estate_report (source : Nat) (reason : FaultReason) (info : Nat) (s : State) :
    (report source reason info s).estate = s.estate := by rw [report_rest, estate_mk, estate_eta]

@[simp] theorem estate_follow (s : State) : (follow s).estate = s.estate := by
  unfold State.estate
  rw [follow_pairs, follow_pool]

@[simp] theorem estate_judgeHold (s : State) : (judgeHold s).estate = s.estate := rfl

@[simp] theorem estate_judgeHoldAt (p : PortId) (s : State) : (judgeHoldAt p s).estate = s.estate := by simp [judgeHoldAt]

@[simp] theorem estate_queueDrop (p : PortId) (cls : Nat) (own : Bool) (pkt : Packet) (s : State) :
    (queueDrop p cls own pkt s).estate = s.estate := by simp [queueDrop]

/-- A packet that arrives at a port joins a class or makes a drop (R138). -/
@[simp] theorem estate_portArrive (p : PortId) (cls : Nat) (restamp own : Bool) (pkt : Packet) (s : State) :
    (portArrive p cls restamp own pkt s).estate = s.estate := by
  unfold portArrive
  dsimp only
  split
  case h_1 => simp
  case h_2 =>
    split
    · simp
    · split <;> simp
  case h_3 => simp

@[simp] theorem estate_placeOwn (kind tag code status reason : Nat) (params : List Byte) (s : State) :
    (placeOwn kind tag code status reason params s).estate = s.estate := by simp [placeOwn]

@[simp] theorem estate_sendReply (tag code : Nat) (r : Reply) (s : State) : (sendReply tag code r s).estate = s.estate := by
  simp [sendReply]

@[simp] theorem estate_buildNotice (s : State) : (buildNotice s).estate = s.estate := by simp [buildNotice]

@[simp] theorem estate_forward (pkt : Packet) (s : State) : (forward pkt s).estate = s.estate := by simp [forward]

@[simp] theorem estate_relayFirst (h : ReqHdr) (s : State) : (relayFirst h s).estate = s.estate := by
  unfold relayFirst
  split <;> simp

@[simp] theorem estate_restamped (p : PortId) (e : Queued) (s : State) : (restamped p e s).2.estate = s.estate := by
  unfold restamped
  split
  · split <;> simp
  · rfl

@[simp] theorem estate_putWire (p : PortId) (w : Option Packet) (s : State) : (putWire p w s).estate = s.estate := rfl

@[simp] theorem estate_sendQueued (p : PortId) (e : Queued) (s : State) : (sendQueued p e s).estate = s.estate := by
  simp [sendQueued]

@[simp] theorem estate_sendClass2 (p : PortId) (q : List Queued) (s : State) : (sendClass2 p q s).estate = s.estate := by
  induction q generalizing s with
  | nil => rfl
  | cons e q ih => simp [sendClass2, ih]

@[simp] theorem estate_sendClass1 (p : PortId) (q : List Queued) (s : State) : (sendClass1 p q s).estate = s.estate := by
  induction q generalizing s with
  | nil => simp [sendClass1]
  | cons e q ih => simp [sendClass1, ih]

@[simp] theorem estate_slotSend (p : PortId) (s : State) : (slotSend p s).estate = s.estate := by
  unfold slotSend
  dsimp only
  split
  · simp
  · split <;> simp

@[simp] theorem estate_countHoldSlot (was : Bool) (s : State) : (countHoldSlot was s).estate = s.estate := by
  simp [countHoldSlot]

@[simp] theorem estate_slotWhenDue (p : PortId) (s : State) : (slotWhenDue p s).estate = s.estate := by
  have event : (slotEvent p s).estate = s.estate := by
    unfold slotEvent
    dsimp only
    generalize (if (s.port p).pstate = .stopping then (s.port p).pendingStop else none) = stop
    cases stop <;> simp
  simp [slotWhenDue, event]

/-! ### Monitors, the map and timers (Chapters 9, 7 and 10) -/

@[simp] theorem estate_offer (origin : Nat) (pkt : Packet) (s : State) : (offer origin pkt s).estate = s.estate :=
  estate_foldl _ (fun s i => by simp [offerTo]) _ _

@[simp] theorem estate_handCopies (c : Copies) (s : State) : (handCopies c s).estate = s.estate :=
  estate_foldl _ (fun s p => by simp [handCopy]) _ _

/-- An arrival is discarded, reported, or offered and handed over (R121 to R124). -/
@[simp] theorem estate_mapArrival (origin : Nat) (pkt : Packet) (s : State) :
    (mapArrival origin pkt s).estate = s.estate := by
  unfold mapArrival
  split
  · rfl
  · split
    · simp
    · split
      · rfl
      · dsimp only
        split <;> simp

@[simp] theorem estate_expire (t : TimerId) (s : State) : (expire t s).estate = s.estate := rfl

@[simp] theorem estate_occurAt (src : Source) (s : State) (t : TimerId) : (occurAt src s t).estate = s.estate := by
  unfold occurAt
  dsimp only
  split
  · split <;> simp
  · rfl

@[simp] theorem estate_occur (src : Source) (s : State) : (occur src s).estate = s.estate :=
  estate_foldl _ (estate_occurAt src) _ _

@[simp] theorem estate_timerExpires (t : TimerId) (s : State) : (timerExpires t s).estate = s.estate := by
  simp [timerExpires]

@[simp] theorem estate_tickAll (straps : BitVec 5) (s : State) : (tickAll straps s).estate = s.estate := by
  rw [tickAll_rest, estate_mk, estate_eta]

@[simp] theorem estate_judgeCongestion (s : State) : (judgeCongestion s).estate = s.estate := rfl

/-! ### Requests -/

@[simp] theorem estate_doPartSetup (id : Nat) (notices : Bool) (s : State) :
    (doPartSetup id notices s).1.estate = s.estate := by simp [doPartSetup]

@[simp] theorem estate_doPoolRead (start : Nat) (s : State) : (doPoolRead start s).1.estate = s.estate := by simp [doPoolRead]

@[simp] theorem estate_doDecoderSetup (high low : Nat) (s : State) : (doDecoderSetup high low s).1.estate = s.estate := rfl

@[simp] theorem estate_doDecoderRead (clear : Bool) (s : State) : (doDecoderRead clear s).1.estate = s.estate := by
  simp [doDecoderRead]

@[simp] theorem estate_failLoad (code : Nat) (r : RefuseReason) (s : State) : (failLoad code r s).1.estate = s.estate := by
  simp [failLoad]

@[simp] theorem estate_finishLoad (total : Nat) (es : List MapEntry) (s : State) :
    (finishLoad total es s).1.estate = s.estate := by simp [finishLoad]

/-- A segment fails, is staged, or ends its load (R131 to R134). -/
@[simp] theorem estate_doMapLoad (g : SegmentForm) (s : State) : (doMapLoad g s).1.estate = s.estate := by
  unfold doMapLoad
  split
  · simp
  · split
    · simp
    · split <;> simp

@[simp] theorem estate_doMapEditAdd (f : EntryForm) (s : State) : (doMapEditAdd f s).1.estate = s.estate := by
  unfold doMapEditAdd
  dsimp only
  split
  · rfl
  · split
    · rfl
    · split
      · rfl
      · split <;> simp

@[simp] theorem estate_doMapEditReplace (f : EntryForm) (s : State) : (doMapEditReplace f s).1.estate = s.estate := by
  unfold doMapEditReplace
  split
  · rfl
  · split <;> simp

@[simp] theorem estate_doMapEditRemove (f : EntryForm) (s : State) : (doMapEditRemove f s).1.estate = s.estate := by
  unfold doMapEditRemove
  split <;> rfl

@[simp] theorem estate_judgeMapEdit (ps : List Byte) (s : State) : (judgeMapEdit ps s).1.estate = s.estate := by
  unfold judgeMapEdit
  split <;> simp [doMapEditUnknown]

@[simp] theorem estate_doMapRead (first count : Nat) (clear : Bool) (s : State) :
    (doMapRead first count clear s).1.estate = s.estate := by simp [doMapRead]

@[simp] theorem estate_doMapInvalidate (granularity origin id m : Nat) (s : State) :
    (doMapInvalidate granularity origin id m s).1.estate = s.estate := by
  unfold doMapInvalidate
  split <;> rfl

@[simp] theorem estate_doOriginSetup (origin : Nat) (f : OriginForm) (s : State) :
    (doOriginSetup origin f s).1.estate = s.estate := by
  unfold doOriginSetup
  split
  · split <;> simp
  · rfl

@[simp] theorem estate_doPortSetup (port interval high low limit : Nat) (s : State) :
    (doPortSetup port interval high low limit s).1.estate = s.estate := by
  unfold doPortSetup
  split <;> simp

@[simp] theorem estate_doPortStop (port tag : Nat) (s : State) : (doPortStop port tag s).1.estate = s.estate := by
  unfold doPortStop
  split
  · rfl
  · split <;> rfl

@[simp] theorem estate_doPortStart (port : Nat) (s : State) : (doPortStart port s).1.estate = s.estate := by
  unfold doPortStart answerOvertaken
  split
  · rfl
  · split
    · rfl
    · rfl
    · dsimp only
      split <;> simp

@[simp] theorem estate_doPortFlush (port : Nat) (s : State) : (doPortFlush port s).1.estate = s.estate := by
  unfold doPortFlush
  split <;> simp

@[simp] theorem estate_doPortRead (port : Nat) (clear : Bool) (s : State) : (doPortRead port clear s).1.estate = s.estate := by
  unfold doPortRead
  split <;> simp [clearPortCounts]

@[simp] theorem estate_doMonitorSetup (monitor : Nat) (f : MonitorForm) (s : State) :
    (doMonitorSetup monitor f s).1.estate = s.estate := by
  unfold doMonitorSetup
  split
  · rfl
  · split <;> simp

@[simp] theorem estate_doMonitorArm (monitor : Nat) (s : State) : (doMonitorArm monitor s).1.estate = s.estate := by
  unfold doMonitorArm
  split <;> rfl

@[simp] theorem estate_doMonitorRead (monitor part : Nat) (clear : Bool) (s : State) :
    (doMonitorRead monitor part clear s).1.estate = s.estate := by
  unfold doMonitorRead
  dsimp only
  split
  · rfl
  · split <;> simp

/-- TIMER SETUP refuses, or sets the one timer (R173). -/
@[simp] theorem estate_doTimerSetup (timer : Nat) (f : TimerForm) (s : State) :
    (doTimerSetup timer f s).1.estate = s.estate := by
  unfold doTimerSetup
  split
  · rfl
  · split <;> simp

@[simp] theorem estate_doTimerStart (timer : Nat) (s : State) : (doTimerStart timer s).1.estate = s.estate := by
  unfold doTimerStart
  split <;> rfl

@[simp] theorem estate_doTimerStop (timer : Nat) (s : State) : (doTimerStop timer s).1.estate = s.estate := by
  unfold doTimerStop
  split <;> rfl

@[simp] theorem estate_doTimerRead (timer : Nat) (clear : Bool) (s : State) :
    (doTimerRead timer clear s).1.estate = s.estate := by
  unfold doTimerRead
  split <;> simp

end Sys2Proof.Machine
end

section
/-! SUPPORT. Work that leaves what the rules of R83 and R85 read: the lanes' states, which pairs are formed, the page map and
the reservations. `PoolKept` says it of the pairs and the pool, `Steady` of the lanes' states too; a data path's cells may be
written, in canonical form (R91). -/

namespace Sys2Proof.Machine

/-- The pairs formed and the page map with its reservations as they were; page contents in canonical form stay so. -/
structure PoolKept (s t : State) : Prop where
  formed : ∀ p, (t.pairAt p).formed = (s.pairAt p).formed
  pageMap : t.pool.pageMap = s.pool.pageMap
  reserved : t.pool.reserved = s.pool.reserved
  cells : cellsWf s.pool.cells = true → cellsWf t.pool.cells = true

/-- And every lane in the state it was in. -/
structure Steady (s t : State) : Prop where
  kept : PoolKept s t
  states : ∀ l, (t.lane l).state = (s.lane l).state

theorem PoolKept.refl (s : State) : PoolKept s s := ⟨fun _ => rfl, rfl, rfl, id⟩

theorem PoolKept.trans {s t u : State} (h : PoolKept s t) (k : PoolKept t u) : PoolKept s u where
  formed := fun p => (k.formed p).trans (h.formed p)
  pageMap := k.pageMap.trans h.pageMap
  reserved := k.reserved.trans h.reserved
  cells := k.cells ∘ h.cells

theorem Steady.refl (s : State) : Steady s s := ⟨.refl s, fun _ => rfl⟩

theorem Steady.trans {s t u : State} (h : Steady s t) (k : Steady t u) : Steady s u :=
  ⟨h.kept.trans k.kept, fun l => (k.states l).trans (h.states l)⟩

theorem PoolKept.owned {s t : State} (h : PoolKept s t) (l : LaneId) : t.pool.owned l = s.pool.owned l := by
  rw [Pool.owned, Pool.owned, h.pageMap]

theorem PoolKept.paired {s t : State} (h : PoolKept s t) (l : LaneId) : paired t l = paired s l := h.formed _

theorem PoolKept.pathOf {s t : State} (h : PoolKept s t) (l : LaneId) : pathOf t l = pathOf s l := by
  simp only [Machine.pathOf, h.paired]

theorem inLockOrFade_congr {s t : State} {l : LaneId} (h : (t.lane l).state = (s.lane l).state) :
    inLockOrFade t l = inLockOrFade s l := by
  unfold inLockOrFade
  rw [h]

theorem Steady.inLockOrFade {s t : State} (h : Steady s t) (l : LaneId) : inLockOrFade t l = inLockOrFade s l :=
  inLockOrFade_congr (h.states l)

/-! ### Updates -/

/-- Work that leaves the lanes, the pairs and the pool. -/
theorem Steady.of_estate {s t : State} (lanes : t.lanes = s.lanes) (estate : t.estate = s.estate) : Steady s t := by
  obtain ⟨pairs, pool⟩ := Prod.mk.inj estate
  exact ⟨⟨fun p => by rw [pairAt_congr pairs], by rw [pool], by rw [pool], by rw [pool]; exact id⟩,
    fun l => by rw [lane_congr lanes]⟩

/-- Work on a data path that keeps page contents canonical. -/
theorem Steady.of_path {s t : State} (path : PathKept s t)
    (cells : cellsWf s.pool.cells = true → cellsWf t.pool.cells = true) : Steady s t :=
  ⟨⟨path.formed, path.pageMap, path.reserved, cells⟩, fun l => by rw [path.lanes l]⟩

theorem poolKept_setLane (s : State) (l : LaneId) (c : Lane) : PoolKept s (s.setLane l c) := ⟨fun _ => rfl, rfl, rfl, id⟩

/-- A change of a lane that leaves its state. -/
theorem steady_modLane (s : State) (l : LaneId) (f : Lane → Lane) (h : (f (s.lane l)).state = (s.lane l).state) :
    Steady s (s.modLane l f) where
  kept := poolKept_setLane s l _
  states := fun k => by
    by_cases hk : k = l
    · subst hk; rw [lane_modLane_self, h]
    · rw [lane_modLane_ne _ _ _ _ hk]

/-- A change of a pair that leaves it formed or not. -/
theorem steady_setPair (s : State) (p : PairId) (x : Pair) (h : x.formed = (s.pairAt p).formed) :
    Steady s (s.setPair p x) where
  kept := {
    formed := fun q => by
      by_cases hq : q = p
      · subst hq; rw [pairAt_setPair_self, h]
      · rw [pairAt_setPair_ne _ _ _ _ hq]
    pageMap := rfl
    reserved := rfl
    cells := id }
  states := fun _ => rfl

theorem steady_modPair (s : State) (p : PairId) (f : Pair → Pair) (h : (f (s.pairAt p)).formed = (s.pairAt p).formed) :
    Steady s (s.modPair p f) := steady_setPair s p _ h

theorem steady_raise (n : Nat) (s : State) : Steady s (raise n s) := .of_estate rfl rfl

theorem steady_addWork (s : State) (ws : List Work) : Steady s (s.addWork ws) := .of_estate rfl rfl

theorem steady_report (source : Nat) (reason : FaultReason) (info : Nat) (s : State) :
    Steady s (report source reason info s) := .of_estate (lanes_report _ _ _ s) (estate_report _ _ _ s)

theorem steady_follow (s : State) : Steady s (follow s) := .of_estate (follow_lanes s) (estate_follow s)

/-! ### Groups and the decoder (R92, R93, R102) -/

theorem takeIfIdle_pool (s : State) : (takeIfIdle s).pool = s.pool := by
  unfold takeIfIdle
  split
  · rfl
  · split
    · rfl
    · split <;> rfl

theorem frameAccounting_pool (p : LaneId) (s : State) : (frameAccounting p s).pool = s.pool := by
  have reported (source : Nat) (reason : FaultReason) (info : Nat) (z : State) :
      (report source reason info z).pool = z.pool := by rw [report_rest]
  have completed (g : PipeParams) (half : Half) : (completeGroup p g half s).pool = s.pool := by
    rw [completeGroup, takeIfIdle_pool]
    show (if (s.lane p).ready.length = 0 then s else _).pool = s.pool
    split
    · rfl
    · exact reported _ _ _ _
  unfold frameAccounting
  split
  · split
    · rfl
    · exact completed _ _
  · rfl

theorem steady_takeIfIdle (s : State) : Steady s (takeIfIdle s) :=
  .of_path (path_takeIfIdle s) (by rw [takeIfIdle_pool]; exact id)

theorem steady_frameAccounting (p : LaneId) (s : State) : Steady s (frameAccounting p s) :=
  .of_path (path_frameAccounting p s) (by rw [frameAccounting_pool]; exact id)

theorem steady_abandonGroup (p : LaneId) (s : State) : Steady s (abandonGroup p s) :=
  .of_path (path_abandonGroup p s) (by rw [abandonGroup_pool]; exact id)

theorem steady_emptyReady (p : LaneId) (counted : Bool) (s : State) : Steady s (emptyReady p counted s) :=
  .of_path (path_emptyReady p counted s) (by rw [emptyReady_pool]; exact id)

theorem steady_beginGroup (p : LaneId) (half : Half) (s : State) : Steady s (beginGroup p half s) :=
  .of_path (path_beginGroup p half s) id

theorem steady_beginAgain (p : LaneId) (s : State) : Steady s (beginAgain p s) :=
  (steady_abandonGroup p s).trans (steady_beginGroup p _ _)

theorem steady_abandonIfDriving (l : LaneId) (s : State) : Steady s (abandonIfDriving l s) := by
  unfold abandonIfDriving
  split
  · exact steady_abandonGroup _ s
  · exact .refl s

theorem steady_dropRef (l : LaneId) (s : State) : Steady s (dropRef l s) := by
  unfold dropRef
  split
  · exact steady_modPair s _ _ rfl
  · exact .refl s

theorem steady_setPathLayout (l : LaneId) (r : FrameRecord) (s : State) : Steady s (setPathLayout l r s) := by
  unfold setPathLayout
  split
  · exact steady_modPair s _ _ rfl
  · exact .refl s

/-! ### Cells written and frames completed (R77, R79, R90) -/

theorem steady_placeCells (p : LaneId) (cells : List PoolCell) (s : State) : Steady s (placeCells p cells s) :=
  .of_path (path_placeCells p cells s) (cellsWf_placeCells p cells s)

theorem steady_setPairState (p : PairId) (v : PairState) (s : State) : Steady s (setPairState p v s) := by
  unfold setPairState
  split
  · exact .refl s
  · exact (steady_modPair s p _ rfl).trans (steady_raise _ _)

theorem steady_pathCompletion (p : PairId) (x : WaitingSymbol) (s : State) : Steady s (pathCompletion p x s) := by
  have told : Steady s (if misaligned p x s = true then misalignedTold p x s else frameStateSet p x s) := by
    split
    · exact (steady_setPairState _ _ s).trans (steady_report _ _ _ _)
    · exact steady_setPairState _ _ s
  rw [pathCompletion_eq]
  refine told.trans (.trans (steady_setPair _ p _ ?_) (steady_frameAccounting (primaryOf p) _))
  rfl

theorem steady_flushWaiting (p : PairId) (ws : List WaitingSymbol) (s : State) : Steady s (flushWaiting p ws s) := by
  induction ws generalizing s with
  | nil => exact steady_modPair s p _ rfl
  | cons x xs ih =>
    cases decided : x.decided with
    | false => rw [flushWaiting_waits xs s decided]; exact steady_setPair s p _ rfl
    | true =>
      have written : Steady s (symbolWritten p x s) := (steady_placeCells _ x.cells s).trans (steady_setPair _ p _ rfl)
      rw [flushWaiting_decided xs s decided]
      refine .trans ?_ (ih _)
      split
      · exact written.trans (steady_pathCompletion p x _)
      · exact written

theorem steady_flush (p : PairId) (s : State) : Steady s (flush p s) := steady_flushWaiting p _ s

theorem steady_ageWaiting (p : PairId) (s : State) : Steady s (ageWaiting p s) :=
  (steady_modPair s p _ rfl).trans (steady_flush p _)

theorem steady_decideAll (p : PairId) (s : State) : Steady s (decideAll p s) :=
  (steady_modPair s p _ rfl).trans (steady_flush p _)

theorem steady_writeLeft (l : LaneId) (ws : List WaitingSymbol) (s : State) : Steady s (writeLeft l ws s) := by
  induction ws generalizing s with
  | nil => exact .refl s
  | cons x xs ih =>
    unfold writeLeft
    refine .trans ?_ (ih _)
    split
    · exact (steady_placeCells l x.cells s).trans (steady_frameAccounting l _)
    · exact steady_placeCells l x.cells s

theorem steady_takeLeft (l : LaneId) (s : State) : Steady s (takeLeft l s) := by
  unfold takeLeft
  split
  · exact (steady_modPair s _ _ rfl).trans (steady_writeLeft l _ _)
  · exact .refl s

theorem steady_deliverCells (l : LaneId) (y : Layout) (idx : Nat) (cells : List PoolCell) (s : State) :
    Steady s (deliverCells l y idx cells s) := by
  have reference (p : PairId) (partner : LaneId) (x : WaitingSymbol) : Steady s (referenceSymbol p partner x s) :=
    (steady_modPair s p _ rfl).trans (steady_flush p _)
  have partner (p : PairId) (z : StoredSymbol) : Steady s (partnerSymbol p z s) :=
    (steady_modPair s p _ rfl).trans (steady_flush p _)
  unfold deliverCells
  dsimp only
  split
  · split
    · split
      · exact reference _ _ _
      · exact .refl s
    · split
      · exact partner _ _
      · exact .refl s
  · exact steady_placeCells l cells s

/-! ### A lane's symbols (2.6) -/

theorem steady_beginLockSymbol (l : LaneId) (s : State) : Steady s (beginLockSymbol l s) := by
  have counted : Steady s (s.modLane l (fun c =>
      { c with counters := { c.counters with symbols := wrap32 (c.counters.symbols + 1) } })) := steady_modLane s l _ rfl
  refine counted.trans ?_
  unfold beginLockSymbol
  dsimp only
  split
  · exact steady_ageWaiting _ _
  · exact steady_takeLeft l _

theorem steady_countBlanked (l : LaneId) (s : State) : Steady s (countBlanked l s) :=
  (steady_modLane s l _ rfl).trans (steady_addWork _ _)

theorem state_trackSymbol (k : Candidate) (y : Layout) (idx : Nat) (f : SymbolFacts) (pilots : List PilotRx) (c : Lane) :
    (trackSymbol k y idx f pilots c).state = c.state := by
  unfold trackSymbol
  dsimp only
  split <;> rfl

theorem steady_completeFrame (l : LaneId) (s : State) : Steady s (completeFrame l s) := by
  have judged : Steady s (follow (s.setLane l (frameJudged (s.lane l)))) :=
    (steady_modLane s l frameJudged rfl).trans (steady_follow _)
  rw [completeFrame_eq]
  split
  · exact judged
  · exact judged.trans (steady_frameAccounting l _)

/-- A data symbol before its loss run is judged. -/
theorem steady_symbolDelivered (l : LaneId) (k : Candidate) (y : Layout) (x : SymbolRx) (s : State) :
    Steady s (symbolDelivered l k y x s) := by
  have counted (blanked : Bool) : Steady s (blankingCounted l blanked s) := by
    cases blanked with
    | false => exact .refl s
    | true => exact steady_countBlanked l s
  have tracked : Steady s (symbolTracked l k y x s) :=
    (counted _).trans (steady_modLane _ l _ (state_trackSymbol _ _ _ _ _ _))
  unfold symbolDelivered
  dsimp only
  split
  · exact (tracked.trans (steady_deliverCells l y _ _ _)).trans (steady_completeFrame l _)
  · exact tracked.trans (steady_deliverCells l y _ _ _)

end Sys2Proof.Machine
end

section
/-! SUPPORT. The rules of the page pool (R82, R83, R85) and the changes that keep them: pages granted, given up and released,
a lane's state changed, the states of a data path's lanes changed. `RulesKept` says of a change that it keeps every rule. -/

namespace Sys2Proof.Machine

/-! ### The free-page law (R82, R85) -/

theorem poolLaw_iff (p : Pool) : poolLaw p = true ↔ p.pageMap.length = 1024 ∧ p.unmetSum ≤ p.freeCount := by
  simp [poolLaw]

theorem length_grantMap (l : LaneId) (n : Nat) (m : List (Option LaneId)) : (grantMap l n m).length = m.length := by
  induction m generalizing n with
  | nil => cases n <;> rfl
  | cons o m ih =>
    cases o with
    | some k => rw [grantMap_taken, List.length_cons, List.length_cons, ih]
    | none =>
      cases n with
      | zero => rw [grantMap_zero]
      | succ n => rw [grantMap_free, List.length_cons, List.length_cons, ih]

theorem length_shrinkMap (l : LaneId) (n : Nat) (m : List (Option LaneId)) : (shrinkMap l n m).length = m.length := by
  induction m generalizing n with
  | nil => cases n <;> rfl
  | cons o m ih =>
    by_cases h : o = some l
    · subst h
      cases n with
      | zero => rw [shrinkMap_cons_zero, List.length_cons, List.length_cons, ih]
      | succ n => rw [shrinkMap_cons_succ, List.length_cons, List.length_cons, ih]
    · rw [shrinkMap_cons_ne h, List.length_cons, List.length_cons, ih]

theorem Pool.owned_grant {p : Pool} {l : LaneId} {n : Nat} (h : n ≤ p.freeCount) (k : LaneId) :
    (p.grant l n).owned k = p.owned k + (if k = l then n else 0) := by
  by_cases hk : k = l
  · subst hk; rw [if_pos rfl]; exact (count_grantMap_self h).1
  · rw [if_neg hk, Nat.add_zero]; exact count_grantMap_other hk n _

theorem Pool.owned_shrink (p : Pool) (l : LaneId) (n : Nat) (k : LaneId) :
    (p.shrink l n).owned k = if k = l then min n (p.owned l) else p.owned k := by
  by_cases hk : k = l
  · subst hk; rw [if_pos rfl]; exact count_shrinkMap_self k n _
  · rw [if_neg hk]; exact count_shrinkMap_other hk n _

/-- A release is a shrink to no page (R88, R89). -/
theorem Pool.release_eq_shrink (p : Pool) (l : LaneId) : p.release l = p.shrink l 0 := by
  rw [Pool.release, Pool.shrink, releaseMap_eq_shrinkMap]

/-- What a grant is judged by is the law after it (R85, R87). -/
theorem poolLaw_grant {p : Pool} {l : LaneId} {n : Nat} (h : poolLaw p = true) (granted : p.grants l n = true) :
    poolLaw (p.grant l n) = true := by
  have unmet (k : LaneId) : (p.grant l n).unmet k = p.unmetWith l n k := by
    rw [Pool.unmet, Pool.owned_grant (Pool.le_freeCount_of_grants granted)]
    rfl
  have free : (p.grant l n).freeCount + n = p.freeCount := (count_grantMap_self (Pool.le_freeCount_of_grants granted)).2
  simp only [Pool.grants, Bool.and_eq_true, decide_eq_true_eq] at granted
  rw [poolLaw_iff] at h ⊢
  refine ⟨(length_grantMap l n _).trans h.1, ?_⟩
  simp only [Pool.unmetSum, unmet]
  omega

/-- A lane that gives up pages adds as many free pages as its unmet reservation can grow by (R85, R89). -/
theorem poolLaw_shrink {p : Pool} (h : poolLaw p = true) (l : LaneId) (n : Nat) : poolLaw (p.shrink l n) = true := by
  have unmet (k : LaneId) : (p.shrink l n).unmet k ≤ p.unmet k + (if k = l then p.owned l - n else 0) := by
    rw [Pool.unmet, Pool.unmet, Pool.owned_shrink, show (p.shrink l n).reserved = p.reserved from rfl]
    split
    next hk => subst hk; omega
    next => omega
  have free : (p.shrink l n).freeCount = p.freeCount + (p.owned l - n) := count_shrinkMap_free l n _
  have once (d : Nat) : (if (0 : LaneId) = l then d else 0) + (if (1 : LaneId) = l then d else 0) +
      (if (2 : LaneId) = l then d else 0) + (if (3 : LaneId) = l then d else 0) = d := by
    fin_cases l <;> simp
  rw [poolLaw_iff] at h ⊢
  refine ⟨(length_shrinkMap l n _).trans h.1, ?_⟩
  have sum := once (p.owned l - n)
  have h0 := unmet 0
  have h1 := unmet 1
  have h2 := unmet 2
  have h3 := unmet 3
  have law := h.2
  simp only [Pool.unmetSum] at law ⊢
  omega

/-! ### The lanes that may own pages, and the lanes of a pair (R83, R20) -/

/-- A lane of whose data path a lane is in LOCK or FADE. -/
def Served (s : State) (l : LaneId) : Prop :=
  inLockOrFade s l = true ∨ (paired s l = true ∧ inLockOrFade s (partnerOf l) = true)

theorem pairOf_partnerOf (l : LaneId) : pairOf (partnerOf l) = pairOf l := by revert l; decide

theorem partnerOf_partnerOf (l : LaneId) : partnerOf (partnerOf l) = l := by revert l; decide

theorem paired_partnerOf (s : State) (l : LaneId) : paired s (partnerOf l) = paired s l := by
  rw [paired, paired, pairOf_partnerOf]

/-- The data path of a lane is its own or, in a pair, its partner's. -/
theorem pathOf_cases (s : State) (l : LaneId) : pathOf s l = l ∨ (paired s l = true ∧ pathOf s l = partnerOf l) := by
  cases pair : paired s l with
  | false => exact .inl (pathOf_single pair)
  | true =>
    rw [pathOf_paired pair, primaryOf_pairOf]
    split
    · exact .inl rfl
    · exact .inr ⟨rfl, rfl⟩

theorem pathOf_partnerOf {s : State} {l : LaneId} (h : paired s l = true) : pathOf s (partnerOf l) = pathOf s l := by
  rw [pathOf_paired h, pathOf_paired ((paired_partnerOf s l).trans h), pairOf_partnerOf]

theorem served_partnerOf {s : State} {l : LaneId} (h : paired s l = true) : Served s (partnerOf l) ↔ Served s l := by
  rw [Served, Served, paired_partnerOf, partnerOf_partnerOf]
  simp only [h, true_and]
  exact or_comm

theorem served_pathOf (s : State) (l : LaneId) : Served s (pathOf s l) ↔ Served s l := by
  rcases pathOf_cases s l with own | ⟨pair, partner⟩
  · rw [own]
  · rw [partner, served_partnerOf pair]

/-- A lane may own pages where it holds its own data path, and a lane of that path is in LOCK or FADE (R83). -/
theorem mayOwn_iff (s : State) (l : LaneId) : mayOwn s l = true ↔ pathOf s l = l ∧ Served s l := by
  cases pair : paired s l with
  | false => simp [mayOwn, Served, pair, pathOf_single pair]
  | true =>
    have own : pathOf s l = l ↔ isPrimary l = true := by
      rw [pathOf_paired pair, primaryOf_pairOf]
      split
      · simp [*]
      · simp [*, partnerOf_ne]
    simp [mayOwn, Served, pair, own]

theorem ownersOk_iff (s : State) : ownersOk s = true ↔ ∀ l, s.pool.owned l ≠ 0 → pathOf s l = l ∧ Served s l := by
  have every (l : LaneId) : l ∈ allLanes := by revert l; decide
  have rule (l : LaneId) : (decide (s.pool.owned l = 0) || mayOwn s l) = true ↔
      (s.pool.owned l ≠ 0 → pathOf s l = l ∧ Served s l) := by
    rw [Bool.or_eq_true, decide_eq_true_eq, mayOwn_iff, ← or_iff_not_imp_left]
  refine List.all_eq_true.trans ⟨fun all l => (rule l).mp (all l (every l)), fun all l _ => (rule l).mpr (all l)⟩

theorem pairsOk_iff (s : State) : pairsOk s = true ↔
    ∀ l, paired s l = true → ((s.lane l).state = .off ↔ (s.lane (partnerOf l)).state = .off) := by
  have rule : pairsOk s = true ↔ ∀ p : PairId, (s.pairAt p).formed = true →
      ((s.lane (primaryOf p)).state = .off ↔ (s.lane (secondaryOf p)).state = .off) := by
    have every (p : PairId) : p ∈ ([0, 1] : List PairId) := by revert p; decide
    refine List.all_eq_true.trans ⟨fun all p formed => ?_, fun all p _ => ?_⟩
    · simpa [formed] using all p (every p)
    · cases formed : (s.pairAt p).formed with
      | false => rfl
      | true => simpa [formed] using all p formed
  have member (l : LaneId) : (primaryOf (pairOf l) = l ∧ secondaryOf (pairOf l) = partnerOf l) ∨
      (primaryOf (pairOf l) = partnerOf l ∧ secondaryOf (pairOf l) = l) := by revert l; decide
  have second (p : PairId) : partnerOf (primaryOf p) = secondaryOf p := by revert p; decide
  rw [rule]
  refine ⟨fun all l pair => ?_, fun all p formed => ?_⟩
  · have together := all (pairOf l) pair
    rcases member l with ⟨first, other⟩ | ⟨first, other⟩
    · rwa [first, other] at together
    · rw [first, other] at together; exact together.symm
  · have together := all (primaryOf p) (paired_primaryOf formed)
    rwa [second] at together

/-! ### Changes that keep the rules -/

/-- A change that keeps every rule of the pages. -/
structure RulesKept (s t : State) : Prop where
  cells : cellsWf s.pool.cells = true → cellsWf t.pool.cells = true
  law : poolLaw s.pool = true → poolLaw t.pool = true
  pairs : pairsOk s = true → pairsOk t = true
  owners : pairsOk s = true → ownersOk s = true → ownersOk t = true

theorem RulesKept.refl (s : State) : RulesKept s s := ⟨id, id, id, fun _ => id⟩

theorem RulesKept.trans {s t u : State} (h : RulesKept s t) (k : RulesKept t u) : RulesKept s u where
  cells := k.cells ∘ h.cells
  law := k.law ∘ h.law
  pairs := k.pairs ∘ h.pairs
  owners := fun pairs owners => k.owners (h.pairs pairs) (h.owners pairs owners)

theorem PoolKept.law {s t : State} (h : PoolKept s t) : poolLaw t.pool = poolLaw s.pool := by
  have same : t.pool = ⟨s.pool.pageMap, s.pool.reserved, t.pool.cells⟩ := by rw [← h.pageMap, ← h.reserved]
  rw [same]
  rfl

/-- The lanes of one data path change their states, together to OFF if they are a pair, and the path stays served if it owns
pages. -/
theorem RulesKept.of_path {s t : State} {l : LaneId} (kept : PoolKept s t)
    (others : ∀ k, k ≠ l → ¬(paired s l = true ∧ k = partnerOf l) → (t.lane k).state = (s.lane k).state)
    (together : pairsOk s = true → paired s l = true →
      ((t.lane l).state = .off ↔ (t.lane (partnerOf l)).state = .off))
    (serves : pairsOk s = true → s.pool.owned (pathOf s l) ≠ 0 → Served s l → Served t l) : RulesKept s t where
  cells := kept.cells
  law := fun law => kept.law.trans law
  pairs := fun pairs => (pairsOk_iff t).mpr (fun k pair => by
    rw [kept.paired] at pair
    by_cases own : k = l
    · subst own; exact together pairs pair
    · by_cases partner : k = partnerOf l
      · subst partner
        rw [partnerOf_partnerOf]
        exact (together pairs ((paired_partnerOf s l).symm.trans pair)).symm
      · have apart : partnerOf k ≠ l := fun e => partner (by rw [← e, partnerOf_partnerOf])
        have other : partnerOf k ≠ partnerOf l := fun e => own (by rw [← partnerOf_partnerOf k, e, partnerOf_partnerOf])
        rw [others k own (fun h => partner h.2), others _ apart (fun h => other h.2)]
        exact (pairsOk_iff s).mp pairs k pair)
  owners := fun pairs owners => (ownersOk_iff t).mpr (fun k owned => by
    rw [kept.owned] at owned
    obtain ⟨holds, served⟩ := (ownersOk_iff s).mp owners k owned
    refine ⟨(kept.pathOf k).trans holds, ?_⟩
    by_cases path : k = pathOf s l
    · subst path
      rw [← kept.pathOf, served_pathOf]
      exact serves pairs owned ((served_pathOf s l).mp served)
    · have own : k ≠ l := fun e => path (by rw [← e, holds])
      have partner : ¬(paired s l = true ∧ k = partnerOf l) := fun h => path (by rw [← pathOf_partnerOf h.1, ← h.2, holds])
      have same := inLockOrFade_congr (others k own partner)
      rcases served with mine | ⟨pair, theirs⟩
      · exact .inl (same.trans mine)
      · refine .inr ⟨(kept.paired k).trans pair, (inLockOrFade_congr (others _ (fun e => ?_) (fun h => ?_))).trans theirs⟩
        · exact path (by rw [← e, pathOf_partnerOf pair, holds])
        · exact own (by rw [← partnerOf_partnerOf k, h.2, partnerOf_partnerOf]))

theorem RulesKept.of_steady {s t : State} (h : Steady s t) : RulesKept s t := by
  have served (l : LaneId) : Served t l ↔ Served s l := by
    rw [Served, Served, h.inLockOrFade, h.inLockOrFade, h.kept.paired]
  refine .of_path (l := 0) h.kept (fun k _ _ => h.states k) (fun pairs pair => ?_) (fun _ _ => (served 0).mpr)
  rw [h.states, h.states]
  exact (pairsOk_iff s).mp pairs 0 pair

/-- A lane goes from a state to another, neither OFF: if it leaves LOCK and FADE, its path has no page or is served by its
partner (R20, R83). -/
theorem rules_setLane {s : State} {l : LaneId} {c : Lane} (was : (s.lane l).state ≠ .off)
    (is : c.state ≠ .off)
    (leaves : inLockOrFade s l = true → (c.state = .lock ∨ c.state = .fade) ∨
      s.pool.owned (pathOf s l) = 0 ∨ (paired s l = true ∧ inLockOrFade s (partnerOf l) = true)) :
    RulesKept s (s.setLane l c) := by
  have partner : (s.setLane l c).lane (partnerOf l) = s.lane (partnerOf l) := lane_setLane_ne _ _ _ _ (partnerOf_ne l)
  have by_partner (h : paired s l = true ∧ inLockOrFade s (partnerOf l) = true) : Served (s.setLane l c) l :=
    .inr ⟨h.1, (inLockOrFade_congr (congrArg Lane.state partner)).trans h.2⟩
  refine .of_path (poolKept_setLane s l c) (fun k hk _ => by rw [lane_setLane_ne _ _ _ _ hk]) (fun pairs pair => ?_)
    (fun _ owned served => ?_)
  · have both := (pairsOk_iff s).mp pairs l pair
    rw [lane_setLane_self, partner]
    exact iff_of_false is (mt both.mpr was)
  · rcases served with mine | theirs
    · rcases leaves mine with stays | empty | theirs
      · refine .inl ((inLockOrFade_iff _ _).mpr ?_)
        rwa [lane_setLane_self]
      · exact absurd empty owned
      · exact by_partner theirs
    · exact by_partner theirs

/-! ### Pages given up, released and granted -/

/-- A change of the pool alone by which no lane comes to own pages that owned none. -/
theorem rules_pool {s : State} {p : Pool} (cells : p.cells = s.pool.cells)
    (law : poolLaw s.pool = true → poolLaw p = true)
    (owned : ∀ l, p.owned l ≠ 0 → s.pool.owned l ≠ 0 ∨ (pathOf s l = l ∧ Served s l)) : RulesKept s { s with pool := p } where
  cells := fun h => (congrArg cellsWf cells).trans h
  law := law
  pairs := id
  owners := fun _ owners => (ownersOk_iff _).mpr (fun l some_owned =>
    (owned l some_owned).elim ((ownersOk_iff s).mp owners l) id)

theorem rules_shrink (s : State) (l : LaneId) (n : Nat) : RulesKept s { s with pool := s.pool.shrink l n } :=
  rules_pool rfl (fun law => poolLaw_shrink law l n) (fun k owned => .inl (fun none_owned => owned (by
    rw [Pool.owned_shrink]
    split
    next hk => subst hk; rw [none_owned, Nat.min_zero]
    next => exact none_owned)))

theorem rules_grant {s : State} {l : LaneId} {n : Nat} (holds : pathOf s l = l) (served : Served s l)
    (granted : s.pool.grants l n = true) : RulesKept s { s with pool := s.pool.grant l n } :=
  rules_pool rfl (fun law => poolLaw_grant law granted) (fun k owned => by
    by_cases hk : k = l
    · subst hk; exact .inr ⟨holds, served⟩
    · rw [Pool.owned_grant (Pool.le_freeCount_of_grants granted), if_neg hk, Nat.add_zero] at owned
      exact .inl owned)

/-- A released path is the released pages, and work on the path (R88). -/
theorem steady_releasePath (p : LaneId) (counted : Bool) (s : State) :
    Steady { s with pool := s.pool.release p } (releasePath p counted s) :=
  (steady_abandonGroup p _).trans (steady_emptyReady p counted _)

theorem rules_releasePath (p : LaneId) (counted : Bool) (s : State) : RulesKept s (releasePath p counted s) := by
  refine .trans ?_ (.of_steady (steady_releasePath p counted s))
  rw [Pool.release_eq_shrink]
  exact rules_shrink s p 0

/-- A released path has no page (R88). -/
theorem owned_releasePath (p : LaneId) (counted : Bool) (s : State) : (releasePath p counted s).pool.owned p = 0 := by
  rw [(steady_releasePath p counted s).kept.owned]
  exact owned_release_self s.pool p

end Sys2Proof.Machine
end

section
/-! SUPPORT. The rules of the pages through what lanes do to their data path (R34, R35, R38, R40, R76, R83, R89): a lane that
fades keeps its pages, one that leaves LOCK and FADE gives them up or leaves them to its partner, and a layout change settles
them while its lane is in LOCK. -/

namespace Sys2Proof.Machine

theorem ne_off_of_inLockOrFade {s : State} {l : LaneId} (h : inLockOrFade s l = true) : (s.lane l).state ≠ .off := by
  rcases (inLockOrFade_iff s l).mp h with lock | fade
  · rw [lock]; decide
  · rw [fade]; decide

/-- The path of a lane's path is that path. -/
theorem pathOf_pathOf (s : State) (l : LaneId) : pathOf s (pathOf s l) = pathOf s l := by
  rcases pathOf_cases s l with own | ⟨pair, partner⟩
  · rw [own, own]
  · rw [partner, pathOf_partnerOf pair, partner]

/-! ### Entry to FADE, and the way back to SEARCH (R35, R38, R40) -/

theorem rules_enterFade {l : LaneId} {s : State} (on : inLockOrFade s l = true) (why : Reason) :
    RulesKept s (enterFade l why s) := by
  have begun : Steady s (abandonIfDriving l ((raise (evFaded l) s).addWork [.occ (.faded l)])) :=
    ((steady_raise _ s).trans (steady_addWork _ _)).trans (steady_abandonIfDriving l _)
  have still : inLockOrFade (abandonIfDriving l ((raise (evFaded l) s).addWork [.occ (.faded l)])) l = true :=
    (begun.inLockOrFade l).trans on
  refine ((RulesKept.of_steady begun).trans (rules_setLane (ne_off_of_inLockOrFade still) ?_ (fun _ => .inl (.inr ?_)))).trans
    (.of_steady (steady_follow _))
  · exact LaneState.noConfusion
  · rfl

theorem steady_pathGivenUp (l : LaneId) (counted : Bool) (s : State) :
    Steady { s with pool := s.pool.release (pathOf s l) } (pathGivenUp l counted s) :=
  (steady_releasePath _ counted s).trans (steady_dropRef l _)

theorem rules_pathGivenUp (l : LaneId) (counted : Bool) (s : State) : RulesKept s (pathGivenUp l counted s) :=
  (rules_releasePath _ counted s).trans (.of_steady (steady_dropRef l _))

theorem owned_pathGivenUp (l : LaneId) (counted : Bool) (s : State) :
    (pathGivenUp l counted s).pool.owned (pathOf s l) = 0 := by
  rw [(steady_pathGivenUp l counted s).kept.owned]
  exact owned_release_self s.pool _

/-- A lane departs from a path that its partner serves, or from one without pages (R38, R74). -/
theorem departPath_cases (l : LaneId) (s : State) : RulesKept s (departPath l s) ∧
    (inLockOrFade (departPath l s) l = inLockOrFade s l) ∧
    ((departPath l s).pool.owned (pathOf (departPath l s) l) = 0 ∨
      (paired (departPath l s) l = true ∧ inLockOrFade (departPath l s) (partnerOf l) = true)) := by
  by_cases served : paired s l = true ∧ inLockOrFade s (partnerOf l) = true
  · have steady : Steady s (departPath l s) := by
      rw [departPath_kept served]
      split
      · exact (steady_abandonGroup _ s).trans (steady_dropRef l _)
      · exact .refl s
    exact ⟨.of_steady steady, steady.inLockOrFade l,
      .inr ⟨(steady.kept.paired l).trans served.1, (steady.inLockOrFade _).trans served.2⟩⟩
  · rw [departPath_given_up served]
    have path : pathOf (pathGivenUp l true s) l = pathOf s l := (steady_pathGivenUp l true s).kept.pathOf l
    exact ⟨rules_pathGivenUp l true s, (steady_pathGivenUp l true s).inLockOrFade l, .inl (path ▸ owned_pathGivenUp l true s)⟩

theorem rules_releaseToSearch {l : LaneId} {s : State} (on : inLockOrFade s l = true) :
    RulesKept s (releaseToSearch l s) := by
  obtain ⟨departed, same, leaves⟩ := departPath_cases l s
  have left : RulesKept (departPath l s) ((departPath l s).setLane l (((departPath l s).lane l).toSearch 0)) :=
    rules_setLane (ne_off_of_inLockOrFade (same.trans on)) LaneState.noConfusion (fun _ => .inr leaves)
  rw [releaseToSearch_eq]
  exact (departed.trans left).trans (.of_steady ((steady_raise (evReleased l) _).trans (steady_follow _)))

theorem rules_research (l : LaneId) (s : State) : RulesKept s (research l s) := by
  unfold research
  split
  next on => exact rules_releaseToSearch on
  next => exact .refl s

theorem rules_holdoffExpires (l : LaneId) (s : State) : RulesKept s (holdoffExpires l s) := by
  unfold Machine.holdoffExpires
  split
  next due => exact rules_releaseToSearch ((inLockOrFade_iff s l).mpr (.inr due.1))
  next => exact .refl s

/-! ### Layout changes (R34, R76, R89) -/

/-- The lanes of a path without pages go to SYNC (R34, R76). -/
theorem rules_pathToSync {l : LaneId} {s : State} (on : inLockOrFade s l = true) (empty : s.pool.owned (pathOf s l) = 0)
    (why : Reason) : RulesKept s (pathToSync l why s) := by
  have led := steady_dropRef l s
  have none_owned : (dropRef l s).pool.owned (pathOf (dropRef l s) l) = 0 := by rwa [led.kept.pathOf, led.kept.owned]
  by_cases both : paired s l = true ∧ inLockOrFade s (partnerOf l) = true
  · rw [pathToSync_both why both.1 both.2]
    refine (RulesKept.of_steady led).trans (.trans ?_ (.of_steady (steady_follow _)))
    refine .of_path (l := l) ((poolKept_setLane _ _ _).trans (poolKept_setLane _ _ _)) (fun k own partner => ?_)
      (fun _ _ => ?_) (fun _ owned => absurd none_owned owned)
    · have apart : k ≠ partnerOf l := fun e => partner ⟨(led.kept.paired l).trans both.1, e⟩
      rw [lane_setLane_ne _ _ _ _ apart, lane_setLane_ne _ _ _ _ own]
    · rw [lane_setLane_self, lane_setLane_ne _ _ _ _ (partnerOf_ne l).symm, lane_setLane_self]
      exact Iff.rfl
  · have alone : paired s l = false ∨ inLockOrFade s (partnerOf l) = false := by
      rw [← Bool.not_eq_true, ← Bool.not_eq_true]
      exact not_and_or.mp both
    rw [pathToSync_alone why alone]
    refine (RulesKept.of_steady led).trans (.trans ?_ (.of_steady (steady_follow _)))
    exact rules_setLane (ne_off_of_inLockOrFade ((led.inLockOrFade l).trans on)) LaneState.noConfusion
      (fun _ => .inr (.inl none_owned))

theorem steady_recordTaken (l : LaneId) (r : FrameRecord) (s : State) : Steady s (recordTaken l r s) := by
  have cut : Steady s (pathCut l s) :=
    ((steady_abandonGroup _ s).trans (steady_emptyReady _ true _)).trans (steady_raise _ _)
  refine cut.trans (.trans ?_ (steady_setPathLayout l r _))
  exact steady_modLane _ l (fun c => { c with layout := some (layoutOf (selectId s l) r) }) rfl

/-- A path released for its lanes to go to SYNC (R34, R88, R89). -/
theorem rules_releasedToSync {l : LaneId} {s : State} (on : inLockOrFade s l = true) (why : Reason) :
    RulesKept s (pathToSync l why (releasePath (pathOf s l) true s)) := by
  have released := steady_releasePath (pathOf s l) true s
  have path : pathOf (releasePath (pathOf s l) true s) l = pathOf s l := released.kept.pathOf l
  exact (rules_releasePath _ true s).trans (rules_pathToSync ((released.inLockOrFade l).trans on)
    (by rw [path]; exact owned_releasePath _ true s) why)

/-- A layout change at a lane in LOCK or FADE keeps the rules: it shrinks, grows or releases the path's pages (R34, R89). -/
theorem rules_layoutChange {l : LaneId} {s : State} (on : inLockOrFade s l = true) (r : FrameRecord) :
    RulesKept s (layoutChange l r s) := by
  have taken := steady_recordTaken l r s
  have still : inLockOrFade (recordTaken l r s) l = true := (taken.inLockOrFade l).trans on
  have path : pathOf (recordTaken l r s) l = pathOf s l := taken.kept.pathOf l
  refine (RulesKept.of_steady taken).trans ?_
  cases selected : selectPipe (selectId s l) r with
  | none =>
    rw [layoutChange_absent selected, ← path]
    exact rules_releasedToSync still _
  | some z =>
    rcases Nat.lt_or_ge ((recordTaken l r s).pool.owned (pathOf s l)) (pageNeed z.params) with short | enough
    · cases granted : (recordTaken l r s).pool.grants (pathOf s l)
          (pageNeed z.params - (recordTaken l r s).pool.owned (pathOf s l)) with
      | true =>
        rw [layoutChange_settled selected (settlePages_grow short granted), if_pos rfl]
        have served : Served (recordTaken l r s) (pathOf s l) := path ▸ (served_pathOf _ l).mpr (.inl still)
        have holds : pathOf (recordTaken l r s) (pathOf s l) = pathOf s l := path ▸ pathOf_pathOf _ l
        exact (rules_grant holds served granted).trans (.of_steady (steady_beginGroup _ _ _))
      | false =>
        rw [layoutChange_settled selected (settlePages_refused short granted), if_neg Bool.false_ne_true, ← path]
        exact (rules_releasedToSync still _).trans (.of_steady (steady_report _ _ _ _))
    · rw [layoutChange_settled selected (settlePages_shrink enough), if_pos rfl]
      exact (rules_shrink _ _ _).trans (.of_steady (steady_beginGroup _ _ _))

theorem rules_checkLayout {l : LaneId} {s : State} (on : inLockOrFade s l = true) (cur : Option PipeParams) (r : FrameRecord) :
    RulesKept s (checkLayout l cur r s) := by
  unfold checkLayout
  split
  · exact rules_layoutChange on r
  · exact .of_steady (steady_setPathLayout l r s)

/-! ### The reference of a pair (R75, R76) -/

/-- With pages granted at the preamble the record becomes the path's layout (R75). -/
theorem steady_pathTaken_granted (l : LaneId) (r : FrameRecord) (s : State) : Steady s (pathTaken l true r s) :=
  ((steady_abandonGroup _ s).trans (steady_setPathLayout l r _)).trans (steady_beginGroup _ _ _)

theorem rules_pathTaken {l : LaneId} {s : State} (on : inLockOrFade s l = true) (granted : Bool) (r : FrameRecord) :
    RulesKept s (pathTaken l granted r s) := by
  cases granted with
  | true => exact .of_steady (steady_pathTaken_granted l r s)
  | false =>
    show RulesKept s (if _ then layoutChange l r s else beginAgain (pathOf s l) (setPathLayout l r s))
    split
    · exact rules_layoutChange on r
    · exact .of_steady ((steady_setPathLayout l r s).trans (steady_beginAgain _ _))

theorem steady_refLed (l : LaneId) (s : State) : Steady s (refLed l s) := steady_setPair s _ _ rfl

theorem steady_counterTaken (l : LaneId) (r : FrameRecord) (s : State) : Steady s (counterTaken l r s) :=
  steady_setPair s _ _ rfl

theorem rules_takeReference {l : LaneId} {s : State} (on : inLockOrFade s l = true) (granted : Bool) (r : FrameRecord) :
    RulesKept s (takeReference l granted r s) := by
  have led := steady_refLed l s
  rw [takeReference_eq]
  exact ((RulesKept.of_steady led).trans (rules_pathTaken ((led.inLockOrFade l).trans on) granted r)).trans
    (.of_steady (steady_counterTaken l r _))

theorem rules_switchReference {l : LaneId} {s : State} (on : inLockOrFade s l = true) (r : FrameRecord) :
    RulesKept s (switchReference l r s) := by
  have led : Steady s (refLed l (decideAll (pairOf l) s)) := (steady_decideAll _ s).trans (steady_refLed l _)
  have switched : RulesKept (refLed l (decideAll (pairOf l) s)) (pathSwitched l r (decideAll (pairOf l) s)) := by
    unfold pathSwitched
    split
    · exact rules_layoutChange ((led.inLockOrFade l).trans on) r
    · split
      · exact .of_steady (steady_setPathLayout l r _)
      · exact .of_steady ((steady_setPathLayout l r _).trans (steady_beginAgain _ _))
  rw [switchReference_eq]
  exact ((RulesKept.of_steady led).trans switched).trans (.of_steady (steady_counterTaken l r _))

end Sys2Proof.Machine
end

section
/-! SUPPORT. The rules of the pages through every event of a lane (Chapter 2): SEARCH, MODE and SYNC own no page, a grant
comes with the entry to LOCK, and LOCK and FADE go on serving their path. One lemma per function of the model, in its order. -/

namespace Sys2Proof.Machine

/-! ### SEARCH and MODE (2.3, 2.4) -/

/-- A lane that seeks its signal: neither OFF nor in LOCK or FADE. -/
def Seeking (s : State) (l : LaneId) : Prop := (s.lane l).state ≠ .off ∧ inLockOrFade s l = false

theorem seeking_of {s : State} {l : LaneId}
    (h : (s.lane l).state = .search ∨ (s.lane l).state = .mode ∨ (s.lane l).state = .sync) : Seeking s l := by
  unfold Seeking inLockOrFade
  rcases h with h | h | h <;> rw [h] <;> exact ⟨LaneState.noConfusion, rfl⟩

theorem Steady.seeking {s t : State} (h : Steady s t) {l : LaneId} (k : Seeking s l) : Seeking t l :=
  ⟨by rw [h.states]; exact k.1, (h.inLockOrFade l).trans k.2⟩

/-- A lane that seeks serves no path, so it may go to any state but OFF. -/
theorem Seeking.rules_setLane {s : State} {l : LaneId} {c : Lane} (h : Seeking s l) (is : c.state ≠ .off) :
    RulesKept s (s.setLane l c) :=
  Machine.rules_setLane h.1 is (fun on => Bool.noConfusion (on.symm.trans h.2))

section
variable {s : State} {l : LaneId} (h : Seeking s l)
include h

theorem rules_advanceSweep : RulesKept s (advanceSweep l s) := by
  have swept (pos : Int) : RulesKept s (s.modLane l (fun c => c.toSearch pos)) := h.rules_setLane LaneState.noConfusion
  unfold advanceSweep
  dsimp only
  split
  · exact (swept _).trans (.of_steady ((steady_modLane _ l _ rfl).trans (steady_raise _ _)))
  · exact swept _

theorem rules_endAttempt : RulesKept s (endAttempt l s) := by
  unfold endAttempt
  dsimp only
  split
  · exact rules_advanceSweep h
  · split
    · exact h.rules_setLane LaneState.noConfusion
    · exact rules_advanceSweep h

theorem rules_modeSymbol : RulesKept s (modeSymbol l s) := by
  unfold modeSymbol
  dsimp only
  split
  · exact rules_advanceSweep h
  · split
    · split
      · exact h.rules_setLane LaneState.noConfusion
      · exact .of_steady (steady_modLane s l _ rfl)
    · exact rules_advanceSweep h

end

/-! ### Entry to LOCK (R28, R29, R75) -/

theorem estate_lockIn (l : LaneId) (fromSync : Bool) (r : FrameRecord) (pilots : List PilotRx) (s : State) :
    (lockIn l fromSync r pilots s).estate = s.estate := by simp [lockIn]

theorem state_lockIn (l : LaneId) (fromSync : Bool) (r : FrameRecord) (pilots : List PilotRx) (s : State) :
    ((lockIn l fromSync r pilots s).lane l).state = .lock := by
  have raised (n : Nat) (b : State) : (raise n b).lane l = b.lane l := rfl
  rw [lockIn, lane_congr (follow_lanes _), raised, lane_modLane_self]

theorem on_lockIn (l : LaneId) (fromSync : Bool) (r : FrameRecord) (pilots : List PilotRx) (s : State) :
    inLockOrFade (lockIn l fromSync r pilots s) l = true := (inLockOrFade_iff _ l).mpr (.inl (state_lockIn ..))

theorem rules_lockIn {l : LaneId} {s : State} (was : (s.lane l).state ≠ .off) (fromSync : Bool) (r : FrameRecord)
    (pilots : List PilotRx) : RulesKept s (lockIn l fromSync r pilots s) := by
  refine .trans (rules_setLane was ?_ (fun _ => .inl (.inl ?_)))
    (.of_steady ((steady_raise (evLocked l) _).trans (steady_follow _)))
  · exact LaneState.noConfusion
  · rfl

theorem rules_pathAtEntry {l : LaneId} {s : State} (on : inLockOrFade s l = true) (granted : Bool) (r : FrameRecord) :
    RulesKept s (pathAtEntry l granted r s) := by
  unfold pathAtEntry
  split
  · split
    · exact rules_takeReference on granted r
    · exact .refl s
  · split
    · exact .of_steady ((steady_abandonGroup l s).trans (steady_beginGroup l _ _))
    · exact .of_steady (steady_beginAgain l s)

theorem rules_lockFromSync {l : LaneId} {s : State} (was : (s.lane l).state ≠ .off) (granted : Bool) (r : FrameRecord)
    (pilots : List PilotRx) : RulesKept s (lockFromSync l granted r pilots s) :=
  (rules_lockIn was true r pilots).trans (rules_pathAtEntry (on_lockIn ..) granted r)

/-- Pages granted to the path of a lane that enters LOCK: as if granted once it is in LOCK (R28, R83). -/
theorem rules_lockFromSync_granted {l : LaneId} {s : State} {n : Nat} (was : (s.lane l).state ≠ .off)
    (grants : s.pool.grants (pathOf s l) n = true) (r : FrameRecord) (pilots : List PilotRx) :
    RulesKept s (lockFromSync l true r pilots { s with pool := s.pool.grant (pathOf s l) n }) := by
  have kept : PoolKept s (lockIn l true r pilots s) := (poolKept_setLane s l _).trans
    ((steady_raise (evLocked l) _).trans (steady_follow _)).kept
  have same : (lockIn l true r pilots s).pairs = s.pairs ∧ (lockIn l true r pilots s).pool = s.pool :=
    Prod.mk.inj (estate_lockIn l true r pilots s)
  have served : Served (lockIn l true r pilots s) (pathOf s l) :=
    kept.pathOf l ▸ (served_pathOf _ l).mpr (.inl (on_lockIn ..))
  have granted := rules_grant ((kept.pathOf _).trans (pathOf_pathOf s l)) served (n := n) (by rwa [same.2])
  have swapped : Steady { lockIn l true r pilots s with pool := (lockIn l true r pilots s).pool.grant (pathOf s l) n }
      (lockIn l true r pilots { s with pool := s.pool.grant (pathOf s l) n }) := by
    refine .of_estate ?_ ((estate_lockIn ..).trans ?_)
    · rw [lockIn, lockIn, follow_lanes, follow_lanes]; rfl
    · rw [estate_mk, estate_mk, same.1, same.2]
  exact ((rules_lockIn was true r pilots).trans (granted.trans (.of_steady swapped))).trans
    (rules_pathAtEntry (on_lockIn ..) true r)

theorem rules_recover {l : LaneId} {s : State} (was : (s.lane l).state ≠ .off) (r : FrameRecord) :
    RulesKept s (recover l r s) := by
  have on := on_lockIn l false r [] s
  have checked (p : LaneId) (b : State) (still : inLockOrFade b l = true) :
      RulesKept b (checkLayout l (pathParams s (pathOf s l)) r (beginAgain p b)) :=
    (RulesKept.of_steady (steady_beginAgain p b)).trans
      (rules_checkLayout (((steady_beginAgain p b).inLockOrFade l).trans still) _ r)
  refine (rules_lockIn was false r []).trans ?_
  rw [recover_eq rfl]
  split
  · split
    · exact rules_takeReference on false r
    · split
      · exact (checked _ _ on).trans (.of_steady (steady_modPair _ _ _ rfl))
      · exact .refl _
  · exact checked l _ on

/-! ### SYNC (2.5) -/

section
variable {s : State} {l : LaneId} (h : Seeking s l)
include h

omit h in
theorem requestPages_granted {p : LaneId} {n : Nat} {b : State} (grants : b.pool.grants p n = true) :
    requestPages p n b = (true, { b with pool := b.pool.grant p n }) := if_pos grants

omit h in
theorem requestPages_refused {p : LaneId} {n : Nat} {b : State} (refuses : b.pool.grants p n = false) :
    requestPages p n b = (false, b) := if_neg (ne_true_of_eq_false refuses)

/-- A VALID record in SYNC locks, with pages or with a grant, or leaves a reason (R28). -/
theorem rules_syncValid (r : FrameRecord) (pilots : List PilotRx) : RulesKept s (syncValid l r pilots s) := by
  unfold syncValid
  dsimp only
  split
  · exact .of_steady (steady_modLane s l _ rfl)
  next z _ =>
    split
    · exact rules_lockFromSync h.1 false r pilots
    · cases grants : s.pool.grants (pathOf s l) (pageNeed z.params) with
      | true =>
        simp only [requestPages_granted grants, if_true]
        exact rules_lockFromSync_granted h.1 grants r pilots
      | false =>
        simp only [requestPages_refused grants, Bool.false_eq_true, if_false]
        exact .of_steady ((steady_modLane s l (fun c => { c with reason := .poolShort }) rfl).trans (steady_report _ _ _ _))

theorem rules_syncFailure : RulesKept s (syncFailure l s) := by
  have counted : Steady s (s.modLane l (fun c => { c with noPreamble := 0, preFail := (s.lane l).preFail + 1 })) :=
    steady_modLane s l _ rfl
  unfold syncFailure
  dsimp only
  split
  · exact (RulesKept.of_steady counted).trans (rules_advanceSweep (counted.seeking h))
  · exact .of_steady counted

theorem rules_syncSymbol (x : SymbolRx) : RulesKept s (syncSymbol l x s) := by
  unfold syncSymbol
  split
  · have counted : Steady s (s.modLane l (fun c => { c with noPreamble := (s.lane l).noPreamble + 1 })) :=
      steady_modLane s l _ rfl
    dsimp only
    split
    · exact (RulesKept.of_steady counted).trans (rules_advanceSweep (counted.seeking h))
    · exact .of_steady counted
  · exact rules_syncFailure h
  next k _ =>
    have told : Steady s (report (srcLane l) .layoutBad k (s.modLane l (fun c => { c with reason := .layoutBad }))) :=
      (steady_modLane s l (fun c => { c with reason := .layoutBad }) rfl).trans (steady_report _ _ _ _)
    exact (RulesKept.of_steady told).trans (rules_syncFailure (told.seeking h))
  next r _ =>
    have cleared : Steady s (s.modLane l (fun c => { c with noPreamble := 0, preFail := 0 })) := steady_modLane s l _ rfl
    exact (RulesKept.of_steady cleared).trans (rules_syncValid (cleared.seeking h) r _)

end

/-! ### LOCK and FADE (2.6, 2.7) -/

section
variable {s : State} {l : LaneId} (on : inLockOrFade s l = true)
include on

theorem rules_dataSymbol (k : Candidate) (y : Layout) (x : SymbolRx) : RulesKept s (dataSymbol l k y x s) := by
  have delivered := steady_symbolDelivered l k y x s
  rw [dataSymbol_eq]
  split
  · exact (RulesKept.of_steady delivered).trans (rules_enterFade ((delivered.inLockOrFade l).trans on) _)
  · exact .of_steady delivered

theorem rules_drivingPreamble (last : Nat) (held : Option PipeParams) (r : FrameRecord) :
    RulesKept s (drivingPreamble l last held r s) := by
  have begun : Steady s (framesOn l last r s) := by
    unfold framesOn
    split
    · exact .refl s
    · exact steady_beginAgain _ s
  rw [drivingPreamble_eq]
  exact (RulesKept.of_steady begun).trans (rules_checkLayout ((begun.inLockOrFade l).trans on) held r)

theorem rules_validExpected (y : Layout) (r : FrameRecord) : RulesKept s (validExpected l y r s) := by
  have begun : Steady s (frameBegun l r s) := steady_modLane s l (fun c => { c with
    preFail := 0, layout := some (layoutOf (selectId s l) r), frame := startFrame s l r.d true }) rfl
  have still : inLockOrFade (frameBegun l r s) l = true := (begun.inLockOrFade l).trans on
  refine (RulesKept.of_steady begun).trans ?_
  rw [validExpected_eq]
  split
  · split
    · exact rules_takeReference still false r
    · split
      · exact rules_switchReference still r
      · split
        · exact (rules_drivingPreamble still _ _ r).trans (.of_steady (steady_modPair _ _ _ rfl))
        · exact .refl _
  · exact rules_drivingPreamble still _ _ r

theorem rules_failedExpected (y : Layout) (wasInvalid : Bool) : RulesKept s (failedExpected l y wasInvalid s) := by
  have counted : Steady s (s.modLane l (fun c => { c with preFail := (s.lane l).preFail + 1 })) := steady_modLane s l _ rfl
  unfold failedExpected
  dsimp only
  split
  · exact (RulesKept.of_steady counted).trans (rules_enterFade ((counted.inLockOrFade l).trans on) _)
  · exact .of_steady ((counted.trans (steady_abandonIfDriving l _)).trans (steady_modLane _ l _ rfl))

theorem rules_expectedPreamble (y : Layout) (x : SymbolRx) : RulesKept s (expectedPreamble l y x s) := by
  unfold expectedPreamble
  split
  · exact rules_validExpected on y _
  · exact rules_failedExpected on y false
  · exact rules_failedExpected on y false
  next k _ =>
    have told := steady_report (srcLane l) .layoutBad k s
    exact (RulesKept.of_steady told).trans (rules_failedExpected ((told.inLockOrFade l).trans on) y true)

theorem rules_lockSymbol (x : SymbolRx) : RulesKept s (lockSymbol l x s) := by
  have begun := steady_beginLockSymbol l s
  have still : inLockOrFade (beginLockSymbol l s) l = true := (begun.inLockOrFade l).trans on
  refine (RulesKept.of_steady begun).trans ?_
  unfold lockSymbol
  dsimp only
  split
  · split
    · exact rules_dataSymbol still _ _ x
    · exact rules_expectedPreamble still _ x
  · exact .refl _

theorem rules_fadeSymbol (x : SymbolRx) : RulesKept s (fadeSymbol l x s) := by
  have run (n : Nat) : RulesKept s (s.modLane l (fun c => { c with goodRun := n })) := .of_steady (steady_modLane s l _ rfl)
  have longer : RulesKept s (s.modLane l (fun c => { c with goodRun := min 4 (c.goodRun + 1) })) :=
    .of_steady (steady_modLane s l _ rfl)
  unfold fadeSymbol
  dsimp only
  split
  · split
    · exact .of_steady (steady_countBlanked l s)
    · split
      · exact run 0
      · exact longer
  · exact run 0
  · exact run 0
  · split
    · exact rules_recover (ne_off_of_inLockOrFade on) _
    · exact .refl s

end

/-! ### Samples and links (2.1, 2.8) -/

theorem rules_symbolEvent (l : LaneId) (x : SymbolRx) (s : State) : RulesKept s (symbolEvent l x s) := by
  unfold symbolEvent
  split
  next mode => exact rules_modeSymbol (seeking_of (.inr (.inl mode)))
  next sync => exact rules_syncSymbol (seeking_of (.inr (.inr sync))) x
  next lock => exact rules_lockSymbol ((inLockOrFade_iff s l).mpr (.inl lock)) x
  next fade => exact rules_fadeSymbol ((inLockOrFade_iff s l).mpr (.inr fade)) x
  next => exact .refl s
  next => exact .refl s

theorem rules_countSample (l : LaneId) (x : SymbolRx) (s : State) : RulesKept s (countSample l x s) := by
  have timed : RulesKept s (s.modLane l (fun c => { c with toGo := symbolLength c })) :=
    .of_steady (steady_modLane s l _ rfl)
  unfold countSample
  dsimp only
  split
  · exact timed.trans (rules_symbolEvent l x _)
  · exact .of_steady (steady_modLane s l _ rfl)

theorem rules_takeSample (l : LaneId) (i q : Int) (x : SymbolRx) (s : State) : RulesKept s (takeSample l i q x s) := by
  unfold takeSample
  dsimp only
  split
  · exact .refl s
  · split
    · exact .refl s
    next search =>
      have taken : Steady s (s.modLane l (fun c =>
          { c with samples := correctedSample c i q :: c.samples, attempt := c.attempt + 1 })) := steady_modLane s l _ rfl
      split
      · exact (RulesKept.of_steady taken).trans (rules_endAttempt (taken.seeking (seeking_of (.inl search))))
      · exact .of_steady taken
    · have taken : Steady s (s.modLane l (fun c => { c with samples := correctedSample c i q :: c.samples })) :=
        steady_modLane s l _ rfl
      exact (RulesKept.of_steady taken).trans (rules_countSample l x _)
    · exact rules_countSample l x s
    · exact rules_countSample l x s
    · exact rules_countSample l x s

/-- A link that goes down sends a lane back to SEARCH or into FADE, and is reported (R39). -/
theorem rules_laneLinkDown (l : LaneId) (s : State) : RulesKept s (laneLinkDown l s) := by
  have told (code : Nat) (b : State) : RulesKept b (report (srcLane l) .linkDown code b) := .of_steady (steady_report _ _ _ b)
  have reason (b : State) : RulesKept b (b.modLane l (fun c => { c with reason := .linkDown })) :=
    .of_steady (steady_modLane b l _ rfl)
  have swept (seeks : Seeking s l) : RulesKept s (s.modLane l (fun c => c.toSearch c.sweepPos)) :=
    seeks.rules_setLane LaneState.noConfusion
  unfold laneLinkDown
  dsimp only
  split
  · exact .refl s
  · exact (reason s).trans (told _ _)
  next mode => exact ((swept (seeking_of (.inr (.inl mode)))).trans (reason _)).trans (told _ _)
  next sync => exact ((swept (seeking_of (.inr (.inr sync)))).trans (reason _)).trans (told _ _)
  next lock => exact (rules_enterFade ((inLockOrFade_iff s l).mpr (.inl lock)) _).trans (told _ _)
  next fade =>
    have run : RulesKept s (s.modLane l (fun c => { c with goodRun := 0 })) := .of_steady (steady_modLane s l _ rfl)
    exact (run.trans (reason _)).trans (told _ _)

theorem rules_linkLost (l : LaneId) (s : State) : RulesKept s (linkLost l s) := by
  unfold linkLost
  split
  · have noted : Steady s { s with links := s.links.set l false } := .of_estate rfl rfl
    exact (RulesKept.of_steady noted).trans (rules_laneLinkDown l _)
  · exact .refl s

/-! ### Completions of the decoder (6) -/

theorem steady_countCompletion (cw : Codeword) (s : State) : Steady s (countCompletion cw s) := by
  have mapped (ps : List Packet) : Steady s (ps.foldl (fun s p => mapArrival cw.owner.val p s) s) :=
    .of_estate (lanes_foldl _ (fun s p => lanes_mapArrival _ p s) ps s)
      (estate_foldl _ (fun s p => estate_mapArrival _ p s) ps s)
  have counted (b : State) (f : Lane → Lane) (hf : (f (b.lane cw.owner)).state = (b.lane cw.owner).state) (d : Decoder) :
      Steady b { b.modLane cw.owner f with dec := d } := (steady_modLane b cw.owner f hf).trans (.of_estate rfl rfl)
  unfold countCompletion
  dsimp only
  split
  · exact ((mapped _).trans (counted _ _ rfl _)).trans (steady_addWork _ _)
  · exact (mapped _).trans (counted _ _ rfl _)

theorem steady_decodeCompletes (s : State) : Steady s (decodeCompletes s) := by
  have next (b : State) : Steady b (nextTake b) :=
    .trans (t := { b with dec := { b.dec with inflight := none } }) (.of_estate rfl rfl) (steady_takeIfIdle _)
  unfold decodeCompletes
  split
  · exact .refl s
  next cw _ =>
    split
    · refine .trans ?_ (next _)
      split
      · exact .refl s
      · exact steady_countCompletion cw s
    · exact .refl s

end Sys2Proof.Machine
end

section
/-! SUPPORT. The rules of the pages through the rest of an event (log 11), the resets (R42, R196), and the requests on lanes,
pairs and the pool (R20, R21, R71, R72, R86). -/

namespace Sys2Proof.Machine

/-- Work that leaves the lanes, the pairs and the pool keeps the rules of the pages. -/
theorem RulesKept.of_off {s t : State} (lanes : t.lanes = s.lanes) (estate : t.estate = s.estate) : RulesKept s t :=
  .of_steady (.of_estate lanes estate)

/-! ### The rest of an event (log 11) -/

theorem steady_followPair (s : State) (p : PairId) : Steady s (followPair s p) := by
  unfold followPair
  split
  · exact steady_setPairState p _ s
  · exact .refl s

theorem steady_followAll (s : State) : Steady s (followAll s) :=
  ((steady_followPair s 0).trans (steady_followPair _ 1)).trans (steady_follow _)

theorem rules_performAction (t : TimerId) (s : State) : RulesKept s (performAction t s) := by
  unfold performAction
  dsimp only
  split
  · split
    · exact rules_research _ s
    · exact .refl s
  · split
    · exact .of_off rfl rfl
    · exact .refl s
  · exact .refl s

theorem rules_deliver (s : State) (w : Work) : RulesKept s (deliver s w) := by
  cases w with
  | occ src => exact .of_off (lanes_occur src s) (estate_occur src s)
  | act t => exact rules_performAction t s

theorem rules_handOn (s : State) : RulesKept s (handOn s) :=
  List.foldlRecOn (motive := RulesKept s) s.work deliver (b := { s with work := [] }) (.of_off rfl rfl)
    (fun t kept w _ => kept.trans (rules_deliver t w))

theorem rules_settle (n : Nat) (s : State) : RulesKept s (settle n s) := by
  induction n generalizing s with
  | zero => exact .refl s
  | succ n ih =>
    have followed : RulesKept s (followAll s) := .of_steady (steady_followAll s)
    rw [settle_succ]
    split
    · exact (followed.trans (rules_handOn _)).trans (ih _)
    · split
      · exact (followed.trans (.of_off (lanes_buildNotice _) (estate_buildNotice _))).trans (ih _)
      · exact followed

theorem rules_afterEvent (s : State) : RulesKept s (afterEvent s) := rules_settle _ s

/-! ### Resets (R42, R196) -/

/-- A reset leaves every page FREE and no pair formed; page contents stay (R82; log 34). -/
theorem RulesKept.of_reset {s t : State} (pairs : t.pairs = State.reset.pairs)
    (pool : t.pool = { Pool.reset with cells := s.pool.cells }) : RulesKept s t where
  cells := fun h => (congrArg (fun p : Pool => cellsWf p.cells) pool).trans h
  law := fun _ => (congrArg poolLaw pool).trans poolLaw_reset
  pairs := fun _ => (pairsOk_iff t).mpr (fun l pair => by
    rw [paired, pairAt_congr pairs, pairAt_reset] at pair
    exact Bool.noConfusion pair)
  owners := fun _ _ => (ownersOk_iff t).mpr (fun l some_owned => by
    rw [pool] at some_owned
    exact absurd (owned_reset l) some_owned)

theorem rules_answerPartReset (h : ReqHdr) (s : State) : RulesKept s (answerPartReset h s) := by
  have reset : RulesKept s (softReset s) := .of_reset rfl rfl
  exact (reset.trans (.of_off (lanes_sendReply _ _ _ _) (estate_sendReply _ _ _ _))).trans
    (.of_off (lanes_relayFirst h _) (estate_relayFirst h _))

/-! ### LANE SETUP, START, STOP and READ (R19 to R22) -/

/-- The lanes of a path change together to OFF or together from it; the path has no page, or is served by none. -/
theorem rules_modLanes {l : LaneId} {f : Lane → Lane} {s : State}
    (alike : ∀ c d, (f c).state = .off ↔ (f d).state = .off)
    (idle : pairsOk s = true → s.pool.owned (pathOf s l) ≠ 0 → ¬Served s l) : RulesKept s (modLanes l f s) := by
  have kept : PoolKept s (modLanes l f s) := by
    rw [modLanes_rest]
    exact ⟨fun _ => rfl, rfl, rfl, id⟩
  refine .of_path (l := l) kept (fun k own partner => ?_) (fun _ pair => ?_)
    (fun pairs owned served => absurd served (idle pairs owned))
  · have apart : paired s l = false ∨ k ≠ partnerOf l := by
      rw [← Bool.not_eq_true]
      exact not_and_or.mp partner
    rw [lane_modLanes_other f own apart]
  · rw [lane_modLanes_member f (.inl rfl), lane_modLanes_member f (.inr ⟨pair, rfl⟩)]
    exact alike _ _

theorem rules_doLaneSetup (lane : Nat) (f : SetupForm) (s : State) : RulesKept s (doLaneSetup lane f s).1 := by
  unfold doLaneSetup
  split
  · exact .refl s
  · split
    · exact .refl s
    · dsimp only
      split
      · exact .of_steady (steady_modLane s _ (fun c => { c with setup := clampSetup f }) rfl)
      · exact .refl s

/-- A lane that is OFF, and its partner with it, serves no path. -/
theorem not_served_of_off {s : State} {l : LaneId} (pairs : pairsOk s = true) (off : (s.lane l).state = .off) :
    ¬Served s l := by
  rintro (mine | ⟨pair, theirs⟩)
  · exact ne_off_of_inLockOrFade mine off
  · exact ne_off_of_inLockOrFade theirs (((pairsOk_iff s).mp pairs l pair).mp off)

theorem asLane_eq_some {lane : Nat} {l : LaneId} (h : asLane lane = some l) : lane = l.val := by
  unfold asLane at h
  split at h
  · rw [← Option.some.inj h]
  · cases h

theorem rules_doLaneStart (lane : Nat) (s : State) : RulesKept s (doLaneStart lane s).1 := by
  cases found : asLane lane with
  | none => rw [doLaneStart, found]; exact .refl s
  | some l =>
    obtain rfl := asLane_eq_some found
    cases second : isSecondary s l with
    | true => rw [doLaneStart_secondary second]; exact .refl s
    | false =>
      by_cases off : (s.lane l).state = .off
      · rw [doLaneStart_off second off]
        exact rules_modLanes (fun _ _ => Iff.rfl) (fun pairs _ => not_served_of_off pairs off)
      · rw [doLaneStart_busy second off]
        exact .refl s

theorem rules_stopLane {l : LaneId} {s : State} (h : isSecondary s l = false) : RulesKept s (stopLane l s) := by
  have given := steady_pathGivenUp l false s
  have marked : Steady (pathGivenUp l false s) (markCodeword l (pathGivenUp l false s)) := by
    rw [markCodeword_eq]
    exact .of_estate rfl rfl
  have empty : (markCodeword l (pathGivenUp l false s)).pool.owned
      (pathOf (markCodeword l (pathGivenUp l false s)) l) = 0 := by
    rw [(given.trans marked).kept.pathOf, marked.kept.owned]
    exact owned_pathGivenUp l false s
  rw [stopLane_eq h]
  exact ((rules_pathGivenUp l false s).trans (.of_steady marked)).trans
    (rules_modLanes (fun _ _ => Iff.rfl) (fun _ owned => absurd empty owned))

theorem rules_doLaneStop (lane : Nat) (s : State) : RulesKept s (doLaneStop lane s).1 := by
  cases found : asLane lane with
  | none => rw [doLaneStop, found]; exact .refl s
  | some l =>
    obtain rfl := asLane_eq_some found
    cases second : isSecondary s l with
    | true => rw [doLaneStop_secondary second]; exact .refl s
    | false =>
      by_cases off : (s.lane l).state = .off
      · rw [doLaneStop_off second off]; exact .refl s
      · rw [doLaneStop_on second off]; exact rules_stopLane second

theorem rules_doLaneRead (lane : Nat) (clear : Bool) (s : State) : RulesKept s (doLaneRead lane clear s).1 := by
  unfold doLaneRead
  split
  · exact .refl s
  · dsimp only
    split
    · exact .of_steady (steady_modLane s _ _ rfl)
    · exact .refl s

/-! ### PAIR and UNPAIR (R71, R72) -/

theorem ne_of_pairOf {l : LaneId} {p : PairId} (h : pairOf l ≠ p) : l ≠ primaryOf p ∧ l ≠ secondaryOf p := by
  revert l p; decide

theorem eq_of_pairOf {l : LaneId} {p : PairId} (h : pairOf l = p) : l = primaryOf p ∨ l = secondaryOf p := by
  revert l p; decide

/-- One pair is formed, with its lanes OFF, or dissolved; the other pair's lanes stay as they are. -/
theorem RulesKept.of_pair {s t : State} {p : PairId} (cells : t.pool.cells = s.pool.cells)
    (law : poolLaw s.pool = true → poolLaw t.pool = true)
    (others : ∀ k, pairOf k ≠ p → (t.lane k).state = (s.lane k).state)
    (formed : ∀ q, q ≠ p → (t.pairAt q).formed = (s.pairAt q).formed)
    (off : (t.pairAt p).formed = true → ∀ k, pairOf k = p → (t.lane k).state = .off)
    (owned : ∀ k, t.pool.owned k ≠ 0 → s.pool.owned k ≠ 0)
    (owners : ∀ k, pairOf k = p → t.pool.owned k ≠ 0 → pathOf s k = k → Served s k → pathOf t k = k ∧ Served t k) :
    RulesKept s t where
  cells := fun h => (congrArg cellsWf cells).trans h
  law := law
  pairs := fun pairs => (pairsOk_iff t).mpr (fun k pair => by
    by_cases mine : pairOf k = p
    · rw [off (mine ▸ pair) k mine, off (mine ▸ pair) _ ((pairOf_partnerOf k).trans mine)]
    · rw [others k mine, others _ ((pairOf_partnerOf k).symm ▸ mine)]
      exact (pairsOk_iff s).mp pairs k ((formed _ mine).symm.trans pair))
  owners := fun _ all => (ownersOk_iff t).mpr (fun k some_owned => by
    obtain ⟨holds, served⟩ := (ownersOk_iff s).mp all k (owned k some_owned)
    by_cases mine : pairOf k = p
    · exact owners k mine some_owned holds served
    · have pair : paired t k = paired s k := formed _ mine
      have on : inLockOrFade t k = inLockOrFade s k := inLockOrFade_congr (others k mine)
      have partner : inLockOrFade t (partnerOf k) = inLockOrFade s (partnerOf k) :=
        inLockOrFade_congr (others _ ((pairOf_partnerOf k).symm ▸ mine))
      exact ⟨by rw [pathOf, pair]; exact holds, by rw [Served, pair, on, partner]; exact served⟩)

theorem rules_doPair (n : Nat) (s : State) : RulesKept s (doPair n s).1 := by
  cases found : asPair n with
  | none => rw [doPair, found]; exact .refl s
  | some p =>
    simp only [doPair, found]
    split
    · exact .refl s
    next idle =>
      obtain ⟨first, second⟩ := not_or.mp idle
      have off (k : LaneId) (mine : pairOf k = p) : (s.lane k).state = .off := by
        rcases eq_of_pairOf mine with rfl | rfl
        · exact not_not.mp first
        · exact not_not.mp second
      split
      · exact .refl s
      · refine .of_pair (p := p) rfl id (fun _ _ => rfl) (fun q hq => by rw [pairAt_setPair_ne _ _ _ _ hq]) (fun _ => off)
          (fun _ => id) (fun k mine _ _ served => ?_)
        rcases served with on | ⟨-, on⟩
        · exact absurd (off k mine) (ne_off_of_inLockOrFade on)
        · exact absurd (off _ ((pairOf_partnerOf k).trans mine)) (ne_off_of_inLockOrFade on)

/-- The pages of a pair that is dissolved stay with its primary while that is in LOCK or FADE, else they are FREE (R72). -/
theorem rules_unpairNow {p : PairId} {s : State} (formed : (s.pairAt p).formed = true) : RulesKept s (unpairNow p s) := by
  have single : ((unpairNow p s).pairAt p).formed = false := by rw [pairAt_unpairNow_self formed]
  have others (k : LaneId) (other : pairOf k ≠ p) : ((unpairNow p s).lane k).state = (s.lane k).state := by
    rw [lane_unpairNow_other formed (ne_of_pairOf other).1 (ne_of_pairOf other).2]
  have unpaired (k : LaneId) (mine : pairOf k = p) : paired (unpairNow p s) k = false := by rw [paired, mine, single]
  have primary {k : LaneId} (mine : pairOf k = p) (holds : pathOf s k = k) : k = primaryOf p := by
    have pair : paired s k = true := by rw [paired, mine, formed]
    exact holds.symm.trans ((pathOf_paired pair).trans (congrArg primaryOf mine))
  cases serves : inLockOrFade s (primaryOf p) with
  | true =>
    obtain ⟨pool, -, lane⟩ := unpairNow_serving formed serves
    have state : ((unpairNow p s).lane (primaryOf p)).state = (s.lane (primaryOf p)).state := by rw [lane]
    have on : inLockOrFade (unpairNow p s) (primaryOf p) = true := (inLockOrFade_congr state).trans serves
    refine .of_pair (p := p) (by rw [pool]) (by rw [pool]; exact id) others
      (fun q hq => by rw [pairAt_unpairNow_other formed hq]) (fun again => Bool.noConfusion (single.symm.trans again))
      (fun k => by rw [pool]; exact id) (fun k mine _ holds _ => ⟨pathOf_single (unpaired k mine), .inl ?_⟩)
    rw [primary mine holds]
    exact on
  | false =>
    obtain ⟨pool, -⟩ := unpairNow_idle serves
    rw [Pool.release_eq_shrink] at pool
    have left (k : LaneId) : (unpairNow p s).pool.owned k = if k = primaryOf p then 0 else s.pool.owned k := by
      rw [pool, Pool.owned_shrink, Nat.zero_min]
    refine .of_pair (p := p) (by rw [pool]; rfl) (fun law => by rw [pool]; exact poolLaw_shrink law _ _) others
      (fun q hq => by rw [pairAt_unpairNow_other formed hq]) (fun again => Bool.noConfusion (single.symm.trans again))
      (fun k owned => ?_) (fun k mine owned holds _ => ?_)
    · rw [left] at owned
      split at owned
      · exact absurd rfl owned
      · exact owned
    · rw [left, if_pos (primary mine holds)] at owned
      exact absurd rfl owned

theorem rules_doUnpair (n : Nat) (s : State) : RulesKept s (doUnpair n s).1 := by
  unfold doUnpair
  split
  · exact .refl s
  · split
    next formed => exact rules_unpairNow formed
    next => exact .refl s

/-! ### POOL SETUP (R86) -/

/-- New reservations are judged by the law before they replace the old (R85, R86). -/
theorem rules_doPoolSetup (r0 r1 r2 r3 : Nat) (s : State) : RulesKept s (doPoolSetup r0 r1 r2 r3 s).1 := by
  unfold doPoolSetup
  dsimp only
  split
  · exact .refl s
  · split
    · exact .refl s
    next enough =>
      exact rules_pool rfl (fun law => (poolLaw_iff _).mpr ⟨((poolLaw_iff _).mp law).1, Nat.le_of_not_lt enough⟩)
        (fun _ owned => .inl owned)

end Sys2Proof.Machine
end

section
/-! SUPPORT. The rules of the pages through the dictionary of requests (11.5) and every command; and O5. -/

namespace Sys2Proof.Machine

/-- A request whose judging keeps the rules of the pages. -/
def JudgeKeeps (judge : State → State × Answer) : Prop := ∀ s, RulesKept s (judge s).1

/-- A request whose judging leaves the lanes, the pairs and the pool. -/
theorem JudgeKeeps.of_off {judge : State → State × Answer} (lanes : ∀ s, (judge s).1.lanes = s.lanes)
    (estate : ∀ s, (judge s).1.estate = s.estate) : JudgeKeeps judge := fun s => .of_off (lanes s) (estate s)


/-! ### The dictionary (11.5) -/

theorem keeps_doProfileRead (lane : Nat) : JudgeKeeps (doProfileRead lane) := by
  intro s
  unfold doProfileRead
  split <;> exact .refl s

theorem keeps_judgeParams (tag code : Nat) (ps : List Byte) : JudgeKeeps (judgeParams tag code ps) := by
  have off {judge : State → State × Answer} (s : State) (lanes : ∀ s, (judge s).1.lanes = s.lanes)
      (estate : ∀ s, (judge s).1.estate = s.estate) : RulesKept s (judge s).1 := JudgeKeeps.of_off lanes estate s
  intro s
  unfold judgeParams
  split
  · exact .refl s
  · exact off s (lanes_doPartSetup _ _) (estate_doPartSetup _ _)
  · exact rules_doLaneSetup _ _ s
  · exact rules_doLaneStart _ s
  · exact rules_doLaneStop _ s
  · exact rules_doLaneRead _ _ s
  · exact keeps_doProfileRead _ s
  · exact rules_doPair _ s
  · exact rules_doUnpair _ s
  · exact rules_doPoolSetup _ _ _ _ s
  · exact off s (lanes_doPoolRead _) (estate_doPoolRead _)
  · exact off s (lanes_doDecoderSetup _ _) (estate_doDecoderSetup _ _)
  · exact off s (lanes_doDecoderRead _) (estate_doDecoderRead _)
  · exact .of_off rfl rfl
  · exact off s (lanes_judgeMapEdit _) (estate_judgeMapEdit _)
  · exact off s (lanes_doMapRead _ _ _) (estate_doMapRead _ _ _)
  · exact off s (lanes_doMapInvalidate _ _ _ _) (estate_doMapInvalidate _ _ _ _)
  · exact off s (lanes_doOriginSetup _ _) (estate_doOriginSetup _ _)
  · exact .refl s
  · exact off s (lanes_doPortSetup _ _ _ _ _) (estate_doPortSetup _ _ _ _ _)
  · exact off s (lanes_doPortStop _ _) (estate_doPortStop _ _)
  · exact off s (lanes_doPortStart _) (estate_doPortStart _)
  · exact off s (lanes_doPortFlush _) (estate_doPortFlush _)
  · exact off s (lanes_doPortRead _ _) (estate_doPortRead _ _)
  · exact off s (lanes_doMonitorSetup _ _) (estate_doMonitorSetup _ _)
  · exact off s (lanes_doMonitorArm _) (estate_doMonitorArm _)
  · exact off s (lanes_doMonitorRead _ _ _) (estate_doMonitorRead _ _ _)
  · exact off s (lanes_doTimerSetup _ _) (estate_doTimerSetup _ _)
  · exact off s (lanes_doTimerStart _) (estate_doTimerStart _)
  · exact off s (lanes_doTimerStop _) (estate_doTimerStop _)
  · exact off s (lanes_doTimerRead _ _) (estate_doTimerRead _ _)
  · exact .of_off rfl rfl
  · exact .refl s
  · exact .of_off rfl rfl
  · exact .refl s
  · exact .of_off rfl rfl
  · exact .refl s

theorem keeps_judgeRequest (tag code len : Nat) (ps : List Byte) : JudgeKeeps (judgeRequest tag code len ps) := by
  intro s
  unfold judgeRequest
  split
  · unfold judgeMapLoad
    split
    · exact .of_off (lanes_doMapLoad _ s) (estate_doMapLoad _ s)
    · exact .of_off (lanes_failLoad _ _ s) (estate_failLoad _ _ s)
  · split
    · exact .refl s
    · split
      · exact keeps_judgeParams tag code ps s
      · exact .refl s

/-! ### Requests and units on the chain (R151, R186 to R190) -/

theorem rules_sendReply (tag code : Nat) (r : Reply) (s : State) : RulesKept s (sendReply tag code r s) :=
  .of_off (lanes_sendReply tag code r s) (estate_sendReply tag code r s)

theorem rules_answerRequest (r : ReqHdr) (code : Nat) {judge : State → State × Answer} (keeps : JudgeKeeps judge)
    (s : State) : RulesKept s (answerRequest r code judge s) := by
  have judged : RulesKept s (judge (relayFirst r s)).1 :=
    (RulesKept.of_off (lanes_relayFirst r s) (estate_relayFirst r s)).trans (keeps _)
  unfold answerRequest placeReply
  split
  · exact judged.trans (rules_sendReply _ _ _ _)
  · exact judged

theorem rules_mgmtArrival (pkt : Packet) (s : State) : RulesKept s (mgmtArrival pkt s) := by
  have forwarded : RulesKept s (forward pkt s) := .of_off (lanes_forward pkt s) (estate_forward pkt s)
  have taken (relay : Option Packet) : RulesKept s (takeWireRequest relay pkt s) := by
    unfold takeWireRequest
    dsimp only
    split
    · exact rules_answerPartReset _ s
    · exact rules_answerRequest _ _ (keeps_judgeRequest _ _ _ _) s
  unfold mgmtArrival
  split
  · exact forwarded
  · split
    · exact taken (some pkt)
    · split
      · exact taken none
      · exact forwarded

theorem rules_handUnit (u : Packet) (s : State) : RulesKept s (handUnit u s) := by
  unfold handUnit
  split
  · exact rules_mgmtArrival u s
  · exact .of_off (lanes_mapArrival 4 u s) (estate_mapArrival 4 u s)

theorem rules_frameUnit (u : Packet) (s : State) : RulesKept s (frameUnit u s) := by
  have run (ci : ChainIn) : RulesKept s { s with ci := ci } := .of_off rfl rfl
  have handed (ci : ChainIn) : RulesKept s (handUnit u { s with ci := ci }) := (run ci).trans (rules_handUnit u _)
  unfold frameUnit
  dsimp only
  split
  · split
    · exact handed _
    · split
      · exact (run _).trans (.of_steady (steady_report _ _ _ _))
      · exact run _
  · split
    · split
      · exact handed _
      · exact run _
    · exact run _

theorem rules_renewHold (s : State) : RulesKept s (renewHold s) := by
  unfold renewHold
  split
  · exact .of_off rfl rfl
  · exact .refl s

/-! ### Every command -/

/-- A command keeps the rules of the pages. -/
def CommandKeepsRules (c : Instr) (s : State) : Prop := ∀ t, exec c s = .next t → RulesKept s t

theorem CommandKeepsRules.of_event {c : Instr} {a s : State} (runs : exec c s = .next (afterEvent a))
    (kept : RulesKept s a) : CommandKeepsRules c s := by
  intro t ht
  obtain rfl := Host.Outcome.next.inj (runs.symm.trans ht)
  exact kept.trans (rules_afterEvent a)

theorem CommandKeepsRules.of_request {c : Instr} {r : ReqHdr} {code : Nat} {judge : State → State × Answer} {s : State}
    (runs : exec c s = .next (takeRequest r code judge s)) (keeps : JudgeKeeps judge) : CommandKeepsRules c s :=
  .of_event runs (rules_answerRequest r code keeps s)

/-- Every command keeps the rules of the pages. -/
theorem exec_keeps_rules (c : Instr) (s : State) : CommandKeepsRules c s := by
  cases c with
  | powerUpReset straps => intro t ht; cases ht; exact .of_reset rfl rfl
  | tick straps => exact .of_event rfl (.of_off (lanes_tickAll straps s) (estate_tickAll straps s))
  | linkDown l => exact .of_event rfl (rules_linkLost l s)
  | linkUp l => exact .of_event (a := linkFound l s) rfl (.of_off rfl rfl)
  | sampleArrival l i q x => exact .of_event rfl (rules_takeSample l i q x s)
  | holdoffExpiry l => exact .of_event rfl (rules_holdoffExpires l s)
  | decodeCompletion _ => exact .of_event rfl (.of_steady (steady_decodeCompletes s))
  | slotEvent p => exact .of_event rfl (.of_off (lanes_slotWhenDue p s) (estate_slotWhenDue p s))
  | coHoldAssert => exact .of_event (a := { s with co := { s.co with held := true } }) rfl (.of_off rfl rfl)
  | coHoldRelease => exact .of_event (a := { s with co := { s.co with held := false } }) rfl (.of_off rfl rfl)
  | ciUnitArrival u => exact .of_event rfl ((rules_renewHold s).trans (rules_frameUnit u _))
  | timerExpiry t => exact .of_event rfl (.of_off (lanes_timerExpires t s) (estate_timerExpires t s))
  | partReset r => exact .of_event rfl (rules_answerPartReset r s)
  | laneSetup r lane f => exact .of_request rfl (rules_doLaneSetup lane f)
  | laneStart r lane => exact .of_request rfl (rules_doLaneStart lane)
  | laneStop r lane => exact .of_request rfl (rules_doLaneStop lane)
  | laneRead r lane clear => exact .of_request rfl (rules_doLaneRead lane clear)
  | profileRead r lane => exact .of_request rfl (keeps_doProfileRead lane)
  | pair r p => exact .of_request rfl (rules_doPair p)
  | unpair r p => exact .of_request rfl (rules_doUnpair p)
  | poolSetup r r0 r1 r2 r3 => exact .of_request rfl (rules_doPoolSetup r0 r1 r2 r3)
  | ident r => exact .of_request rfl .refl
  | partSetup r id notices => exact .of_request rfl (.of_off (lanes_doPartSetup id notices) (estate_doPartSetup id notices))
  | poolRead r start => exact .of_request rfl (.of_off (lanes_doPoolRead start) (estate_doPoolRead start))
  | decoderSetup r high low => exact .of_request rfl (.of_off (lanes_doDecoderSetup high low) (estate_doDecoderSetup high low))
  | decoderRead r clear => exact .of_request rfl (.of_off (lanes_doDecoderRead clear) (estate_doDecoderRead clear))
  | mapLoad r g => exact .of_request rfl (.of_off (lanes_doMapLoad g) (estate_doMapLoad g))
  | mapAbort r => exact .of_request rfl (.of_off (fun _ => rfl) (fun _ => rfl))
  | mapEditAdd r e => exact .of_request rfl (.of_off (lanes_doMapEditAdd e) (estate_doMapEditAdd e))
  | mapEditReplace r e => exact .of_request rfl (.of_off (lanes_doMapEditReplace e) (estate_doMapEditReplace e))
  | mapEditRemove r e => exact .of_request rfl (.of_off (lanes_doMapEditRemove e) (estate_doMapEditRemove e))
  | mapRead r first count clear =>
    exact .of_request rfl (.of_off (lanes_doMapRead first count clear) (estate_doMapRead first count clear))
  | mapInvalidate r granularity origin id m =>
    exact .of_request rfl (.of_off (lanes_doMapInvalidate granularity origin id m)
      (estate_doMapInvalidate granularity origin id m))
  | originSetup r origin f => exact .of_request rfl (.of_off (lanes_doOriginSetup origin f) (estate_doOriginSetup origin f))
  | originRead r => exact .of_request rfl .refl
  | portSetup r port interval high low limit =>
    exact .of_request rfl (.of_off (lanes_doPortSetup port interval high low limit)
      (estate_doPortSetup port interval high low limit))
  | portStop r port => exact .of_request rfl (.of_off (lanes_doPortStop port r.tag) (estate_doPortStop port r.tag))
  | portStart r port => exact .of_request rfl (.of_off (lanes_doPortStart port) (estate_doPortStart port))
  | portFlush r port => exact .of_request rfl (.of_off (lanes_doPortFlush port) (estate_doPortFlush port))
  | portRead r port clear => exact .of_request rfl (.of_off (lanes_doPortRead port clear) (estate_doPortRead port clear))
  | monitorSetup r monitor f =>
    exact .of_request rfl (.of_off (lanes_doMonitorSetup monitor f) (estate_doMonitorSetup monitor f))
  | monitorArm r monitor => exact .of_request rfl (.of_off (lanes_doMonitorArm monitor) (estate_doMonitorArm monitor))
  | monitorRead r monitor part clear =>
    exact .of_request rfl (.of_off (lanes_doMonitorRead monitor part clear) (estate_doMonitorRead monitor part clear))
  | timerSetup r timer f => exact .of_request rfl (.of_off (lanes_doTimerSetup timer f) (estate_doTimerSetup timer f))
  | timerStart r timer => exact .of_request rfl (.of_off (lanes_doTimerStart timer) (estate_doTimerStart timer))
  | timerStop r timer => exact .of_request rfl (.of_off (lanes_doTimerStop timer) (estate_doTimerStop timer))
  | timerRead r timer clear => exact .of_request rfl (.of_off (lanes_doTimerRead timer clear) (estate_doTimerRead timer clear))
  | eventEnable r enables => exact .of_request rfl (.of_off (fun _ => rfl) (fun _ => rfl))
  | eventRead r => exact .of_request rfl .refl
  | eventClear r named => exact .of_request rfl (.of_off (fun _ => rfl) (fun _ => rfl))
  | faultRead r => exact .of_request rfl .refl
  | faultClear r all places => exact .of_request rfl (.of_off (fun _ => rfl) (fun _ => rfl))

theorem step_keeps_rules {s t : State} (h : step s = .next t) : RulesKept s t := by
  rcases step_cases h with rfl | ⟨c, rest, -, run⟩
  · exact .refl t
  · have taken : RulesKept s { s with pending := rest } := .of_off rfl rfl
    exact taken.trans (exec_keeps_rules c _ t run)

/-- Settles O5: a step keeps each rule, by the events of a lane, the requests and the resets. -/
theorem poolRulesHold : Obligations.PoolRulesHold :=
  ⟨fun _ _ h ht => (step_keeps_rules ht).cells h, fun _ _ h ht => (step_keeps_rules ht).law h,
    fun _ _ h ht => (step_keeps_rules ht).pairs h, fun _ _ pairs h ht => (step_keeps_rules ht).owners pairs h⟩

end Sys2Proof.Machine
end

section
/-! SUPPORT. POOL SETUP and DECODER SETUP (R86, R101, R113), by what their values are judged by; and O26. -/

namespace Sys2Proof.Machine

/-! ### POOL SETUP (R86) -/

section
variable {r0 r1 r2 r3 : Nat} {s : State}

/-- The sum of reservations that are judged before they replace the old (R86). -/
def askedFor (v : Vector Nat 4) : Nat := v[0] + v[1] + v[2] + v[3]

theorem doPoolSetup_above (h : 1024 < askedFor (clampReservations r0 r1 r2 r3)) :
    doPoolSetup r0 r1 r2 r3 s = (s, .now (.refused .capacity)) := if_pos h

theorem doPoolSetup_unmet (sum : askedFor (clampReservations r0 r1 r2 r3) ≤ 1024)
    (h : s.pool.freeCount < { s.pool with reserved := clampReservations r0 r1 r2 r3 : Pool }.unmetSum) :
    doPoolSetup r0 r1 r2 r3 s = (s, .now (.refused .capacity)) :=
  (if_neg (Nat.not_lt.mpr sum)).trans (if_pos h)

theorem doPoolSetup_taken (sum : askedFor (clampReservations r0 r1 r2 r3) ≤ 1024)
    (h : { s.pool with reserved := clampReservations r0 r1 r2 r3 : Pool }.unmetSum ≤ s.pool.freeCount) :
    doPoolSetup r0 r1 r2 r3 s = ({ s with pool := { s.pool with reserved := clampReservations r0 r1 r2 r3 } },
      .now ⟨if 1024 < r0 ∨ 1024 < r1 ∨ 1024 < r2 ∨ 1024 < r3 then .clamped else .done, 0, []⟩) := by
  have clamped : reservationsClamped r0 r1 r2 r3 = decide (1024 < r0 ∨ 1024 < r1 ∨ 1024 < r2 ∨ 1024 < r3) := by
    simp [reservationsClamped, Bool.or_assoc]
  refine (if_neg (Nat.not_lt.mpr sum)).trans ((if_neg (Nat.not_lt.mpr h)).trans ?_)
  simp only [clamped, Reply.clampedIf, decide_eq_true_eq]

end

/-! ### DECODER SETUP (R101, R113) -/

theorem doDecoderSetup_eq (high low : Nat) (s : State) :
    let hi := clamp 2 1023 high
    let lo := lowMarkBelow hi (clamp 0 1022 low)
    let d : Decoder := { s.dec with high := hi, low := lo }
    doDecoderSetup high low s = (judgeCongestion { s with dec := d },
      .now ⟨if hi = high ∧ lo = low then .done else .clamped, 0, []⟩) := by
  have status (hi lo : Nat) : (if decide (hi ≠ high ∨ lo ≠ low) = true then Status.clamped else .done) =
      if hi = high ∧ lo = low then .done else .clamped := by
    by_cases same : hi = high ∧ lo = low
    · rw [if_pos same, if_neg (by simp [same])]
    · rw [if_neg same, if_pos (decide_eq_true (not_and_or.mp same))]
  dsimp only
  rw [← status]
  rfl

/-- Settles O26: the reservations by the sum and the law they are judged by, the flag by the marks as they are set. -/
theorem poolAndDecoderSetup : Obligations.PoolAndDecoderSetup := by
  refine ⟨?pool, ?decoder⟩
  case pool =>
    intro tag r0 r1 r2 r3 s
    obtain ⟨t, ht, taken⟩ := request_taken (c := .poolSetup ⟨tag, none⟩ r0 r1 r2 r3) (s := s) rfl
    exact ⟨t, ht, fun above => taken (doPoolSetup_above above), fun sum short => taken (doPoolSetup_unmet sum short),
      fun sum enough => taken (doPoolSetup_taken sum enough)⟩
  case decoder =>
    intro tag high low s
    obtain ⟨c, judged, flag⟩ := judgeCongestion_flag { s with dec := { s.dec with
      high := clamp 2 1023 high, low := lowMarkBelow (clamp 2 1023 high) (clamp 0 1022 low) } }
    obtain ⟨t, ht, taken⟩ := request_taken (c := .decoderSetup ⟨tag, none⟩ high low) (s := s) rfl
    have answered := taken (doDecoderSetup_eq high low s)
    exact ⟨c, t, ht, fun on => flag.trans (iff_of_eq (if_pos on)),
      fun off => flag.trans (iff_of_eq (if_neg (ne_true_of_eq_false off))), judged ▸ answered⟩

end Sys2Proof.Machine
end

section
/-! SUPPORT. The accounting of groups at a frame's completion (R93, R94), up to the take that follows it; and O58. -/

namespace Sys2Proof.Machine

/-- A lane whose unserved list is counted as dropped (R94). -/
def Lane.unserved (c : Lane) : Lane :=
  { c with counters := { c.counters with
      dropped := if c.ready.length = 0 then c.counters.dropped else wrap32 (c.counters.dropped + c.ready.length) } }

/-- The list of the group before counted as dropped and reported, if it was not served (R94). -/
def unservedDropped (p : LaneId) (s : State) : State :=
  if (s.lane p).ready.length = 0 then s
  else report (srcLane p) .overrun (s.lane p).ready.length (countDropped p (s.lane p).ready.length s)

/-- A report is recorded by what the log holds and by the time (R203). -/
theorem log_report_congr {s t : State} (log : t.log = s.log) (time : t.time = s.time) (source : Nat) (reason : FaultReason)
    (info : Nat) : (report source reason info t).log = (report source reason info s).log := by
  simp only [report, log, time, apply_ite State.log]
  rfl

theorem unservedDropped_rest (p : LaneId) (s : State) :
    ∃ ev, unservedDropped p s = { s.setLane p (s.lane p).unserved with
      ev := ev
      log := if (s.lane p).ready.length = 0 then s.log
        else (report p.val .overrun (s.lane p).ready.length s).log
      work := s.work ++ List.replicate (s.lane p).ready.length (.occ (.cwDropped p)) } := by
  by_cases served : (s.lane p).ready.length = 0
  · have same : (s.lane p).unserved = s.lane p := by simp only [Lane.unserved, if_pos served]
    refine ⟨s.ev, ?_⟩
    rw [unservedDropped, if_pos served, if_pos served, same, setLane_lane, served, List.replicate_zero, List.append_nil]
  · have counted : countDropped p (s.lane p).ready.length s = (s.setLane p (s.lane p).unserved).addWork
        (List.replicate (s.lane p).ready.length (.occ (.cwDropped p))) := by
      simp only [countDropped, modLane_eq, Lane.unserved, if_neg served]
    have log := log_report_congr (s := s) (t := countDropped p (s.lane p).ready.length s) rfl rfl (srcLane p) .overrun
      (s.lane p).ready.length
    rw [unservedDropped, if_neg served, if_neg served, report_rest, log, counted]
    exact ⟨_, rfl⟩

/-- The lane that holds its completed group as the ready list and begins the next in the other half (R93). -/
def Lane.grouped (g : PipeParams) (half : Half) (c : Lane) : Lane :=
  { c.unserved with
    ready := groupEntries g half, group := some ⟨otherHalf half, 0, 0⟩, writeHalf := otherHalf half }

/-- A completed group before congestion is judged (R93, R94). -/
def groupReady (p : LaneId) (g : PipeParams) (half : Half) (s : State) : State :=
  (unservedDropped p s).setLane p ((s.lane p).grouped g half)

theorem completeGroup_eq (p : LaneId) (g : PipeParams) (half : Half) (s : State) :
    completeGroup p g half s = takeIfIdle (judgeCongestion (groupReady p g half s)) := by
  have lane : (unservedDropped p s).lane p = (s.lane p).unserved := by
    obtain ⟨ev, dropped⟩ := unservedDropped_rest p s
    rw [dropped]
    exact lane_setLane_self s p _
  have ready : beginGroup p (otherHalf half) ((unservedDropped p s).modLane p (fun c =>
      { c with ready := groupEntries g half })) = groupReady p g half s := by
    rw [beginGroup, modLane_eq, modLane_eq, lane_setLane_self, setLane_setLane, lane]
    rfl
  rw [← ready]
  rfl

theorem groupReady_rest (p : LaneId) (g : PipeParams) (half : Half) (s : State) :
    ∃ ev, groupReady p g half s = { s.setLane p ((s.lane p).grouped g half) with
      ev := ev
      log := if (s.lane p).ready.length = 0 then s.log
        else (report p.val .overrun (s.lane p).ready.length s).log
      work := s.work ++ List.replicate (s.lane p).ready.length (.occ (.cwDropped p)) } := by
  obtain ⟨ev, dropped⟩ := unservedDropped_rest p s
  rw [groupReady, dropped, ← setLane_setLane s p (s.lane p).unserved ((s.lane p).grouped g half)]
  exact ⟨ev, rfl⟩

theorem frameAccounting_goesOn {p : LaneId} {pos : WritePos} {g : PipeParams} {s : State}
    (group : (s.lane p).group = some pos) (params : pathParams s p = some g) (more : pos.frame + 1 < g.depth) :
    frameAccounting p s = s.setLane p { s.lane p with group := some ⟨pos.half, pos.frame + 1, 0⟩ } := by
  simp only [frameAccounting, group, params, if_pos more, modLane_eq]

theorem frameAccounting_completes {p : LaneId} {pos : WritePos} {g : PipeParams} {s : State}
    (group : (s.lane p).group = some pos) (params : pathParams s p = some g) (last : g.depth ≤ pos.frame + 1) :
    frameAccounting p s = completeGroup p g pos.half s := by
  simp only [frameAccounting, group, params, if_neg (Nat.not_lt.mpr last)]

/-- Settles O58: the next frame of the group, or the completed group before the take, the flag judged on it. -/
theorem groupAccounting : Obligations.GroupAccounting := by
  intro p pos g s group params n
  refine ⟨frameAccounting_goesOn group params, fun last => ⟨judgeCongestion (groupReady p g pos.half s), ?_, ?_⟩⟩
  · rw [frameAccounting_completes group params last, completeGroup_eq]
  · obtain ⟨flag, judged, low_or_high⟩ := judgeCongestion_flag (groupReady p g pos.half s)
    have total : readyTotal (judgeCongestion (groupReady p g pos.half s)) = readyTotal (groupReady p g pos.half s) :=
      readyTotal_congr (fun _ => rfl)
    have other : otherHalf pos.half = if pos.half = .a then .b else .a := by cases pos.half <;> rfl
    have self : (judgeCongestion (groupReady p g pos.half s)).lane p = (s.lane p).grouped g pos.half :=
      lane_setLane_self _ p _
    obtain ⟨ev, ready⟩ := groupReady_rest p g pos.half s
    rw [total, self, judged]
    rw [ready] at low_or_high ⊢
    exact ⟨rfl, congrArg (fun h => some (WritePos.mk h 0 0)) other, rfl, rfl, rfl,
      fun k hk => lane_setLane_ne s p k _ hk, rfl, low_or_high, rfl, rfl, rfl, rfl, rfl⟩

end Sys2Proof.Machine
end

section
/-! SUPPORT. A take of the shared decoder (R101 to R105): the lane that round robin chooses, the codeword that is taken, and
the places of its own copy; and O59. -/

namespace Sys2Proof.Machine

/-! ### The choice of a lane (R103) -/

theorem lanesFrom_getElem_val (l : LaneId) {n : Nat} (h : n < (lanesFrom l).length) :
    (lanesFrom l)[n].val = (l.val + n) % 4 := by
  have inside : n < 4 := h
  interval_cases n <;> simp [lanesFrom, Fin.val_add, Nat.mod_eq_of_lt l.isLt]

theorem chooseLane_eq_none {s : State} (h : ∀ l, (s.lane l).ready = []) : chooseLane s = none := by
  simp [chooseLane, h]

/-- The lane chosen is the first behind the pointer with a list that is not empty (R103). -/
theorem chooseLane_eq_some {s : State} {n : Nat} {l : LaneId} (place : l.val = (s.dec.pointer.val + n) % 4) (inside : n < 4)
    (before : ∀ (m : Nat) (k : LaneId), m < n → k.val = (s.dec.pointer.val + m) % 4 → (s.lane k).ready = [])
    (ready : (s.lane l).ready ≠ []) : chooseLane s = some l := by
  refine List.find?_eq_some_iff_getElem.mpr ⟨decide_eq_true ready, n, inside, ?_, fun m hm => ?_⟩
  · exact Fin.ext ((lanesFrom_getElem_val _ inside).trans place.symm)
  · simpa using before m _ hm (lanesFrom_getElem_val _ (hm.trans inside))

/-! ### The take (R102, R103, R105) -/

theorem takeIfIdle_busy {s : State} {cw : Codeword} (h : s.dec.inflight = some cw) : takeIfIdle s = s := by
  simp only [takeIfIdle, h]

theorem takeIfIdle_nothing {s : State} (idle : s.dec.inflight = none) (h : ∀ l, (s.lane l).ready = []) :
    takeIfIdle s = s := by
  simp only [takeIfIdle, idle, chooseLane_eq_none h]

theorem takeIfIdle_takes {s : State} {l : LaneId} {e : ReadyEntry} {rest : List ReadyEntry} (idle : s.dec.inflight = none)
    (chosen : chooseLane s = some l) (ready : (s.lane l).ready = e :: rest) : takeIfIdle s = takeHead s l e rest := by
  simp only [takeIfIdle, idle, chosen, ready]

/-- The codeword of a take (R102, R104, R105). -/
def takenCodeword (s : State) (l : LaneId) (e : ReadyEntry) : Codeword :=
  ⟨l, e.half, e.k, e.con, e.rate, softCopy s l e, offeredGrade s l, s.dec.congested, takeBudget s l, false, s.time⟩

/-- The state of a take before congestion is judged again. -/
def headTaken (s : State) (l : LaneId) (e : ReadyEntry) (rest : List ReadyEntry) : State :=
  { s.setLane l { s.lane l with ready := rest } with
    dec := { s.dec with inflight := some (takenCodeword s l e), pointer := l + 1 } }

theorem takeHead_eq (s : State) (l : LaneId) (e : ReadyEntry) (rest : List ReadyEntry) :
    takeHead s l e rest = judgeCongestion (headTaken s l e rest) := rfl

/-! ### The copy (R104) -/

section
variable {α β : Type} {f : α → List β} {w : Nat}

theorem length_flatMap_of_equal (h : ∀ x, (f x).length = w) (l : List α) : (l.flatMap f).length = l.length * w := by
  simp [List.length_flatMap, h]

/-- Place `b` of part `q` where every part has the same length. -/
theorem getElem?_flatMap_of_equal (h : ∀ x, (f x).length = w) {l : List α} {q b : Nat} {x : α} (hx : l[q]? = some x)
    (hb : b < w) : (l.flatMap f)[q * w + b]? = (f x)[b]? := by
  induction l generalizing q with
  | nil => simp at hx
  | cons y l ih =>
    rw [List.flatMap_cons]
    cases q with
    | zero =>
      obtain rfl : y = x := by simpa using hx
      rw [Nat.zero_mul, Nat.zero_add, List.getElem?_append_left (by rwa [h])]
    | succ q =>
      have past : (q + 1) * w + b = w + (q * w + b) := by ring
      rw [past, List.getElem?_append_right (by rw [h]; omega), h, Nat.add_sub_cancel_left]
      exact ih (by simpa using hx)

end

theorem length_softBits (con : Nat) (c : PoolCell) : (softBits con c).length = bitsPerCell con := by
  simp [softBits]

theorem softBits_getElem? {con b : Nat} (h : b < bitsPerCell con) (c : PoolCell) :
    (softBits con c)[b]? = some ⟨Config.hardDecision con c.re c.im b,
      if c.r = 0 then 0 else min 4095 (Config.softMagnitude con c.re c.im c.r b)⟩ := by
  simp [softBits, h]

/-- The cell of place `q` of codeword `k` of a group: group number k + q × G (R91, R93). -/
def placeCell (s : State) (p : LaneId) (half : Half) (k : Nat) (g : PipeParams) (q : Nat) : PoolCell :=
  let num := q * codewordsPerGroup g + k
  s.pool.readAt (s.pool.pagesOf p) (logicalPage g half (num / g.cells) (num % g.cells)) (num % g.cells % 2048)

theorem codewordCells_eq (s : State) (p : LaneId) (half : Half) (k : Nat) (g : PipeParams) (n : Nat) :
    codewordCells s p half k g n = (List.range n).map (placeCell s p half k g) := rfl

/-- A codeword's cells carry 15,360 bits at each constellation (R12). -/
theorem cellsPerCodeword_mul_bitsPerCell {con : Nat} (h : con ≤ 3) : cellsPerCodeword con * bitsPerCell con = 15360 := by
  interval_cases con <;> rfl

section
variable {s : State} {l : LaneId} {e : ReadyEntry} {g : PipeParams}

theorem softCopy_eq (params : pathParams s l = some g) : softCopy s l e =
    ((List.range (cellsPerCodeword e.con)).map (placeCell s l e.half e.k g)).flatMap (softBits e.con) := by
  simp only [softCopy, params, codewordCells_eq]

theorem length_softCopy (params : pathParams s l = some g) (con : e.con ≤ 3) : (softCopy s l e).length = 15360 := by
  rw [softCopy_eq params, length_flatMap_of_equal (length_softBits e.con), List.length_map, List.length_range,
    cellsPerCodeword_mul_bitsPerCell con]

theorem softCopy_getElem? (params : pathParams s l = some g) {q b : Nat} (hq : q < cellsPerCodeword e.con)
    (hb : b < bitsPerCell e.con) : (softCopy s l e)[q * bitsPerCell e.con + b]? =
      (softBits e.con (placeCell s l e.half e.k g q))[b]? := by
  rw [softCopy_eq params]
  exact getElem?_flatMap_of_equal (length_softBits e.con) (by simp [hq]) hb

end

/-- Settles O59: the decoder busy or with nothing ready, and a take by its lane, its codeword and its copy place by place. -/
theorem decoderTakes : Obligations.DecoderTakes := by
  refine fun s => ⟨fun _ => takeIfIdle_busy, takeIfIdle_nothing, ?_⟩
  intro n l e rest idle place inside before ready a
  have chosen : chooseLane s = some l := chooseLane_eq_some place inside before (by simp [ready])
  have took : a = judgeCongestion (headTaken s l e rest) := takeIfIdle_takes idle chosen ready
  obtain ⟨flag, judged, low_or_high⟩ := judgeCongestion_flag (headTaken s l e rest)
  have total : readyTotal a = readyTotal (headTaken s l e rest) := readyTotal_congr (fun _ => took ▸ rfl)
  rw [total, took, judged]
  refine ⟨takenCodeword s l e, rfl, rfl, rfl, rfl, rfl, rfl, rfl, rfl, rfl, rfl, rfl, Fin.val_add l 1,
    lane_setLane_self s l _, fun k hk => lane_setLane_ne s l k _ hk, low_or_high, rfl, rfl, rfl, ?copy⟩
  case copy =>
    intro g params con bits places words pages base
    refine ⟨length_softCopy params con, fun q bit hq hbit => ?_⟩
    have base_of (half : Half) : (match half with | .a => 0 | .b => g.depth * pages) = halfBase g half := by
      cases half <;> rfl
    rw [show base = halfBase g e.half from base_of e.half]
    exact (softCopy_getElem? params hq hbit).trans (softBits_getElem? hbit _)

end Sys2Proof.Machine
end

section
/-! SUPPORT. What the work of lanes, data paths, pool and decoder leaves as it is (Chapters 1 to 6): the map, the output ports,
the chain's input and output, the monitors and the management unit. `State.chain` reads them; one lemma per function of the
model, in the model's order, each from the lemmas of what the function calls. -/

namespace Sys2Proof.Machine

/-- The map, the ports, the chain's output and input, the monitors and the management unit. -/
def State.chain (s : State) : MapUnit × Vector Port 3 × ChainOut × ChainIn × Vector Monitor 8 × Mgmt :=
  (s.smap, s.ports, s.co, s.ci, s.monitors, s.mgmt)

/-- An update reads at its six fields, which the lemmas of the state's updates then simplify. -/
@[simp] theorem chain_mk (time : Nat) (links : Vector Bool 4) (straps : BitVec 5) (lanes : Vector Lane 4)
    (pairs : Vector Pair 2) (pool : Pool) (dec : Decoder) (smap : MapUnit) (ports : Vector Port 3) (co : ChainOut)
    (ci : ChainIn) (monitors : Vector Monitor 8) (timers : Vector Timer 8) (mgmt : Mgmt) (ev : EventUnit) (log : FaultLog)
    (work : List Work) (pending : List Instr) :
    State.chain ⟨time, links, straps, lanes, pairs, pool, dec, smap, ports, co, ci, monitors, timers, mgmt, ev, log,
      work, pending⟩ = (smap, ports, co, ci, monitors, mgmt) := rfl

@[simp] theorem chain_eta (s : State) : (s.smap, s.ports, s.co, s.ci, s.monitors, s.mgmt) = s.chain := rfl

@[simp] theorem chain_ite (c : Prop) [Decidable c] (s t : State) :
    (if c then s else t).chain = if c then s.chain else t.chain := apply_ite State.chain c s t

@[simp] theorem chain_fst_ite (c : Prop) [Decidable c] (x y : State × Answer) :
    (if c then x else y).1.chain = if c then x.1.chain else y.1.chain :=
  apply_ite (fun z : State × Answer => z.1.chain) c x y

/-- Work on a data path leaves the chain side. -/
theorem PathKept.chain {s t : State} (h : PathKept s t) : t.chain = s.chain := by
  rw [h.rest]
  rfl

/-! ### The state's updates, reports and conditions -/

@[simp] theorem chain_setLane (s : State) (l : LaneId) (c : Lane) : (s.setLane l c).chain = s.chain := rfl
@[simp] theorem chain_modLane (s : State) (l : LaneId) (f : Lane → Lane) : (s.modLane l f).chain = s.chain := rfl
@[simp] theorem chain_setPair (s : State) (p : PairId) (c : Pair) : (s.setPair p c).chain = s.chain := rfl
@[simp] theorem chain_modPair (s : State) (p : PairId) (f : Pair → Pair) : (s.modPair p f).chain = s.chain := rfl
@[simp] theorem chain_addWork (s : State) (ws : List Work) : (s.addWork ws).chain = s.chain := rfl
@[simp] theorem chain_raise (n : Nat) (s : State) : (raise n s).chain = s.chain := rfl

@[simp] theorem chain_report (source : Nat) (reason : FaultReason) (info : Nat) (s : State) :
    (report source reason info s).chain = s.chain := (path_report source reason info s).chain

@[simp] theorem chain_follow (s : State) : (follow s).chain = s.chain := by
  rw [followsOnly_follow s, chain_mk, chain_eta]

/-! ### The decoder and the pool (Chapters 6 and 5) -/

@[simp] theorem chain_judgeCongestion (s : State) : (judgeCongestion s).chain = s.chain := rfl

@[simp] theorem chain_takeIfIdle (s : State) : (takeIfIdle s).chain = s.chain := (path_takeIfIdle s).chain

@[simp] theorem chain_emptyReady (p : LaneId) (counted : Bool) (s : State) : (emptyReady p counted s).chain = s.chain := by
  simp [emptyReady, countDropped]

@[simp] theorem chain_abandonGroup (p : LaneId) (s : State) : (abandonGroup p s).chain = s.chain := by
  simp [abandonGroup, discardWaiting]

@[simp] theorem chain_beginGroup (p : LaneId) (half : Half) (s : State) : (beginGroup p half s).chain = s.chain := rfl

@[simp] theorem chain_beginAgain (p : LaneId) (s : State) : (beginAgain p s).chain = s.chain := by simp [beginAgain]

@[simp] theorem chain_releasePath (p : LaneId) (counted : Bool) (s : State) : (releasePath p counted s).chain = s.chain := by
  simp [releasePath]

@[simp] theorem chain_requestPages (p : LaneId) (n : Nat) (s : State) : (requestPages p n s).2.chain = s.chain := by
  unfold requestPages
  split <;> rfl

@[simp] theorem chain_settlePages (p : LaneId) (need : Nat) (s : State) : (settlePages p need s).2.chain = s.chain := by
  unfold settlePages
  dsimp only
  split
  · rfl
  · split <;> simp

@[simp] theorem chain_frameAccounting (p : LaneId) (s : State) : (frameAccounting p s).chain = s.chain :=
  (path_frameAccounting p s).chain

/-! ### Data paths (4.3) -/

@[simp] theorem chain_setPairState (p : PairId) (v : PairState) (s : State) : (setPairState p v s).chain = s.chain :=
  (path_setPairState p v s).chain

@[simp] theorem chain_abandonIfDriving (l : LaneId) (s : State) : (abandonIfDriving l s).chain = s.chain := by
  simp [abandonIfDriving]

@[simp] theorem chain_dropRef (l : LaneId) (s : State) : (dropRef l s).chain = s.chain := by
  simp [dropRef]

@[simp] theorem chain_departPath (l : LaneId) (s : State) : (departPath l s).chain = s.chain := by
  simp [departPath]

@[simp] theorem chain_releaseToSearch (l : LaneId) (s : State) : (releaseToSearch l s).chain = s.chain := by
  simp [releaseToSearch]

@[simp] theorem chain_enterFade (l : LaneId) (r : Reason) (s : State) : (enterFade l r s).chain = s.chain := by
  simp [enterFade]

@[simp] theorem chain_setPathLayout (l : LaneId) (r : FrameRecord) (s : State) :
    (setPathLayout l r s).chain = s.chain := by simp [setPathLayout]

@[simp] theorem chain_pathToSync (l : LaneId) (reason : Reason) (s : State) : (pathToSync l reason s).chain = s.chain := by
  simp [pathToSync]

/-- A layout change goes to SYNC, or settles the pages and begins a group or goes to SYNC (R34). -/
@[simp] theorem chain_layoutChange (l : LaneId) (r : FrameRecord) (s : State) : (layoutChange l r s).chain = s.chain := by
  unfold layoutChange
  dsimp only
  split <;> simp

@[simp] theorem chain_decideAll (p : PairId) (s : State) : (decideAll p s).chain = s.chain := (path_decideAll p s).chain

/-! ### Lanes (Chapter 2) -/

@[simp] theorem chain_advanceSweep (l : LaneId) (s : State) : (advanceSweep l s).chain = s.chain := by simp [advanceSweep]

@[simp] theorem chain_enterMode (l : LaneId) (k : Candidate) (s : State) : (enterMode l k s).chain = s.chain := rfl

@[simp] theorem chain_endAttempt (l : LaneId) (s : State) : (endAttempt l s).chain = s.chain := by
  unfold endAttempt
  dsimp only
  split <;> simp

@[simp] theorem chain_modeSymbol (l : LaneId) (s : State) : (modeSymbol l s).chain = s.chain := by
  unfold modeSymbol
  dsimp only
  split <;> simp

@[simp] theorem chain_lockIn (l : LaneId) (fromSync : Bool) (r : FrameRecord) (pilots : List PilotRx) (s : State) :
    (lockIn l fromSync r pilots s).chain = s.chain := by simp [lockIn]

@[simp] theorem chain_takeReference (l : LaneId) (granted : Bool) (r : FrameRecord) (s : State) :
    (takeReference l granted r s).chain = s.chain := by simp [takeReference]

@[simp] theorem chain_switchReference (l : LaneId) (r : FrameRecord) (s : State) :
    (switchReference l r s).chain = s.chain := by simp [switchReference]

@[simp] theorem chain_pathAtEntry (l : LaneId) (granted : Bool) (r : FrameRecord) (s : State) :
    (pathAtEntry l granted r s).chain = s.chain := by simp [pathAtEntry]

@[simp] theorem chain_lockFromSync (l : LaneId) (granted : Bool) (r : FrameRecord) (pilots : List PilotRx) (s : State) :
    (lockFromSync l granted r pilots s).chain = s.chain := by simp [lockFromSync]

@[simp] theorem chain_checkLayout (l : LaneId) (cur : Option PipeParams) (r : FrameRecord) (s : State) :
    (checkLayout l cur r s).chain = s.chain := by simp [checkLayout]

@[simp] theorem chain_recover (l : LaneId) (r : FrameRecord) (s : State) : (recover l r s).chain = s.chain := by
  simp [recover]

/-- A VALID record in SYNC locks, with pages or with a grant, or leaves a reason (R28). -/
@[simp] theorem chain_syncValid (l : LaneId) (r : FrameRecord) (pilots : List PilotRx) (s : State) :
    (syncValid l r pilots s).chain = s.chain := by
  unfold syncValid
  split <;> simp

@[simp] theorem chain_syncFailure (l : LaneId) (s : State) : (syncFailure l s).chain = s.chain := by simp [syncFailure]

@[simp] theorem chain_syncSymbol (l : LaneId) (x : SymbolRx) (s : State) : (syncSymbol l x s).chain = s.chain := by
  unfold syncSymbol
  split <;> simp

@[simp] theorem chain_countBlanked (l : LaneId) (s : State) : (countBlanked l s).chain = s.chain := rfl

@[simp] theorem chain_deliverCells (l : LaneId) (y : Layout) (idx : Nat) (cells : List PoolCell) (s : State) :
    (deliverCells l y idx cells s).chain = s.chain := (path_deliverCells l y idx cells s).chain

@[simp] theorem chain_completeFrame (l : LaneId) (s : State) : (completeFrame l s).chain = s.chain := by
  simp [completeFrame]

@[simp] theorem chain_dataSymbol (l : LaneId) (k : Candidate) (y : Layout) (x : SymbolRx) (s : State) :
    (dataSymbol l k y x s).chain = s.chain := by simp [dataSymbol]

@[simp] theorem chain_drivingPreamble (l : LaneId) (last : Nat) (held : Option PipeParams) (r : FrameRecord) (s : State) :
    (drivingPreamble l last held r s).chain = s.chain := by simp [drivingPreamble]

@[simp] theorem chain_validExpected (l : LaneId) (y : Layout) (r : FrameRecord) (s : State) :
    (validExpected l y r s).chain = s.chain := by simp [validExpected]

@[simp] theorem chain_failedExpected (l : LaneId) (y : Layout) (wasInvalid : Bool) (s : State) :
    (failedExpected l y wasInvalid s).chain = s.chain := by simp [failedExpected]

@[simp] theorem chain_expectedPreamble (l : LaneId) (y : Layout) (x : SymbolRx) (s : State) :
    (expectedPreamble l y x s).chain = s.chain := by
  unfold expectedPreamble
  split <;> simp

@[simp] theorem chain_beginLockSymbol (l : LaneId) (s : State) : (beginLockSymbol l s).chain = s.chain :=
  (path_beginLockSymbol l s).chain

@[simp] theorem chain_lockSymbol (l : LaneId) (x : SymbolRx) (s : State) : (lockSymbol l x s).chain = s.chain := by
  unfold lockSymbol
  dsimp only
  split <;> simp

@[simp] theorem chain_fadeSymbol (l : LaneId) (x : SymbolRx) (s : State) : (fadeSymbol l x s).chain = s.chain := by
  unfold fadeSymbol
  dsimp only
  split <;> simp

/-- A symbol event is the work of the lane's state (R5). -/
@[simp] theorem chain_symbolEvent (l : LaneId) (x : SymbolRx) (s : State) : (symbolEvent l x s).chain = s.chain := by
  unfold symbolEvent
  split <;> simp

@[simp] theorem chain_countSample (l : LaneId) (x : SymbolRx) (s : State) : (countSample l x s).chain = s.chain := by
  simp [countSample]

@[simp] theorem chain_takeSample (l : LaneId) (i q : Int) (x : SymbolRx) (s : State) :
    (takeSample l i q x s).chain = s.chain := by
  unfold takeSample
  dsimp only
  split
  · rfl
  · split <;> simp

@[simp] theorem chain_laneLinkDown (l : LaneId) (s : State) : (laneLinkDown l s).chain = s.chain := by
  unfold laneLinkDown
  dsimp only
  split <;> simp

@[simp] theorem chain_linkLost (l : LaneId) (s : State) : (linkLost l s).chain = s.chain := by simp [linkLost]

@[simp] theorem chain_linkFound (l : LaneId) (s : State) : (linkFound l s).chain = s.chain := rfl

@[simp] theorem chain_holdoffExpires (l : LaneId) (s : State) : (holdoffExpires l s).chain = s.chain := by
  simp [holdoffExpires]

@[simp] theorem chain_nextTake (s : State) : (nextTake s).chain = s.chain := by simp [nextTake]

/-! ### The requests about lanes, pairs, pool and decoder -/

@[simp] theorem chain_doLaneSetup (lane : Nat) (f : SetupForm) (s : State) : (doLaneSetup lane f s).1.chain = s.chain := by
  unfold doLaneSetup
  split <;> simp

@[simp] theorem chain_doLaneStart (lane : Nat) (s : State) : (doLaneStart lane s).1.chain = s.chain := by
  unfold doLaneStart
  split <;> simp

@[simp] theorem chain_markCodeword (l : LaneId) (s : State) : (markCodeword l s).chain = s.chain := by
  unfold markCodeword
  split <;> simp

@[simp] theorem chain_stopLane (l : LaneId) (s : State) : (stopLane l s).chain = s.chain := by simp [stopLane]

@[simp] theorem chain_doLaneStop (lane : Nat) (s : State) : (doLaneStop lane s).1.chain = s.chain := by
  unfold doLaneStop
  split <;> simp

@[simp] theorem chain_doLaneRead (lane : Nat) (clear : Bool) (s : State) : (doLaneRead lane clear s).1.chain = s.chain := by
  unfold doLaneRead
  split <;> simp

@[simp] theorem chain_doProfileRead (lane : Nat) (s : State) : (doProfileRead lane s).1.chain = s.chain := by
  unfold doProfileRead
  split <;> rfl

@[simp] theorem chain_doPair (p : Nat) (s : State) : (doPair p s).1.chain = s.chain := by
  unfold doPair
  split <;> simp

/-- The path of a pair that is dissolved stays with its primary or is released (R72). -/
@[simp] theorem chain_unpairPath (p : PairId) (s : State) : (unpairPath p s).chain = s.chain := by
  unfold unpairPath
  dsimp only
  split
  · cases (s.pairAt p).layout with
    | none => simp
    | some z =>
      dsimp only
      split <;> simp
  · simp

@[simp] theorem chain_unpairNow (p : PairId) (s : State) : (unpairNow p s).chain = s.chain := by simp [unpairNow]

@[simp] theorem chain_doUnpair (p : Nat) (s : State) : (doUnpair p s).1.chain = s.chain := by
  unfold doUnpair
  split <;> simp

@[simp] theorem chain_doPoolSetup (r0 r1 r2 r3 : Nat) (s : State) : (doPoolSetup r0 r1 r2 r3 s).1.chain = s.chain := by
  simp [doPoolSetup]

@[simp] theorem chain_doPoolRead (start : Nat) (s : State) : (doPoolRead start s).1.chain = s.chain := by simp [doPoolRead]

@[simp] theorem chain_doDecoderSetup (high low : Nat) (s : State) : (doDecoderSetup high low s).1.chain = s.chain := rfl

@[simp] theorem chain_doDecoderRead (clear : Bool) (s : State) : (doDecoderRead clear s).1.chain = s.chain := by
  simp [doDecoderRead]

end Sys2Proof.Machine
end

section
/-! SUPPORT. What leaves the stream map and the management id as they are: ports, monitors, timers, events and the rest of an
event (log 11), and every work that leaves the chain side. `State.chart` reads the two, which are all that the rules of R116,
R119 and R125 speak of. -/

namespace Sys2Proof.Machine

/-- The management id and the stream map. -/
def State.chart (s : State) : Nat × MapUnit := (s.mgmt.id, s.smap)

/-- An update reads at its two fields, which the lemmas of the state's updates then simplify. -/
@[simp] theorem chart_mk (time : Nat) (links : Vector Bool 4) (straps : BitVec 5) (lanes : Vector Lane 4)
    (pairs : Vector Pair 2) (pool : Pool) (dec : Decoder) (smap : MapUnit) (ports : Vector Port 3) (co : ChainOut)
    (ci : ChainIn) (monitors : Vector Monitor 8) (timers : Vector Timer 8) (mgmt : Mgmt) (ev : EventUnit) (log : FaultLog)
    (work : List Work) (pending : List Instr) :
    State.chart ⟨time, links, straps, lanes, pairs, pool, dec, smap, ports, co, ci, monitors, timers, mgmt, ev, log, work,
      pending⟩ = (mgmt.id, smap) := rfl

@[simp] theorem chart_eta (s : State) : (s.mgmt.id, s.smap) = s.chart := rfl

@[simp] theorem chart_ite (c : Prop) [Decidable c] (s t : State) :
    (if c then s else t).chart = if c then s.chart else t.chart := apply_ite State.chart c s t

@[simp] theorem chart_fst_ite (c : Prop) [Decidable c] (x y : State × Answer) :
    (if c then x else y).1.chart = if c then x.1.chart else y.1.chart :=
  apply_ite (fun z : State × Answer => z.1.chart) c x y

theorem chart_eq_iff {s t : State} : t.chart = s.chart ↔ t.mgmt.id = s.mgmt.id ∧ t.smap = s.smap := by
  rw [State.chart, State.chart, Prod.mk.injEq]

/-- What leaves the chain side leaves the map. -/
theorem chart_of_chain {s t : State} (h : t.chain = s.chain) : t.chart = s.chart :=
  congrArg (fun x : MapUnit × Vector Port 3 × ChainOut × ChainIn × Vector Monitor 8 × Mgmt => (x.2.2.2.2.2.id, x.1)) h

/-- The rest of an event leaves the map. -/
theorem Kept.chart {s t : State} (h : Kept s t) : t.chart = s.chart := chart_eq_iff.mpr ⟨h.mgmtId, h.smap⟩

theorem chart_foldl {α : Type} (f : State → α → State) (h : ∀ s a, (f s a).chart = s.chart) (l : List α)
    (s : State) : (l.foldl f s).chart = s.chart := by
  induction l generalizing s with
  | nil => rfl
  | cons a l ih => rw [List.foldl_cons, ih, h]

/-! ### The state's updates -/

@[simp] theorem chart_setPort (s : State) (p : PortId) (c : Port) : (s.setPort p c).chart = s.chart := rfl
@[simp] theorem chart_modPort (s : State) (p : PortId) (f : Port → Port) : (s.modPort p f).chart = s.chart := rfl
@[simp] theorem chart_setMonitor (s : State) (m : MonitorId) (c : Monitor) : (s.setMonitor m c).chart = s.chart := rfl
@[simp] theorem chart_setTimer (s : State) (t : TimerId) (c : Timer) : (s.setTimer t c).chart = s.chart := rfl
@[simp] theorem chart_modTimer (s : State) (t : TimerId) (f : Timer → Timer) : (s.modTimer t f).chart = s.chart := rfl
@[simp] theorem chart_addWork (s : State) (ws : List Work) : (s.addWork ws).chart = s.chart := rfl
@[simp] theorem chart_raise (n : Nat) (s : State) : (raise n s).chart = s.chart := rfl

/-! ### Reports and the rest of an event -/

@[simp] theorem chart_report (source : Nat) (reason : FaultReason) (info : Nat) (s : State) :
    (report source reason info s).chart = s.chart := (kept_report source reason info s).chart

@[simp] theorem chart_afterEvent (s : State) : (afterEvent s).chart = s.chart := (afterEvent_kept s).chart

@[simp] theorem chart_sendReply (tag code : Nat) (r : Reply) (s : State) : (sendReply tag code r s).chart = s.chart :=
  (kept_sendReply tag code r s).chart

@[simp] theorem chart_forward (pkt : Packet) (s : State) : (forward pkt s).chart = s.chart := (kept_forward pkt s).chart

@[simp] theorem chart_relayFirst (h : ReqHdr) (s : State) : (relayFirst h s).chart = s.chart := (kept_relayFirst h s).chart

/-! ### Ports (Chapter 8) -/

@[simp] theorem chart_judgeHold (s : State) : (judgeHold s).chart = s.chart := rfl

@[simp] theorem chart_judgeHoldAt (p : PortId) (s : State) : (judgeHoldAt p s).chart = s.chart := by simp [judgeHoldAt]

@[simp] theorem chart_queueDrop (p : PortId) (cls : Nat) (own : Bool) (pkt : Packet) (s : State) :
    (queueDrop p cls own pkt s).chart = s.chart := by simp [queueDrop]

/-- A packet that arrives at a port joins a class or makes a drop (R138). -/
@[simp] theorem chart_portArrive (p : PortId) (cls : Nat) (restamp own : Bool) (pkt : Packet) (s : State) :
    (portArrive p cls restamp own pkt s).chart = s.chart := by
  unfold portArrive
  dsimp only
  split
  case h_1 => simp
  case h_2 =>
    split
    · simp
    · split <;> simp
  case h_3 => simp

@[simp] theorem chart_restamped (p : PortId) (e : Queued) (s : State) : (restamped p e s).2.chart = s.chart := by
  unfold restamped
  split
  · split <;> simp
  · rfl

@[simp] theorem chart_putWire (p : PortId) (w : Option Packet) (s : State) : (putWire p w s).chart = s.chart := rfl

@[simp] theorem chart_sendQueued (p : PortId) (e : Queued) (s : State) : (sendQueued p e s).chart = s.chart := by
  simp [sendQueued]

@[simp] theorem chart_sendClass2 (p : PortId) (q : List Queued) (s : State) : (sendClass2 p q s).chart = s.chart := by
  induction q generalizing s with
  | nil => rfl
  | cons e q ih => simp [sendClass2, ih]

@[simp] theorem chart_sendClass1 (p : PortId) (q : List Queued) (s : State) : (sendClass1 p q s).chart = s.chart := by
  induction q generalizing s with
  | nil => simp [sendClass1]
  | cons e q ih => simp [sendClass1, ih]

@[simp] theorem chart_slotSend (p : PortId) (s : State) : (slotSend p s).chart = s.chart := by
  unfold slotSend
  dsimp only
  split
  · simp
  · split <;> simp

@[simp] theorem chart_countHoldSlot (was : Bool) (s : State) : (countHoldSlot was s).chart = s.chart := by
  simp [countHoldSlot]

@[simp] theorem chart_slotWhenDue (p : PortId) (s : State) : (slotWhenDue p s).chart = s.chart := by
  have event : (slotEvent p s).chart = s.chart := by
    unfold slotEvent
    dsimp only
    generalize (if (s.port p).pstate = .stopping then (s.port p).pendingStop else none) = stop
    cases stop <;> simp
  simp [slotWhenDue, event]

/-! ### Monitors, the copies of an arrival, and timers (Chapters 9, 7 and 10) -/

@[simp] theorem chart_offer (origin : Nat) (pkt : Packet) (s : State) : (offer origin pkt s).chart = s.chart :=
  chart_foldl _ (fun s i => by simp [offerTo]) _ _

@[simp] theorem chart_handCopies (c : Copies) (s : State) : (handCopies c s).chart = s.chart :=
  chart_foldl _ (fun s p => by simp [handCopy]) _ _

@[simp] theorem chart_timerExpires (t : TimerId) (s : State) : (timerExpires t s).chart = s.chart := by
  simp [timerExpires, expire]

@[simp] theorem chart_tickAll (straps : BitVec 5) (s : State) : (tickAll straps s).chart = s.chart := by
  rw [tickAll_rest, chart_mk, chart_eta]

/-! ### Requests that leave the map -/

@[simp] theorem chart_doPortSetup (port interval high low limit : Nat) (s : State) :
    (doPortSetup port interval high low limit s).1.chart = s.chart := by
  unfold doPortSetup
  split <;> simp

@[simp] theorem chart_doPortStop (port tag : Nat) (s : State) : (doPortStop port tag s).1.chart = s.chart := by
  unfold doPortStop
  split
  · rfl
  · split <;> rfl

@[simp] theorem chart_doPortStart (port : Nat) (s : State) : (doPortStart port s).1.chart = s.chart := by
  unfold doPortStart answerOvertaken
  split
  · rfl
  · split
    · rfl
    · rfl
    · dsimp only
      split <;> simp

@[simp] theorem chart_doPortFlush (port : Nat) (s : State) : (doPortFlush port s).1.chart = s.chart := by
  unfold doPortFlush
  split <;> simp

@[simp] theorem chart_doPortRead (port : Nat) (clear : Bool) (s : State) : (doPortRead port clear s).1.chart = s.chart := by
  unfold doPortRead
  split <;> simp [clearPortCounts]

@[simp] theorem chart_doMonitorSetup (monitor : Nat) (f : MonitorForm) (s : State) :
    (doMonitorSetup monitor f s).1.chart = s.chart := by
  unfold doMonitorSetup
  split
  · rfl
  · split <;> simp

@[simp] theorem chart_doMonitorArm (monitor : Nat) (s : State) : (doMonitorArm monitor s).1.chart = s.chart := by
  unfold doMonitorArm
  split <;> rfl

@[simp] theorem chart_doMonitorRead (monitor part : Nat) (clear : Bool) (s : State) :
    (doMonitorRead monitor part clear s).1.chart = s.chart := by
  unfold doMonitorRead
  dsimp only
  split
  · rfl
  · split <;> simp

/-- TIMER SETUP refuses, or sets the one timer (R173). -/
@[simp] theorem chart_doTimerSetup (timer : Nat) (f : TimerForm) (s : State) :
    (doTimerSetup timer f s).1.chart = s.chart := by
  unfold doTimerSetup
  split
  · rfl
  · split <;> simp

@[simp] theorem chart_doTimerStart (timer : Nat) (s : State) : (doTimerStart timer s).1.chart = s.chart := by
  unfold doTimerStart
  split <;> rfl

@[simp] theorem chart_doTimerStop (timer : Nat) (s : State) : (doTimerStop timer s).1.chart = s.chart := by
  unfold doTimerStop
  split <;> rfl

@[simp] theorem chart_doTimerRead (timer : Nat) (clear : Bool) (s : State) :
    (doTimerRead timer clear s).1.chart = s.chart := by
  unfold doTimerRead
  split <;> simp

end Sys2Proof.Machine
end

section
/-! SUPPORT. The map table (R119, R120): where a key stands, which slot is the lowest empty one, what a claim test says, and the
entries of a table in which one slot is set. -/

namespace Sys2Proof.Machine

/-! ### Where a key stands -/

/-- Slot `n` is the lowest that holds a key, and `x` is what stands in it. -/
def HeldAt (slots : List (Option MapSlot)) (key : Key) (n : Nat) (x : MapSlot) : Prop :=
  slots[n]? = some (some x) ∧ x.entry.key = key ∧
    ∀ (k : Nat) (y : MapSlot), k < n → slots[k]? = some (some y) → y.entry.key ≠ key

theorem findKeyFrom_succ (key : Key) (k : Nat) (slots : List (Option MapSlot)) :
    findKeyFrom key (k + 1) slots = (findKeyFrom key k slots).map (fun x => (x.1 + 1, x.2)) := by
  induction slots generalizing k with
  | nil => rfl
  | cons o slots ih =>
    cases o with
    | none => exact ih (k + 1)
    | some y =>
      simp only [findKeyFrom]
      split
      · rfl
      · exact ih (k + 1)

theorem findKey_nil (key : Key) : findKey [] key = none := rfl

theorem findKey_cons_held {key : Key} {y : MapSlot} (h : y.entry.key = key) (slots : List (Option MapSlot)) :
    findKey (some y :: slots) key = some (0, y) := if_pos h

theorem findKey_cons_other {key : Key} {o : Option MapSlot} (h : ∀ y, o = some y → y.entry.key ≠ key)
    (slots : List (Option MapSlot)) : findKey (o :: slots) key = (findKey slots key).map (fun x => (x.1 + 1, x.2)) := by
  cases o with
  | none => exact findKeyFrom_succ key 0 slots
  | some y => exact (if_neg (h y rfl)).trans (findKeyFrom_succ key 0 slots)

theorem heldAt_cons_zero {key : Key} {o : Option MapSlot} {slots : List (Option MapSlot)} {x : MapSlot} :
    HeldAt (o :: slots) key 0 x ↔ o = some x ∧ x.entry.key = key := by
  simp [HeldAt]

theorem heldAt_cons_succ {key : Key} {o : Option MapSlot} {slots : List (Option MapSlot)} {n : Nat} {x : MapSlot} :
    HeldAt (o :: slots) key (n + 1) x ↔ (∀ y, o = some y → y.entry.key ≠ key) ∧ HeldAt slots key n x := by
  unfold HeldAt
  rw [List.getElem?_cons_succ]
  constructor
  · rintro ⟨there, same, lower⟩
    exact ⟨fun y hy => lower 0 y (by omega) (congrArg some hy), there, same, fun k y hk => lower (k + 1) y (by omega)⟩
  · rintro ⟨first, there, same, lower⟩
    refine ⟨there, same, fun k y hk hy => ?_⟩
    cases k with
    | zero => exact first y (Option.some.inj hy)
    | succ k => exact lower k y (by omega) hy

/-- A key is found in the lowest slot that holds it. -/
theorem findKey_eq_some_iff {slots : List (Option MapSlot)} {key : Key} {n : Nat} {x : MapSlot} :
    findKey slots key = some (n, x) ↔ HeldAt slots key n x := by
  induction slots generalizing n with
  | nil => simp [findKey_nil, HeldAt]
  | cons o slots ih =>
    by_cases first : ∃ y, o = some y ∧ y.entry.key = key
    · obtain ⟨y, rfl, same⟩ := first
      rw [findKey_cons_held same]
      cases n with
      | zero => simp [heldAt_cons_zero, and_iff_left_of_imp (fun h : y = x => h ▸ same)]
      | succ n => simp [heldAt_cons_succ, same]
    · have other : ∀ y, o = some y → y.entry.key ≠ key := fun y hy same => first ⟨y, hy, same⟩
      rw [findKey_cons_other other]
      cases n with
      | zero =>
        have none_held : ¬(o = some x ∧ x.entry.key = key) := fun h => other x h.1 h.2
        simp [heldAt_cons_zero, none_held]
      | succ n => simp [heldAt_cons_succ, ← ih, and_iff_right other]

/-- A key is not found where no slot holds it. -/
theorem findKey_eq_none_iff {slots : List (Option MapSlot)} {key : Key} :
    findKey slots key = none ↔ ∀ (n : Nat) (x : MapSlot), slots[n]? = some (some x) → x.entry.key ≠ key := by
  induction slots with
  | nil => simp [findKey_nil]
  | cons o slots ih =>
    by_cases first : ∃ y, o = some y ∧ y.entry.key = key
    · obtain ⟨y, rfl, same⟩ := first
      rw [findKey_cons_held same]
      exact ⟨nofun, fun h => absurd same (h 0 y rfl)⟩
    · have other : ∀ y, o = some y → y.entry.key ≠ key := fun y hy same => first ⟨y, hy, same⟩
      rw [findKey_cons_other other, Option.map_eq_none_iff, ih]
      refine ⟨fun h n x hx => ?_, fun h n x => h (n + 1) x⟩
      cases n with
      | zero => exact other x (Option.some.inj hx)
      | succ n => exact h n x hx

/-! ### The lowest empty slot -/

theorem firstEmptyFrom_succ (k : Nat) (slots : List (Option MapSlot)) :
    firstEmptyFrom (k + 1) slots = (firstEmptyFrom k slots).map (· + 1) := by
  induction slots generalizing k with
  | nil => rfl
  | cons o slots ih =>
    cases o with
    | none => rfl
    | some y => exact ih (k + 1)

theorem firstEmpty_eq_some_iff {slots : List (Option MapSlot)} {n : Nat} :
    firstEmptyFrom 0 slots = some n ↔ slots[n]? = some none ∧ ∀ k : Nat, k < n → slots[k]? ≠ some none := by
  induction slots generalizing n with
  | nil => simp [firstEmptyFrom]
  | cons o slots ih =>
    cases o with
    | none =>
      cases n with
      | zero => simp [firstEmptyFrom]
      | succ n => simpa [firstEmptyFrom] using fun _ => ⟨0, by omega, rfl⟩
    | some y =>
      rw [firstEmptyFrom, firstEmptyFrom_succ]
      cases n with
      | zero => simp
      | succ n => simp [ih, Nat.forall_lt_succ_left', -Order.lt_add_one_iff]

theorem firstEmpty_eq_none_iff {slots : List (Option MapSlot)} :
    firstEmptyFrom 0 slots = none ↔ ∀ n : Nat, slots[n]? ≠ some none := by
  induction slots with
  | nil => simp [firstEmptyFrom]
  | cons o slots ih =>
    cases o with
    | none => simpa [firstEmptyFrom] using ⟨0, rfl⟩
    | some y =>
      rw [firstEmptyFrom, firstEmptyFrom_succ, Option.map_eq_none_iff, ih]
      refine ⟨fun h n => ?_, fun h n => h (n + 1)⟩
      cases n with
      | zero => simp
      | succ n => exact h n

/-! ### Claims -/

theorem claims_iff {e : MapEntry} {id : Nat} {d : Dests} :
    e.claims id d = true ↔ e.route.action = .route ∧ e.route.outId = id ∧ e.route.dests.meets d = true := by
  simp [MapEntry.claims, and_assoc]

/-- An id is claimed for a set of ports where a ROUTE entry of a slot that is not left out gives it to one of them. -/
theorem claimedFrom_iff {id : Nat} {d : Dests} {except : Option Nat} {first : Nat} {slots : List (Option MapSlot)} :
    claimedFrom id d except first slots = true ↔
      ∃ (n : Nat) (x : MapSlot), except ≠ some (first + n) ∧ slots[n]? = some (some x) ∧
        x.entry.claims id d = true := by
  induction slots generalizing first with
  | nil => simp [claimedFrom]
  | cons o slots ih =>
    have shift (n : Nat) : first + 1 + n = first + (n + 1) := by omega
    rw [← Nat.or_exists_add_one]
    cases o with
    | none => simp [claimedFrom, ih, shift]
    | some y => simp [claimedFrom, ih, shift]

theorem claimed_iff {id : Nat} {d : Dests} {slots : List (Option MapSlot)} :
    claimed slots id d = true ↔ ∃ (n : Nat) (x : MapSlot), slots[n]? = some (some x) ∧ x.entry.route.action = .route ∧
      x.entry.route.outId = id ∧ x.entry.route.dests.meets d = true := by
  simp [claimed, claimedFrom_iff, claims_iff]

/-- What R128 step 4 and R129 forbid an entry: the management id, and an outgoing id that a slot not left out claims. -/
def Conflicting (slots : List (Option MapSlot)) (mgmtId : Nat) (except : Option Nat) (e : MapEntry) : Prop :=
  e.route.outId = mgmtId ∨ (e.key.origin = 4 ∧ e.key.id = mgmtId) ∨
    (e.route.action = .route ∧ ∃ (n : Nat) (x : MapSlot), except ≠ some n ∧ slots[n]? = some (some x) ∧
      x.entry.route.action = .route ∧ x.entry.route.outId = e.route.outId ∧
      x.entry.route.dests.meets e.route.dests = true)

theorem entryConflicts_iff {slots : List (Option MapSlot)} {except : Option Nat} {mgmtId : Nat} {e : MapEntry} :
    entryConflicts slots except mgmtId e = true ↔ Conflicting slots mgmtId except e := by
  simp [entryConflicts, Conflicting, claimedFrom_iff, claims_iff, or_assoc]

/-! ### The entries of a table -/

theorem mem_entriesIn {slots : List (Option MapSlot)} {e : MapEntry} :
    e ∈ entriesIn slots ↔ ∃ (n : Nat) (x : MapSlot), slots[n]? = some (some x) ∧ x.entry = e := by
  simp only [entriesIn, List.mem_filterMap, Option.map_eq_some_iff]
  constructor
  · rintro ⟨_, there, x, rfl, same⟩
    obtain ⟨n, hn⟩ := List.mem_iff_getElem?.mp there
    exact ⟨n, x, hn, same⟩
  · rintro ⟨n, x, hn, same⟩
    exact ⟨some x, List.mem_of_getElem? hn, x, rfl, same⟩

/-- The entries of the slots other than `n`. -/
theorem mem_entriesIn_eraseIdx {slots : List (Option MapSlot)} {n : Nat} {e : MapEntry} :
    e ∈ entriesIn (slots.eraseIdx n) ↔
      ∃ (k : Nat) (x : MapSlot), k ≠ n ∧ slots[k]? = some (some x) ∧ x.entry = e := by
  simp only [entriesIn, List.mem_filterMap, List.mem_eraseIdx_iff_getElem?, Option.map_eq_some_iff]
  constructor
  · rintro ⟨_, ⟨k, hk, hx⟩, x, rfl, same⟩
    exact ⟨k, x, hk, hx, same⟩
  · rintro ⟨k, x, hk, hx, same⟩
    exact ⟨some x, ⟨k, hk, hx⟩, x, rfl, same⟩

/-- A table's entries are what stands in one slot and the entries of the others. -/
theorem entriesIn_perm {slots : List (Option MapSlot)} {n : Nat} {o : Option MapSlot} (h : slots[n]? = some o) :
    (entriesIn slots).Perm ((o.map (·.entry)).toList ++ entriesIn (slots.eraseIdx n)) := by
  obtain ⟨inside, rfl⟩ := List.getElem?_eq_some_iff.mp h
  have apart := ((List.getElem_cons_eraseIdx_perm inside).filterMap (fun o => o.map (·.entry))).symm
  refine apart.trans (.of_eq ?_)
  cases slots[n] <;> rfl

theorem entriesIn_set_perm {slots : List (Option MapSlot)} {n : Nat} (inside : n < slots.length) (o : Option MapSlot) :
    (entriesIn (slots.set n o)).Perm ((o.map (·.entry)).toList ++ entriesIn (slots.eraseIdx n)) := by
  have there : (slots.set n o)[n]? = some o := by simp [inside]
  have apart := entriesIn_perm there
  rwa [List.eraseIdx_set_eq] at apart

/-- Tables whose slots hold the same entries have the same entries. -/
theorem entriesIn_congr {slots slots' : List (Option MapSlot)}
    (h : ∀ n : Nat, slots'[n]?.map (·.map (·.entry)) = slots[n]?.map (·.map (·.entry))) :
    entriesIn slots' = entriesIn slots := by
  have same : slots'.map (·.map (·.entry)) = slots.map (·.map (·.entry)) := by
    refine List.ext_getElem? (fun n => ?_)
    rw [List.getElem?_map, List.getElem?_map, h]
  have read (m : List (Option MapSlot)) : entriesIn m = (m.map (·.map (·.entry))).filterMap id := by
    rw [List.filterMap_map, entriesIn]
    rfl
  rw [read, read, same]

end Sys2Proof.Machine
end

section
/-! SUPPORT. The rules of the map, the cache and the origins (R116, R119, R125) over the definitions they are tested by, and the
changes that keep them. `MapKept` says of a change of state that it keeps them all. -/

namespace Sys2Proof.Machine

/-! ### The rules of a table (R119) -/

/-- Two entries of one table: of two keys, and no outgoing id given twice to a port. -/
def MapEntry.Compatible (e x : MapEntry) : Prop :=
  e.key ≠ x.key ∧ ¬(e.route.action = .route ∧ x.route.action = .route ∧ x.route.outId = e.route.outId ∧
    x.route.dests.meets e.route.dests = true)

/-- An entry off the management id. -/
def MapEntry.Allowed (mgmtId : Nat) (e : MapEntry) : Prop :=
  e.route.outId ≠ mgmtId ∧ ¬(e.key.origin = 4 ∧ e.key.id = mgmtId)

/-- The rules of R119 on the entries of a table. -/
def TableOk (mgmtId : Nat) (es : List MapEntry) : Prop :=
  es.Pairwise MapEntry.Compatible ∧ ∀ e ∈ es, e.Allowed mgmtId ∧ e.route.outId ≤ 8190

theorem Dests.meets_comm (a b : Dests) : a.meets b = b.meets a := by
  simp only [Dests.meets, Bool.and_comm]

theorem MapEntry.Compatible.symm {e x : MapEntry} (h : e.Compatible x) : x.Compatible e := by
  refine ⟨h.1.symm, fun ⟨hx, he, same, meet⟩ => h.2 ⟨he, hx, same.symm, ?_⟩⟩
  rwa [Dests.meets_comm]

theorem keysDistinct_iff {es : List MapEntry} : keysDistinct es = true ↔ es.Pairwise (fun e x => e.key ≠ x.key) := by
  induction es with
  | nil => simp [keysDistinct]
  | cons e es ih => simp [keysDistinct, ih, @eq_comm _ e.key]

theorem claimsDistinct_iff {es : List MapEntry} : claimsDistinct es = true ↔ es.Pairwise (fun e x =>
    ¬(e.route.action = .route ∧ x.route.action = .route ∧ x.route.outId = e.route.outId ∧
      x.route.dests.meets e.route.dests = true)) := by
  induction es with
  | nil => simp [claimsDistinct]
  | cons e es ih => simp [claimsDistinct, ih, ← claims_iff, imp_iff_not_or]

theorem imageConflicts_eq_false_iff {mgmtId : Nat} {es : List MapEntry} :
    imageConflicts mgmtId es = false ↔ (∀ e ∈ es, e.Allowed mgmtId) ∧ claimsDistinct es = true := by
  simp [imageConflicts, MapEntry.Allowed]

/-- The tests of an image and of a table's ids are the rules of R119. -/
theorem tableOk_iff {mgmtId : Nat} {es : List MapEntry} : TableOk mgmtId es ↔
    keysDistinct es = true ∧ imageConflicts mgmtId es = false ∧ ∀ e ∈ es, e.route.outId ≤ 8190 := by
  rw [imageConflicts_eq_false_iff, keysDistinct_iff, claimsDistinct_iff, TableOk]
  constructor
  · rintro ⟨pairs, each⟩
    exact ⟨pairs.imp And.left, ⟨fun e he => (each e he).1, pairs.imp And.right⟩, fun e he => (each e he).2⟩
  · rintro ⟨keys, ⟨allowed, claims⟩, low⟩
    exact ⟨keys.and claims, fun e he => ⟨allowed e he, low e he⟩⟩

theorem TableOk.perm {mgmtId : Nat} {es es' : List MapEntry} (h : TableOk mgmtId es) (p : es.Perm es') :
    TableOk mgmtId es' :=
  ⟨(p.pairwise_iff MapEntry.Compatible.symm).mp h.1, fun e he => h.2 e (p.mem_iff.mpr he)⟩

theorem TableOk.tail {mgmtId : Nat} {e : MapEntry} {es : List MapEntry} (h : TableOk mgmtId (e :: es)) :
    TableOk mgmtId es := ⟨h.1.of_cons, fun x hx => h.2 x (List.mem_cons_of_mem e hx)⟩

/-- What stands in the other slots of a table that keeps the rules keeps them. -/
theorem TableOk.erased {mgmtId : Nat} {slots : List (Option MapSlot)} {n : Nat} {o : Option MapSlot}
    (h : TableOk mgmtId (entriesIn slots)) (there : slots[n]? = some o) : TableOk mgmtId (entriesIn (slots.eraseIdx n)) := by
  have apart := h.perm (entriesIn_perm there)
  cases o with
  | none => exact apart
  | some x => exact apart.tail

/-- An entry that a slot of a table holds is compatible with what every other slot holds. -/
theorem TableOk.compatible {mgmtId : Nat} {slots : List (Option MapSlot)} {n k : Nat} {x y : MapSlot}
    (h : TableOk mgmtId (entriesIn slots)) (there : slots[n]? = some (some x)) (hk : k ≠ n)
    (other : slots[k]? = some (some y)) : x.entry.Compatible y.entry :=
  List.rel_of_pairwise_cons (h.perm (entriesIn_perm there)).1 (mem_entriesIn_eraseIdx.mpr ⟨k, y, hk, other, rfl⟩)

/-- A slot may be set to an entry that is off the management id and compatible with the other slots' entries. -/
theorem TableOk.set_some {mgmtId : Nat} {slots : List (Option MapSlot)} {n : Nat} {o : Option MapSlot} {e : MapEntry}
    (h : TableOk mgmtId (entriesIn slots)) (there : slots[n]? = some o) (counter : Nat) (allowed : e.Allowed mgmtId)
    (low : e.route.outId ≤ 8190)
    (others : ∀ (k : Nat) (y : MapSlot), k ≠ n → slots[k]? = some (some y) → e.Compatible y.entry) :
    TableOk mgmtId (entriesIn (slots.set n (some ⟨e, counter⟩))) := by
  obtain ⟨inside, -⟩ := List.getElem?_eq_some_iff.mp there
  have rest := h.erased there
  refine TableOk.perm
    ⟨List.pairwise_cons.mpr ⟨fun x hx => ?_, rest.1⟩, List.forall_mem_cons.mpr ⟨⟨allowed, low⟩, rest.2⟩⟩
    (entriesIn_set_perm inside (some ⟨e, counter⟩)).symm
  obtain ⟨k, y, hk, hy, rfl⟩ := mem_entriesIn_eraseIdx.mp hx
  exact others k y hk hy

theorem TableOk.set_none {mgmtId : Nat} {slots : List (Option MapSlot)} {n : Nat} {o : Option MapSlot}
    (h : TableOk mgmtId (entriesIn slots)) (there : slots[n]? = some o) :
    TableOk mgmtId (entriesIn (slots.set n none)) := by
  obtain ⟨inside, -⟩ := List.getElem?_eq_some_iff.mp there
  exact (h.erased there).perm (entriesIn_set_perm inside none).symm

/-- Another management id that no entry uses (R195). -/
theorem TableOk.of_unused {mgmtId id : Nat} {slots : List (Option MapSlot)} (h : TableOk mgmtId (entriesIn slots))
    (unused : idInUse slots id = false) : TableOk id (entriesIn slots) := by
  refine ⟨h.1, fun e he => ⟨?_, (h.2 e he).2⟩⟩
  obtain ⟨n, x, there, rfl⟩ := mem_entriesIn.mp he
  have free := List.any_eq_false.mp unused (some x) (List.mem_of_getElem? there)
  simpa [MapEntry.Allowed] using free

/-- The rules on the map: 1024 slots, the rules of R119 on what stands in them, staged outgoing ids up to 8190. -/
theorem mapOk_iff {mgmtId : Nat} {m : MapUnit} : mapOk mgmtId m = true ↔ m.slots.length = 1024 ∧
    TableOk mgmtId (entriesIn m.slots) ∧
    ∀ st, m.staging = some st → ∀ e ∈ st.entries, e.route.outId ≤ 8190 := by
  rw [tableOk_iff]
  cases h : m.staging <;> simp [mapOk, h, and_assoc]

/-! ### The rules of the cache (R125) -/

theorem cacheOk_iff {cache : List CacheResult} :
    cacheOk cache = true ↔ cache.length ≤ 32 ∧ (cache.map (·.key)).Nodup := by
  simp [cacheOk]

theorem cacheOk_sublist {cache kept : List CacheResult} (h : cacheOk cache = true) (part : kept.Sublist cache) :
    cacheOk kept = true := by
  rw [cacheOk_iff] at h ⊢
  exact ⟨part.length_le.trans h.1, h.2.sublist (part.map _)⟩

/-- A result of a new key may go to the front of a cache with room. -/
theorem cacheOk_cons {r : CacheResult} {cache : List CacheResult} (h : cacheOk cache = true) (room : cache.length < 32)
    (new : ∀ x ∈ cache, x.key ≠ r.key) : cacheOk (r :: cache) = true := by
  rw [cacheOk_iff] at h ⊢
  refine ⟨room, List.nodup_cons.mpr ⟨fun there => ?_, h.2⟩⟩
  obtain ⟨x, hx, same⟩ := List.mem_map.mp there
  exact new x hx same

/-! ### The rule of the origins (R116) -/

theorem OriginSetting.clashes_comm (a b : OriginSetting) : a.clashes b = b.clashes a := by
  simp only [OriginSetting.clashes, Dests.meets_comm a.dests b.dests, Bool.and_comm]

/-- Origins are 0 to 4. -/
theorem mem_originList {k : Nat} : k ∈ [0, 1, 2, 3, 4] ↔ k ≤ 4 := by
  simp only [List.mem_cons, List.not_mem_nil, or_false]
  omega

theorem originsOk_iff {m : MapUnit} : originsOk m = true ↔
    ∀ i j, i ≤ 4 → j ≤ 4 → i ≠ j → (originSetting m i).clashes (originSetting m j) = false := by
  simp only [originsOk, List.all_eq_true, mem_originList, Bool.or_eq_true, decide_eq_true_eq, Bool.not_eq_true']
  exact ⟨fun h i j hi hj other => (h i hi j hj).resolve_left other,
    fun h i hi j hj => or_iff_not_imp_left.mpr (h i j hi hj)⟩

theorem originConflicts_iff {m : MapUnit} {origin : Nat} {o : OriginSetting} : originConflicts m origin o = true ↔
    ∃ k, k ≤ 4 ∧ k ≠ origin ∧ o.clashes (originSetting m k) = true := by
  simp only [originConflicts, List.any_eq_true, mem_originList, Bool.and_eq_true, decide_eq_true_eq]

/-- The setting of an origin after one origin's setting is replaced. -/
theorem originSetting_set {m : MapUnit} {origin : Nat} (h : origin < 5) (o : OriginSetting) (cache : List CacheResult)
    (k : Nat) : originSetting { m with origins := m.origins.set origin o h, cache := cache } k =
      if k = origin then o else originSetting m k := by
  unfold originSetting
  dsimp only
  split
  next same => subst same; simp [h]
  next other => rw [Vector.getElem?_set_ne h (Ne.symm other)]

theorem originsOk_set {m : MapUnit} {origin : Nat} (h : origin < 5) {o : OriginSetting} (cache : List CacheResult)
    (ok : originsOk m = true) (free : originConflicts m origin o = false) :
    originsOk { m with origins := m.origins.set origin o h, cache := cache } = true := by
  rw [originsOk_iff] at ok ⊢
  have apart (k : Nat) (hk : k ≤ 4) (other : k ≠ origin) : o.clashes (originSetting m k) = false :=
    Bool.not_eq_true _ ▸ fun clash => by
      rw [originConflicts_iff.mpr ⟨k, hk, other, clash⟩] at free
      cases free
  intro i j hi hj other
  rw [originSetting_set, originSetting_set]
  split
  next at_i => subst at_i; rw [if_neg other.symm]; exact apart j hj other.symm
  next =>
    split
    next at_j => subst at_j; rw [OriginSetting.clashes_comm]; exact apart i hi other
    next => exact ok i j hi hj other

end Sys2Proof.Machine
end

section
/-! SUPPORT. A lookup and its effects (R125, R126), in a form that says each at once: the result used, the cache after it, and
the one counter that moves. -/

namespace Sys2Proof.Machine

/-- An occupied slot's counter increases where the slot holds the key (R126). -/
def MapSlot.counted (key : Key) (x : MapSlot) : MapSlot :=
  ⟨x.entry, if x.entry.key = key then (x.counter + 1) % 4294967296 else x.counter⟩

theorem counted_same {key : Key} {x : MapSlot} (h : x.entry.key = key) :
    x.counted key = { x with counter := wrap32 (x.counter + 1) } := by
  rw [MapSlot.counted, if_pos h, wrap32]

theorem counted_other {key : Key} {x : MapSlot} (h : x.entry.key ≠ key) : x.counted key = x := by
  rw [MapSlot.counted, if_neg h]

theorem countSlot_getElem? (key : Key) (n i : Nat) (slots : List (Option MapSlot)) : (countSlot key n slots)[i]? =
    if n = i then slots[i]?.map (·.map (·.counted key)) else slots[i]? := by
  by_cases at_n : n = i
  · subst at_n
    rw [if_pos rfl]
    unfold countSlot
    split
    next x there =>
      obtain ⟨inside, -⟩ := List.getElem?_eq_some_iff.mp there
      split
      next same =>
        rw [there, List.getElem?_set_self inside, Option.map_some, Option.map_some, counted_same same]
      next other => simp [there, counted_other other]
    next vacant =>
      cases there : slots[n]? with
      | none => rfl
      | some o =>
        cases o with
        | none => rfl
        | some x => exact absurd there (vacant x)
  · rw [if_neg at_n]
    unfold countSlot
    split
    · split
      · exact List.getElem?_set_ne at_n
      · rfl
    · rfl

/-- The slots after a lookup whose result names a slot, or none. -/
def countNamed (key : Key) (named : Option Nat) (slots : List (Option MapSlot)) : List (Option MapSlot) :=
  match named with
  | none => slots
  | some n => countSlot key n slots

theorem countNamed_getElem? (key : Key) (named : Option Nat) (i : Nat) (slots : List (Option MapSlot)) :
    (countNamed key named slots)[i]? =
      if named = some i then slots[i]?.map (·.map (·.counted key)) else slots[i]? := by
  cases named with
  | none => rfl
  | some n => rw [countNamed, countSlot_getElem?]; simp only [Option.some.injEq]

theorem countNamed_length (key : Key) (named : Option Nat) (slots : List (Option MapSlot)) :
    (countNamed key named slots).length = slots.length := by
  unfold countNamed countSlot
  split
  · rfl
  · split
    · split
      · exact List.length_set
      · rfl
    · rfl

theorem entriesIn_countNamed (key : Key) (named : Option Nat) (slots : List (Option MapSlot)) :
    entriesIn (countNamed key named slots) = entriesIn slots := by
  refine entriesIn_congr (fun n => ?_)
  rw [countNamed_getElem?]
  split
  · rw [Option.map_map]
    congr 1
    funext o
    cases o <;> rfl
  · rfl

theorem lookup_eq (m : MapUnit) (key : Key) : lookup m key = ((cacheLookup m key).1.found.map (·.2),
    { m with
      slots := countNamed key ((cacheLookup m key).1.found.map (·.1)) m.slots
      cache := (cacheLookup m key).2 }) := by
  unfold lookup
  dsimp only
  split
  next absent => rw [absent]; rfl
  next n route found => rw [found]; rfl

theorem cacheLookup_hit {m : MapUnit} {key : Key} {r : CacheResult}
    (h : m.cache.find? (fun x => decide (x.key = key)) = some r) :
    cacheLookup m key = (r, r :: m.cache.filter (fun x => decide (x.key ≠ key))) := by
  simp only [cacheLookup, h]

theorem cacheLookup_miss {m : MapUnit} {key : Key} (h : m.cache.find? (fun x => decide (x.key = key)) = none) :
    cacheLookup m key = (missResult m.slots key,
      missResult m.slots key :: (if 32 ≤ m.cache.length then m.cache.dropLast else m.cache)) := by
  simp only [cacheLookup, h]

/-- A lookup keeps the limit of the cache and its keys apart (R125). -/
theorem cacheOk_cacheLookup {m : MapUnit} {key : Key} (h : cacheOk m.cache = true) :
    cacheOk (cacheLookup m key).2 = true := by
  have short : m.cache.length ≤ 32 := (cacheOk_iff.mp h).1
  cases found : m.cache.find? (fun x => decide (x.key = key)) with
  | some r =>
    have same : r.key = key := by simpa using List.find?_some found
    have fewer : (m.cache.filter (fun x => decide (x.key ≠ key))).length < m.cache.length :=
      List.length_filter_lt_length_iff_exists.mpr ⟨r, List.mem_of_find?_eq_some found, by simp [same]⟩
    rw [cacheLookup_hit found]
    refine cacheOk_cons (cacheOk_sublist h List.filter_sublist) (by omega) (fun x hx => ?_)
    rw [same]
    exact of_decide_eq_true (List.mem_filter.mp hx).2
  | none =>
    have new : ∀ x ∈ m.cache, x.key ≠ key := by simpa using List.find?_eq_none.mp found
    rw [cacheLookup_miss found]
    split
    · refine cacheOk_cons (cacheOk_sublist h (List.dropLast_sublist _)) ?_ (fun x hx => new x (List.dropLast_subset _ hx))
      rw [List.length_dropLast]
      omega
    · exact cacheOk_cons h (by omega) new

/-- A decision of the map leaves the map as it is, or as a lookup leaves it (R122). -/
theorem decideFate_snd (m : MapUnit) (origin : Nat) (p : Packet) :
    (decideFate m origin p).2 = m ∨ (decideFate m origin p).2 = (lookup m ⟨origin, pktId p⟩).2 := by
  unfold decideFate
  dsimp only
  split
  · exact .inl rfl
  · refine .inr ?_
    split
    · rfl
    · split <;> rfl

end Sys2Proof.Machine
end

section
/-! SUPPORT. The rules of R116, R119 and R125 through the arrivals at the map, the map and origin requests and PART SETUP (R117,
R122, R127 to R135, R195). -/

namespace Sys2Proof.Machine

/-- A change that keeps the rules on the map, on the cache and on the origins, each on its own. -/
structure MapKept (s t : State) : Prop where
  map : mapOk s.mgmt.id s.smap = true → mapOk t.mgmt.id t.smap = true
  cache : cacheOk s.smap.cache = true → cacheOk t.smap.cache = true
  origins : originsOk s.smap = true → originsOk t.smap = true

theorem MapKept.refl (s : State) : MapKept s s := ⟨id, id, id⟩

theorem MapKept.trans {s t u : State} (h : MapKept s t) (k : MapKept t u) : MapKept s u :=
  ⟨k.map ∘ h.map, k.cache ∘ h.cache, k.origins ∘ h.origins⟩

/-- Work that leaves the map and the management id. -/
theorem MapKept.of_chart {s t : State} (h : t.chart = s.chart) : MapKept s t := by
  obtain ⟨mgmtId, smap⟩ := chart_eq_iff.mp h
  constructor <;> rw [smap]
  · rw [mgmtId]; exact id
  · exact id
  · exact id

theorem MapKept.of_chain {s t : State} (h : t.chain = s.chain) : MapKept s t := .of_chart (chart_of_chain h)

/-- A change of the slots alone. -/
theorem MapKept.of_slots {s : State} {slots : List (Option MapSlot)} (length : slots.length = s.smap.slots.length)
    (table : TableOk s.mgmt.id (entriesIn s.smap.slots) → TableOk s.mgmt.id (entriesIn slots)) :
    MapKept s { s with smap := { s.smap with slots := slots } } where
  map := fun h => by
    obtain ⟨size, rules, staged⟩ := mapOk_iff.mp h
    exact mapOk_iff.mpr ⟨length.trans size, table rules, staged⟩
  cache := id
  origins := id

/-- A change of the staging area alone. -/
theorem MapKept.of_staging {s : State} {staging : Option Staging}
    (low : (∀ st, s.smap.staging = some st → ∀ e ∈ st.entries, e.route.outId ≤ 8190) →
      ∀ st, staging = some st → ∀ e ∈ st.entries, e.route.outId ≤ 8190) :
    MapKept s { s with smap := { s.smap with staging := staging } } where
  map := fun h => by
    obtain ⟨size, rules, staged⟩ := mapOk_iff.mp h
    exact mapOk_iff.mpr ⟨size, rules, low staged⟩
  cache := id
  origins := id

/-- Results that leave the cache. -/
theorem MapKept.of_kept_results {s : State} (gone : Key → Bool) :
    MapKept s { s with smap := { s.smap with cache := keepResults gone s.smap.cache } } where
  map := id
  cache := fun h => cacheOk_sublist h List.filter_sublist
  origins := id

/-! ### Arrivals (R121 to R126) -/

theorem mapKept_lookup (key : Key) (s : State) : MapKept s { s with smap := (lookup s.smap key).2 } := by
  rw [lookup_eq]
  refine ⟨fun h => ?_, cacheOk_cacheLookup, id⟩
  obtain ⟨size, rules, staged⟩ := mapOk_iff.mp h
  refine mapOk_iff.mpr ⟨(countNamed_length _ _ _).trans size, ?_, staged⟩
  rwa [entriesIn_countNamed]

theorem mapKept_decideFate (origin : Nat) (p : Packet) (s : State) :
    MapKept s { s with smap := (decideFate s.smap origin p).2 } := by
  rcases decideFate_snd s.smap origin p with same | looked <;> [rw [same]; rw [looked]]
  · exact .refl s
  · exact mapKept_lookup _ s

theorem mapKept_mapArrival (origin : Nat) (p : Packet) (s : State) : MapKept s (mapArrival origin p s) := by
  unfold mapArrival
  split
  · exact .refl s
  · split
    · exact .of_chart (chart_report _ _ _ s)
    · split
      · exact .refl s
      · have judged := (MapKept.of_chart (chart_offer origin p s)).trans (mapKept_decideFate origin p _)
        dsimp only
        split
        · exact judged
        · exact judged.trans (.of_chart (chart_handCopies _ _))

/-! ### MAP EDIT and MAP READ (R128 to R130) -/

/-- An entry that passes the structure test carries the form's key and an outgoing id up to 8190 (R119, R184). -/
theorem entryOf_fields {f : EntryForm} {e : MapEntry} (h : entryOf f = some e) :
    e.key = ⟨f.origin, f.inId⟩ ∧ e.route.outId ≤ 8190 := by
  unfold entryOf at h
  split at h
  next a d _ _ =>
    split at h
    · cases h
    next inRange =>
      obtain rfl := Option.some.inj h
      exact ⟨rfl, by dsimp only; omega⟩
  · cases h

/-- An entry that conflicts with nothing is off the management id, and no other slot gives its outgoing id to its ports. -/
theorem allowed_of_not_conflicting {slots : List (Option MapSlot)} {mgmtId : Nat} {except : Option Nat} {e : MapEntry}
    (h : ¬Conflicting slots mgmtId except e) : e.Allowed mgmtId :=
  ⟨fun out => h (.inl out), fun key => h (.inr (.inl key))⟩

theorem compatible_of_not_conflicting {slots : List (Option MapSlot)} {mgmtId k : Nat} {except : Option Nat} {e : MapEntry}
    {y : MapSlot} (h : ¬Conflicting slots mgmtId except e) (other : except ≠ some k) (there : slots[k]? = some (some y))
    (keys : y.entry.key ≠ e.key) : e.Compatible y.entry :=
  ⟨keys.symm, fun ⟨route, claim⟩ => h (.inr (.inr ⟨route, k, y, other, there, claim⟩))⟩

theorem mapKept_doMapEditAdd (f : EntryForm) (s : State) : MapKept s (doMapEditAdd f s).1 := by
  unfold doMapEditAdd
  dsimp only
  split
  · exact .refl s
  · split
    · exact .refl s
    next e structured =>
      split
      · exact .refl s
      next absent =>
        split
        · exact .refl s
        next n lowest =>
          split
          · exact .refl s
          next free =>
            have new := findKey_eq_none_iff.mp (Option.not_isSome_iff_eq_none.mp absent)
            have vacant := (firstEmpty_eq_some_iff.mp lowest).1
            rw [entryConflicts_iff] at free
            refine .of_slots List.length_set (fun rules => ?_)
            exact rules.set_some vacant 0 (allowed_of_not_conflicting free) (entryOf_fields structured).2
              (fun k y _ there => compatible_of_not_conflicting free (by simp) there (new k y there))

theorem editTarget_ok {f : EntryForm} {s : State} {n : Nat} {x : MapSlot} (h : editTarget f s = .ok (n, x)) :
    HeldAt s.smap.slots ⟨f.origin, f.inId⟩ n x := by
  unfold editTarget at h
  split at h
  · cases h
  · split at h
    · cases h
    · split at h
      · cases h
      next found =>
        obtain rfl := Except.ok.inj h
        exact findKey_eq_some_iff.mp found

theorem mapKept_doMapEditReplace (f : EntryForm) (s : State) : MapKept s (doMapEditReplace f s).1 := by
  unfold doMapEditReplace
  split
  · exact .refl s
  next n old target =>
    obtain ⟨there, same, -⟩ := editTarget_ok target
    split
    · exact .refl s
    next e structured =>
      split
      · exact .refl s
      next free =>
        obtain ⟨key, low⟩ := entryOf_fields structured
        rw [entryConflicts_iff] at free
        refine .of_slots List.length_set (fun rules => ?_)
        refine rules.set_some there old.counter (allowed_of_not_conflicting free) low (fun k y other hy => ?_)
        have keys : y.entry.key ≠ e.key := by
          rw [key, ← same]
          exact (rules.compatible there other hy).1.symm
        exact compatible_of_not_conflicting free (fun h => other (Option.some.inj h).symm) hy keys

theorem mapKept_doMapEditRemove (f : EntryForm) (s : State) : MapKept s (doMapEditRemove f s).1 := by
  unfold doMapEditRemove
  split
  · exact .refl s
  next n _ target =>
    obtain ⟨there, -⟩ := editTarget_ok target
    exact .of_slots List.length_set (fun rules => rules.set_none there)

theorem mapKept_judgeMapEdit (ps : List Byte) (s : State) : MapKept s (judgeMapEdit ps s).1 := by
  unfold judgeMapEdit
  split
  · exact mapKept_doMapEditAdd _ s
  · exact mapKept_doMapEditReplace _ s
  · exact mapKept_doMapEditRemove _ s
  · exact .refl s

theorem clearRange_length (slots : List (Option MapSlot)) (first n : Nat) :
    (clearRange slots first n).length = slots.length := by
  simp only [clearRange, List.length_append, List.length_take, List.length_map, List.length_drop]
  omega

theorem entriesIn_clearRange (slots : List (Option MapSlot)) (first n : Nat) :
    entriesIn (clearRange slots first n) = entriesIn slots := by
  refine entriesIn_congr (fun i => ?_)
  rw [clearRange_getElem?]
  split
  · rw [Option.map_map]
    congr 1
    funext o
    cases o <;> rfl
  · rfl

theorem mapKept_doMapRead (first count : Nat) (clear : Bool) (s : State) : MapKept s (doMapRead first count clear s).1 := by
  unfold doMapRead
  split
  · exact .refl s
  · dsimp only
    split
    · refine .of_slots (clearRange_length _ _ _) (fun rules => ?_)
      rwa [entriesIn_clearRange]
    · exact .refl s

/-! ### MAP INVALIDATE and ORIGIN SETUP (R127, R117) -/

theorem mapKept_doMapInvalidate (granularity origin id m : Nat) (s : State) :
    MapKept s (doMapInvalidate granularity origin id m s).1 := by
  unfold doMapInvalidate
  split
  · exact .refl s
  · exact .of_kept_results _

theorem mapKept_doOriginSetup (origin : Nat) (f : OriginForm) (s : State) : MapKept s (doOriginSetup origin f s).1 := by
  unfold doOriginSetup
  split
  next inRange =>
    split
    · exact .refl s
    · split
      · exact .refl s
      next free =>
        exact ⟨id, fun h => cacheOk_sublist h List.filter_sublist,
          fun h => originsOk_set inRange _ h (Bool.not_eq_true _ ▸ free)⟩
  · exact .refl s

/-! ### MAP LOAD and MAP ABORT (R131 to R135) -/

theorem mapKept_failLoad (code : Nat) (r : RefuseReason) (s : State) : MapKept s (failLoad code r s).1 := by
  have closed : MapKept s { s with smap := { s.smap with staging := none } } := .of_staging (fun _ => nofun)
  exact closed.trans (.of_chart (chart_report _ _ _ _))

theorem entriesOf_low {fs : List EntryForm} {es : List MapEntry} (h : entriesOf fs = some es) :
    ∀ e ∈ es, e.route.outId ≤ 8190 := by
  induction fs generalizing es with
  | nil => obtain rfl := Option.some.inj h; nofun
  | cons f fs ih =>
    unfold entriesOf at h
    split at h
    next e rest first others =>
      obtain rfl := Option.some.inj h
      exact List.forall_mem_cons.mpr ⟨(entryOf_fields first).2, ih others⟩
    · cases h

theorem entriesIn_imageSlots (es : List MapEntry) : entriesIn (imageSlots es) = es := by
  have vacant : entriesIn (List.replicate (1024 - es.length) none) = [] := List.filterMap_replicate_of_none rfl
  unfold imageSlots
  rw [entriesIn, List.filterMap_append, ← entriesIn, ← entriesIn, vacant, List.append_nil, entriesIn, List.filterMap_map]
  exact List.filterMap_some

theorem imageSlots_length {es : List MapEntry} (h : es.length ≤ 1024) : (imageSlots es).length = 1024 := by
  simp only [imageSlots, List.length_append, List.length_map, List.length_replicate]
  omega

/-- The swap: an image that passes its tests keeps the rules of R119, as the new table (R134). -/
theorem mapKept_finishLoad (total : Nat) {es : List MapEntry} {s : State} (short : es.length ≤ 1024)
    (low : mapOk s.mgmt.id s.smap = true → ∀ e ∈ es, e.route.outId ≤ 8190) : MapKept s (finishLoad total es s).1 := by
  unfold finishLoad
  split
  · exact mapKept_failLoad _ _ s
  · split
    · exact mapKept_failLoad _ _ s
    next distinct =>
      split
      · exact mapKept_failLoad _ _ s
      next free =>
        refine ⟨fun h => mapOk_iff.mpr ⟨imageSlots_length short, ?_, nofun⟩, fun _ => rfl, id⟩
        change TableOk s.mgmt.id (entriesIn (imageSlots es))
        rw [entriesIn_imageSlots]
        exact tableOk_iff.mpr ⟨Bool.not_eq_false _ ▸ distinct, Bool.not_eq_true _ ▸ free, low h⟩

/-- The staging area that a segment joins: the open one, or a new one (R131). -/
def stagingFor (g : SegmentForm) (s : State) : Staging :=
  s.smap.staging.getD ⟨g.tag, g.total, 0, []⟩

theorem stagingFor_low {g : SegmentForm} {s : State}
    (h : ∀ st, s.smap.staging = some st → ∀ e ∈ st.entries, e.route.outId ≤ 8190) :
    ∀ e ∈ (stagingFor g s).entries, e.route.outId ≤ 8190 := by
  unfold stagingFor
  cases opened : s.smap.staging with
  | none => nofun
  | some st => exact h st opened

/-! What MAP LOAD does by its tests, in their order (R131 to R133). -/

theorem doMapLoad_badLength {g : SegmentForm} (s : State) (h : 21 < g.count ∨ g.entries.length ≠ g.count) :
    doMapLoad g s = failLoad 9 .badParam s := if_pos h

section
variable {g : SegmentForm} {s : State} (lengths : ¬(21 < g.count ∨ g.entries.length ≠ g.count))
include lengths

theorem doMapLoad_outOfSequence {code : Nat} (fails : sequenceTest s.smap.staging g = some code) :
    doMapLoad g s = failLoad code .sequence s := by
  simp only [doMapLoad, if_neg lengths, fails]

theorem doMapLoad_unstructured (inSequence : sequenceTest s.smap.staging g = none) (fails : entriesOf g.entries = none) :
    doMapLoad g s = failLoad 9 .badParam s := by
  simp only [doMapLoad, if_neg lengths, inSequence, fails]

theorem doMapLoad_joined {es : List MapEntry} (inSequence : sequenceTest s.smap.staging g = none)
    (structured : entriesOf g.entries = some es) :
    doMapLoad g s =
      if g.last then finishLoad g.total (((stagingFor g s).entries ++ es).take 1024) s
      else ({ s with smap := { s.smap with staging := some ⟨(stagingFor g s).tag, (stagingFor g s).total,
          (stagingFor g s).received + g.count, ((stagingFor g s).entries ++ es).take 1024⟩ } }, .now (.done [])) := by
  unfold doMapLoad stagingFor
  rw [if_neg lengths]
  simp only [inSequence, structured]
  cases s.smap.staging <;> rfl

end

theorem mapKept_doMapLoad (g : SegmentForm) (s : State) : MapKept s (doMapLoad g s).1 := by
  by_cases lengths : 21 < g.count ∨ g.entries.length ≠ g.count
  · rw [doMapLoad_badLength s lengths]
    exact mapKept_failLoad _ _ s
  cases inSequence : sequenceTest s.smap.staging g with
  | some code =>
    rw [doMapLoad_outOfSequence lengths inSequence]
    exact mapKept_failLoad _ _ s
  | none =>
    cases structured : entriesOf g.entries with
    | none =>
      rw [doMapLoad_unstructured lengths inSequence structured]
      exact mapKept_failLoad _ _ s
    | some es =>
      have joined (staged : ∀ st, s.smap.staging = some st → ∀ e ∈ st.entries, e.route.outId ≤ 8190) :
          ∀ e ∈ ((stagingFor g s).entries ++ es).take 1024, e.route.outId ≤ 8190 := fun e he =>
        (List.mem_append.mp (List.mem_of_mem_take he)).elim (stagingFor_low staged e) (entriesOf_low structured e)
      rw [doMapLoad_joined lengths inSequence structured]
      split
      · exact mapKept_finishLoad _ (List.length_take_le _ _) (fun h => joined (mapOk_iff.mp h).2.2)
      · refine .of_staging (fun staged st opened => ?_)
        obtain rfl := Option.some.inj opened
        exact joined staged

theorem mapKept_doMapAbort (s : State) : MapKept s (doMapAbort s).1 := .of_staging (fun _ => nofun)

/-! ### PART SETUP (R195) -/

theorem mapKept_doPartSetup (id : Nat) (notices : Bool) (s : State) : MapKept s (doPartSetup id notices s).1 := by
  unfold doPartSetup
  split
  · exact .refl s
  · split
    · exact .refl s
    next unused =>
      refine ⟨fun h => ?_, fun h => h, fun h => h⟩
      obtain ⟨size, rules, staged⟩ := mapOk_iff.mp h
      exact mapOk_iff.mpr ⟨size, rules.of_unused (Bool.not_eq_true _ ▸ unused), staged⟩

end Sys2Proof.Machine
end

section
/-! SUPPORT. The rules of R116, R119 and R125 through the requests and units on the chain (R151, R186 to R190), the resets
(R136) and every command; and O7 and O8. -/

namespace Sys2Proof.Machine

/-! ### The dictionary of requests (11.5) -/

/-- A request whose judging keeps the rules of the map. -/
def JudgeKeepsMap (judge : State → State × Answer) : Prop := ∀ s, MapKept s (judge s).1

theorem JudgeKeepsMap.of_chain {judge : State → State × Answer} (h : ∀ s, (judge s).1.chain = s.chain) :
    JudgeKeepsMap judge := fun s => .of_chain (h s)

theorem JudgeKeepsMap.of_chart {judge : State → State × Answer} (h : ∀ s, (judge s).1.chart = s.chart) :
    JudgeKeepsMap judge := fun s => .of_chart (h s)

theorem mapKept_judgeParams (tag code : Nat) (ps : List Byte) : JudgeKeepsMap (judgeParams tag code ps) := by
  have lanes {judge : State → State × Answer} (s : State) (h : ∀ s, (judge s).1.chain = s.chain) :
      MapKept s (judge s).1 := JudgeKeepsMap.of_chain h s
  have banks {judge : State → State × Answer} (s : State) (h : ∀ s, (judge s).1.chart = s.chart) :
      MapKept s (judge s).1 := JudgeKeepsMap.of_chart h s
  intro s
  unfold judgeParams
  split
  · exact .refl s
  · exact mapKept_doPartSetup _ _ s
  · exact lanes s (chain_doLaneSetup _ _)
  · exact lanes s (chain_doLaneStart _)
  · exact lanes s (chain_doLaneStop _)
  · exact lanes s (chain_doLaneRead _ _)
  · exact lanes s (chain_doProfileRead _)
  · exact lanes s (chain_doPair _)
  · exact lanes s (chain_doUnpair _)
  · exact lanes s (chain_doPoolSetup _ _ _ _)
  · exact lanes s (chain_doPoolRead _)
  · exact lanes s (chain_doDecoderSetup _ _)
  · exact lanes s (chain_doDecoderRead _)
  · exact mapKept_doMapAbort s
  · exact mapKept_judgeMapEdit ps s
  · exact mapKept_doMapRead _ _ _ s
  · exact mapKept_doMapInvalidate _ _ _ _ s
  · exact mapKept_doOriginSetup _ _ s
  · exact .refl s
  · exact banks s (chart_doPortSetup _ _ _ _ _)
  · exact banks s (chart_doPortStop _ _)
  · exact banks s (chart_doPortStart _)
  · exact banks s (chart_doPortFlush _)
  · exact banks s (chart_doPortRead _ _)
  · exact banks s (chart_doMonitorSetup _ _)
  · exact banks s (chart_doMonitorArm _)
  · exact banks s (chart_doMonitorRead _ _ _)
  · exact banks s (chart_doTimerSetup _ _)
  · exact banks s (chart_doTimerStart _)
  · exact banks s (chart_doTimerStop _)
  · exact banks s (chart_doTimerRead _ _)
  · exact .of_chart rfl
  · exact .refl s
  · exact .of_chart rfl
  · exact .refl s
  · exact .of_chart rfl
  · exact .refl s

theorem mapKept_judgeRequest (tag code len : Nat) (ps : List Byte) : JudgeKeepsMap (judgeRequest tag code len ps) := by
  intro s
  unfold judgeRequest
  split
  · unfold judgeMapLoad
    split
    · exact mapKept_doMapLoad _ s
    · exact mapKept_failLoad _ _ s
  · split
    · exact .refl s
    · split
      · exact mapKept_judgeParams tag code ps s
      · exact .refl s

/-! ### Requests, units on the chain, and completions -/

theorem mapKept_answerRequest (r : ReqHdr) (code : Nat) {judge : State → State × Answer} (keeps : JudgeKeepsMap judge)
    (s : State) : MapKept s (answerRequest r code judge s) := by
  have judged : MapKept s (judge (relayFirst r s)).1 := (MapKept.of_chart (chart_relayFirst r s)).trans (keeps _)
  unfold answerRequest placeReply
  split
  · exact judged.trans (.of_chart (chart_sendReply _ _ _ _))
  · exact judged

/-- A reset leaves an empty map (R136). -/
theorem MapKept.of_reset {s t : State} (h : t.smap = MapUnit.reset) : MapKept s t := by
  constructor <;> rw [h] <;> intro _
  · exact mapOk_reset _
  · rfl
  · exact originsOk_reset

theorem mapKept_answerPartReset (r : ReqHdr) (s : State) : MapKept s (answerPartReset r s) := by
  have reset : MapKept s (softReset s) := .of_reset rfl
  exact (reset.trans (.of_chart (chart_sendReply _ _ _ _))).trans (.of_chart (chart_relayFirst r _))

theorem mapKept_mgmtArrival (pkt : Packet) (s : State) : MapKept s (mgmtArrival pkt s) := by
  have forwarded : MapKept s (forward pkt s) := .of_chart (chart_forward pkt s)
  have taken (relay : Option Packet) : MapKept s (takeWireRequest relay pkt s) := by
    unfold takeWireRequest
    dsimp only
    split
    · exact mapKept_answerPartReset _ s
    · exact mapKept_answerRequest _ _ (mapKept_judgeRequest _ _ _ _) s
  unfold mgmtArrival
  split
  · exact forwarded
  · split
    · exact taken (some pkt)
    · split
      · exact taken none
      · exact forwarded

theorem mapKept_handUnit (u : Packet) (s : State) : MapKept s (handUnit u s) := by
  unfold handUnit
  split
  · exact mapKept_mgmtArrival u s
  · exact mapKept_mapArrival 4 u s

theorem mapKept_frameUnit (u : Packet) (s : State) : MapKept s (frameUnit u s) := by
  have run (ci : ChainIn) : MapKept s { s with ci := ci } := .of_chart rfl
  have handed (ci : ChainIn) : MapKept s (handUnit u { s with ci := ci }) := (run ci).trans (mapKept_handUnit u _)
  unfold frameUnit
  dsimp only
  split
  · split
    · exact handed _
    · split
      · exact (run _).trans (.of_chart (chart_report _ _ _ _))
      · exact run _
  · split
    · split
      · exact handed _
      · exact run _
    · exact run _

theorem mapKept_renewHold (s : State) : MapKept s (renewHold s) := by
  unfold renewHold
  split
  · exact .of_chart rfl
  · exact .refl s

/-- The packets of a codeword arrive at the map one by one (R109). -/
theorem mapKept_decodeCompletes (s : State) : MapKept s (decodeCompletes s) := by
  have arrived (cw : Codeword) : MapKept s ((packetsOf cw).foldl (fun s p => mapArrival cw.owner.val p s) s) :=
    List.foldlRecOn (motive := MapKept s) (packetsOf cw) (fun s p => mapArrival cw.owner.val p s) (.refl s)
      (fun t kept p _ => kept.trans (mapKept_mapArrival cw.owner.val p t))
  have counted (cw : Codeword) : MapKept s (countCompletion cw s) := by
    refine (arrived cw).trans (.of_chart ?_)
    unfold countCompletion
    dsimp only
    split <;> rfl
  have taken (t : State) : MapKept t (nextTake t) := .of_chain (chain_nextTake t)
  unfold decodeCompletes
  split
  · exact .refl s
  · split
    · split
      · exact taken s
      · exact (counted _).trans (taken _)
    · exact .refl s

/-! ### Every command -/

/-- A command keeps the rules of the map. -/
def CommandKeepsMap (c : Instr) (s : State) : Prop := ∀ t, exec c s = .next t → MapKept s t

theorem CommandKeepsMap.of_event {c : Instr} {a s : State} (runs : exec c s = .next (afterEvent a))
    (kept : MapKept s a) : CommandKeepsMap c s := by
  intro t ht
  obtain rfl := Host.Outcome.next.inj (runs.symm.trans ht)
  exact kept.trans (.of_chart (chart_afterEvent a))

theorem CommandKeepsMap.of_request {c : Instr} {r : ReqHdr} {code : Nat} {judge : State → State × Answer} {s : State}
    (runs : exec c s = .next (takeRequest r code judge s)) (keeps : JudgeKeepsMap judge) : CommandKeepsMap c s :=
  .of_event runs (mapKept_answerRequest r code keeps s)

/-- Every command keeps the rules of the map. -/
theorem exec_keeps_map (c : Instr) (s : State) : CommandKeepsMap c s := by
  cases c with
  | powerUpReset straps => intro t ht; cases ht; exact .of_reset rfl
  | tick straps => exact .of_event rfl (.of_chart (chart_tickAll straps s))
  | linkDown l => exact .of_event rfl (.of_chain (chain_linkLost l s))
  | linkUp l => exact .of_event rfl (.of_chain (chain_linkFound l s))
  | sampleArrival l i q x => exact .of_event rfl (.of_chain (chain_takeSample l i q x s))
  | holdoffExpiry l => exact .of_event rfl (.of_chain (chain_holdoffExpires l s))
  | decodeCompletion _ => exact .of_event rfl (mapKept_decodeCompletes s)
  | slotEvent p => exact .of_event rfl (.of_chart (chart_slotWhenDue p s))
  | coHoldAssert => exact .of_event (a := { s with co := { s.co with held := true } }) rfl (.of_chart rfl)
  | coHoldRelease => exact .of_event (a := { s with co := { s.co with held := false } }) rfl (.of_chart rfl)
  | ciUnitArrival u => exact .of_event rfl ((mapKept_renewHold s).trans (mapKept_frameUnit u _))
  | timerExpiry t => exact .of_event rfl (.of_chart (chart_timerExpires t s))
  | partReset r => exact .of_event rfl (mapKept_answerPartReset r s)
  | partSetup r id notices => exact .of_request rfl (mapKept_doPartSetup id notices)
  | mapLoad r g => exact .of_request rfl (mapKept_doMapLoad g)
  | mapAbort r => exact .of_request rfl mapKept_doMapAbort
  | mapEditAdd r e => exact .of_request rfl (mapKept_doMapEditAdd e)
  | mapEditReplace r e => exact .of_request rfl (mapKept_doMapEditReplace e)
  | mapEditRemove r e => exact .of_request rfl (mapKept_doMapEditRemove e)
  | mapRead r first count clear => exact .of_request rfl (mapKept_doMapRead first count clear)
  | mapInvalidate r granularity origin id m => exact .of_request rfl (mapKept_doMapInvalidate granularity origin id m)
  | originSetup r origin f => exact .of_request rfl (mapKept_doOriginSetup origin f)
  | originRead r => exact .of_request rfl .refl
  | ident r => exact .of_request rfl .refl
  | laneSetup r lane f => exact .of_request rfl (.of_chain (chain_doLaneSetup lane f))
  | laneStart r lane => exact .of_request rfl (.of_chain (chain_doLaneStart lane))
  | laneStop r lane => exact .of_request rfl (.of_chain (chain_doLaneStop lane))
  | laneRead r lane clear => exact .of_request rfl (.of_chain (chain_doLaneRead lane clear))
  | profileRead r lane => exact .of_request rfl (.of_chain (chain_doProfileRead lane))
  | pair r p => exact .of_request rfl (.of_chain (chain_doPair p))
  | unpair r p => exact .of_request rfl (.of_chain (chain_doUnpair p))
  | poolSetup r r0 r1 r2 r3 => exact .of_request rfl (.of_chain (chain_doPoolSetup r0 r1 r2 r3))
  | poolRead r start => exact .of_request rfl (.of_chain (chain_doPoolRead start))
  | decoderSetup r high low => exact .of_request rfl (.of_chain (chain_doDecoderSetup high low))
  | decoderRead r clear => exact .of_request rfl (.of_chain (chain_doDecoderRead clear))
  | portSetup r port interval high low limit =>
    exact .of_request rfl (.of_chart (chart_doPortSetup port interval high low limit))
  | portStop r port => exact .of_request rfl (.of_chart (chart_doPortStop port r.tag))
  | portStart r port => exact .of_request rfl (.of_chart (chart_doPortStart port))
  | portFlush r port => exact .of_request rfl (.of_chart (chart_doPortFlush port))
  | portRead r port clear => exact .of_request rfl (.of_chart (chart_doPortRead port clear))
  | monitorSetup r monitor f => exact .of_request rfl (.of_chart (chart_doMonitorSetup monitor f))
  | monitorArm r monitor => exact .of_request rfl (.of_chart (chart_doMonitorArm monitor))
  | monitorRead r monitor part clear => exact .of_request rfl (.of_chart (chart_doMonitorRead monitor part clear))
  | timerSetup r timer f => exact .of_request rfl (.of_chart (chart_doTimerSetup timer f))
  | timerStart r timer => exact .of_request rfl (.of_chart (chart_doTimerStart timer))
  | timerStop r timer => exact .of_request rfl (.of_chart (chart_doTimerStop timer))
  | timerRead r timer clear => exact .of_request rfl (.of_chart (chart_doTimerRead timer clear))
  | eventEnable r enables => exact .of_request rfl (.of_chart (fun _ => rfl))
  | eventRead r => exact .of_request rfl .refl
  | eventClear r named => exact .of_request rfl (.of_chart (fun _ => rfl))
  | faultRead r => exact .of_request rfl .refl
  | faultClear r all places => exact .of_request rfl (.of_chart (fun _ => rfl))

theorem step_keeps_map {s t : State} (h : step s = .next t) : MapKept s t := by
  rcases step_cases h with rfl | ⟨c, rest, -, run⟩
  · exact .refl t
  · have taken : MapKept s { s with pending := rest } := .of_chart rfl
    exact taken.trans (exec_keeps_map c _ t run)

/-- Settles O7: a step keeps the map's rules, by the edits, the swap, a lookup's counter and another management id. -/
theorem mapRulesHold : Obligations.MapRulesHold := fun _ _ h ht => (step_keeps_map ht).map h

/-- Settles O8: a step keeps the cache's rules and the origins' rule, by a lookup, the removals and ORIGIN SETUP. -/
theorem cacheAndOriginRulesHold : Obligations.CacheAndOriginRulesHold :=
  ⟨fun _ _ h ht => (step_keeps_map ht).cache h, fun _ _ h ht => (step_keeps_map ht).origins h⟩

end Sys2Proof.Machine
end

section
/-! SUPPORT. The handling of an arrival at the map (R121 to R124): its tests, the packet under another id, the map's decision,
the clash test of a copy; and O14 and O15. -/

namespace Sys2Proof.Machine

/-! ### The tests of an arrival (R121) -/

theorem handUnit_management {u : Packet} {s : State} (h : pktId u = s.mgmt.id) : handUnit u s = mgmtArrival u s := by
  simp [handUnit, toManagement, h]

theorem handUnit_stream {u : Packet} {s : State} (h : pktId u ≠ s.mgmt.id) : handUnit u s = mapArrival 4 u s := by
  simp [handUnit, toManagement, h]

theorem mapArrival_null {origin : Nat} {p : Packet} {s : State} (h : pktId p = 8191) : mapArrival origin p s = s :=
  if_pos h

/-- A lane's packet on the management id (R121 test 3). -/
theorem mapArrival_mgmtId {origin : Nat} {p : Packet} {s : State} (live : pktId p ≠ 8191) (lane : origin ≠ 4)
    (managed : pktId p = s.mgmt.id) : mapArrival origin p s = report origin .mgmtIdFromLane (pktId p) s := by
  rw [mapArrival, if_neg live, if_pos ⟨lane, managed⟩]

theorem mapArrival_errored {origin : Nat} {p : Packet} {s : State} (live : pktId p ≠ 8191)
    (stream : origin = 4 ∨ pktId p ≠ s.mgmt.id) (errored : pktError p = true)
    (kept_back : (originSetting s.smap origin).forwardErrored = false) : mapArrival origin p s = s := by
  have stream : ¬(origin ≠ 4 ∧ pktId p = s.mgmt.id) := fun h => stream.elim h.1 (fun other => other h.2)
  rw [mapArrival, if_neg live, if_neg stream, if_pos ⟨errored, kept_back⟩]

/-- A packet that passes the tests. -/
def PassesTests (origin : Nat) (p : Packet) (s : State) : Prop :=
  pktId p ≠ 8191 ∧ (origin = 4 ∨ pktId p ≠ s.mgmt.id) ∧
    (pktError p = false ∨ (originSetting s.smap origin).forwardErrored = true)

/-- What the map's decision leaves: its map, and the copies handed over, if there are any. -/
def afterFate (fate : Option Copies × MapUnit) (b : State) : State :=
  match fate.1 with
  | none => { b with smap := fate.2 }
  | some c => handCopies c { b with smap := fate.2 }

/-- A packet that passes is offered to the monitors, and then the map decides its fate (R122). -/
theorem mapArrival_passes {origin : Nat} {p : Packet} {s : State} (h : PassesTests origin p s) :
    mapArrival origin p s = afterFate (decideFate (offer origin p s).smap origin p) (offer origin p s) := by
  obtain ⟨live, stream, good⟩ := h
  have stream : ¬(origin ≠ 4 ∧ pktId p = s.mgmt.id) := fun h => stream.elim h.1 (fun other => other h.2)
  have good : ¬(pktError p = true ∧ (originSetting s.smap origin).forwardErrored = false) := by
    rcases good with clean | forwards
    · simp [clean]
    · simp [forwards]
  rw [mapArrival, if_neg live, if_neg stream, if_neg good]
  dsimp only
  generalize offer origin p s = b
  rcases decideFate b.smap origin p with ⟨_ | c, m⟩ <;> rfl

theorem mapArrival_dropped {origin : Nat} {p : Packet} {s : State} {m : MapUnit} (h : PassesTests origin p s)
    (fate : decideFate (offer origin p s).smap origin p = (none, m)) :
    mapArrival origin p s = { offer origin p s with smap := m } := by
  rw [mapArrival_passes h, fate, afterFate]

theorem mapArrival_handed {origin : Nat} {p : Packet} {s : State} {c : Copies} {m : MapUnit} (h : PassesTests origin p s)
    (fate : decideFate (offer origin p s).smap origin p = (some c, m)) :
    mapArrival origin p s = handCopies c { offer origin p s with smap := m } := by
  rw [mapArrival_passes h, fate, afterFate]

/-! ### The packet under another id (R122) -/

theorem byteAt_set_self {p : Packet} {i : Nat} (inside : i < p.length) (b : Byte) : byteAt (p.set i b) i = b := by
  simp [byteAt, inside]

theorem byteAt_set_ne {p : Packet} {i k : Nat} (h : k ≠ i) (b : Byte) : byteAt (p.set i b) k = byteAt p k := by
  simp [byteAt, List.getElem?_set_ne (Ne.symm h)]

theorem byteAt_withId_high {p : Packet} (long : p.length = 188) (id : Nat) : (byteAt (withId p id) 1).toNat =
    (byteAt p 1).toNat / 32 * 32 + id / 256 % 32 := by
  have byte := (byteAt p 1).isLt
  rw [withId, byteAt_set_ne (by decide), byteAt_set_self (by omega), BitVec.toNat_ofNat]
  omega

theorem byteAt_withId_low {p : Packet} (long : p.length = 188) (id : Nat) :
    (byteAt (withId p id) 2).toNat = id % 256 := by
  rw [withId, byteAt_set_self (by rw [List.length_set]; omega), BitVec.toNat_ofNat]

theorem byteAt_withId_other (p : Packet) (id : Nat) {k : Nat} (high : k ≠ 1) (low : k ≠ 2) :
    byteAt (withId p id) k = byteAt p k := by
  rw [withId, byteAt_set_ne low, byteAt_set_ne high]

/-- The renamed packet carries the id, and keeps its length, its flags and every other byte. -/
theorem withId_spec {p : Packet} {id : Nat} (long : p.length = 188) (h : id < 8192) :
    pktId (withId p id) = id ∧ (withId p id).length = 188 ∧
      (byteAt (withId p id) 1).toNat / 32 = (byteAt p 1).toNat / 32 ∧
      ∀ k, k ≠ 1 → k ≠ 2 → byteAt (withId p id) k = byteAt p k := by
  refine ⟨?_, by simp [withId, long], ?_, fun k => byteAt_withId_other p id⟩
  · rw [pktId, byteAt_withId_high long, byteAt_withId_low long]
    omega
  · rw [byteAt_withId_high long]
    omega

/-! ### The map's decision (R122, R123) -/

theorem decideFate_all {m : MapUnit} {origin : Nat} (p : Packet) (h : (originSetting m origin).mode = .all) :
    decideFate m origin p = (some (passCopies (originSetting m origin) p), m) := if_pos h

theorem decideFate_found {m m' : MapUnit} {origin : Nat} {p : Packet} {r : Route} (h : (originSetting m origin).mode ≠ .all)
    (looked : lookup m ⟨origin, pktId p⟩ = (some r, m')) : decideFate m origin p =
      (if r.action = .route then some ⟨withId p r.outId, r.dests, r.cls, r.restamp, false⟩ else none, m') := by
  rw [decideFate, if_neg h, looked]
  cases action : r.action <;> simp [action]

theorem decideFate_absent {m m' : MapUnit} {origin : Nat} {p : Packet} (h : (originSetting m origin).mode ≠ .all)
    (looked : lookup m ⟨origin, pktId p⟩ = (none, m')) :
    decideFate m origin p = (absentFate (originSetting m origin) p, m') := by
  rw [decideFate, if_neg h, looked]

/-- What the origin's mode does with a packet that no entry names (R122, R123). -/
theorem absentFate_hash {o : OriginSetting} (p : Packet) (h : o.mode = .hash) : absentFate o p =
    if o.hash.getLsbD (((pktId p ^^^ (pktId p / 64)) ^^^ (pktId p / 4096)) % 64) then some (passCopies o p) else none := by
  rw [absentFate, h]
  rfl

theorem absentFate_drop {o : OriginSetting} (p : Packet) (h : o.mode = .drop) : absentFate o p = none := by
  rw [absentFate, h]

theorem absentFate_pass {o : OriginSetting} (p : Packet) (h : o.mode = .pass) :
    absentFate o p = some (passCopies o p) := by rw [absentFate, h]

/-- Settles O14: the tests one by one, the renamed packet byte by byte, the decision by the origin's mode and the lookup. -/
theorem mapHandlesArrival : Obligations.MapHandlesArrival := by
  refine ⟨⟨fun u s => handUnit_management, fun u s => handUnit_stream, fun o p s => mapArrival_null,
    fun o p s lane live managed => mapArrival_mgmtId live (by omega) managed,
    fun o p s => mapArrival_errored⟩, fun p id => withId_spec, fun o p s live stream good => ⟨?dropped, ?handed⟩,
    fun m o p => ⟨decideFate_all p, ?entry, ?absent⟩⟩
  case dropped => exact fun m fate => mapArrival_dropped ⟨live, stream, good⟩ fate
  case handed => exact fun c m fate => mapArrival_handed ⟨live, stream, good⟩ fate
  case entry =>
    intro mode r m' looked
    rw [decideFate_found mode looked]
    exact ⟨fun route => by rw [if_pos route], fun drop => by rw [drop]; rfl⟩
  case absent =>
    intro mode m' looked
    rw [decideFate_absent mode looked]
    refine ⟨fun drop => ?_, fun pass => ?_, fun hash flag => ?_, fun hash flag => ?_⟩
    · rw [absentFate_drop p drop]
    · rw [absentFate_pass p pass]; rfl
    · rw [absentFate_hash p hash, if_pos flag]; rfl
    · rw [absentFate_hash p hash, flag]; rfl

/-! ### A lookup (R125, R126) -/

theorem lookup_fst (m : MapUnit) (key : Key) : (lookup m key).1 = (cacheLookup m key).1.found.map (·.2) := by
  rw [lookup_eq]

theorem lookup_cache (m : MapUnit) (key : Key) : (lookup m key).2.cache = (cacheLookup m key).2 := by rw [lookup_eq]

/-- The counter of the named slot moves where that slot still holds the key, and no other slot changes (R126). -/
theorem lookup_slots (m : MapUnit) (key : Key) {named : Option Nat}
    (h : (cacheLookup m key).1.found.map (·.1) = named) :
    (∀ (n : Nat) (x : MapSlot), m.slots[n]? = some (some x) → (lookup m key).2.slots[n]? = some (some ⟨x.entry,
      if named = some n ∧ x.entry.key = key then (x.counter + 1) % 4294967296 else x.counter⟩)) ∧
    (∀ n : Nat, m.slots[n]? = some none → (lookup m key).2.slots[n]? = some none) := by
  subst h
  rw [lookup_eq]
  dsimp only
  refine ⟨fun n x there => ?_, fun n vacant => ?_⟩ <;> rw [countNamed_getElem?]
  · rw [there]
    split
    next at_n => simp [at_n, MapSlot.counted]
    next other => simp [other]
  · rw [vacant]
    split <;> rfl

/-! ### The clash test (R124) -/

theorem Dests.meets_onlyPort (d : Dests) (p : PortId) : d.meets (onlyPort p) = d.has p := by
  fin_cases p <;> simp [Dests.meets, Dests.has, onlyPort, portCO, portF0, portF1]

/-- Whether a copy clashes at a port: on the management id, or passed under an id that a ROUTE entry gives to the port. -/
def Clashes (c : Copies) (p : PortId) (s : State) : Prop :=
  pktId c.packet = s.mgmt.id ∨ (c.passed = true ∧ ∃ (n : Nat) (x : MapSlot), s.smap.slots[n]? = some (some x) ∧
    x.entry.route.action = .route ∧ x.entry.route.outId = pktId c.packet ∧ x.entry.route.dests.has p = true)

theorem handCopy_elsewhere {c : Copies} {p : PortId} {s : State} (h : c.dests.has p = false) : handCopy c s p = s := by
  simp [handCopy, h]

theorem clash_test_iff {c : Copies} {p : PortId} {s : State} :
    (decide (pktId c.packet = s.mgmt.id) || (c.passed && claimed s.smap.slots (pktId c.packet) (onlyPort p))) = true ↔
      Clashes c p s := by
  simp only [Bool.or_eq_true, Bool.and_eq_true, decide_eq_true_eq, claimed_iff, Dests.meets_onlyPort, Clashes]

theorem handCopy_clash {c : Copies} {p : PortId} {s : State} (h : c.dests.has p = true) (clash : Clashes c p s) :
    handCopy c s p = report 8 .idClash (pktId c.packet) s := by
  rw [handCopy, if_pos h, if_pos (clash_test_iff.mpr clash)]
  rfl

theorem handCopy_arrives {c : Copies} {p : PortId} {s : State} (h : c.dests.has p = true) (free : ¬Clashes c p s) :
    handCopy c s p = portArrive p c.cls c.restamp false c.packet s := by
  rw [handCopy, if_pos h, if_neg (mt clash_test_iff.mp free)]

/-- Settles O15: a lookup by hit and miss, a copy by the clash test. -/
theorem lookupAndClashTest : Obligations.LookupAndClashTest := by
  refine ⟨fun m key => ⟨fun r found => ?hit, fun absent => ?miss, by rw [lookup_eq], by rw [lookup_eq]⟩,
    fun c s => rfl, fun c s p => ⟨handCopy_elsewhere, fun named => ⟨?mgmt, ?given, ?free⟩⟩⟩
  case hit =>
    have looked := cacheLookup_hit found
    exact ⟨by rw [lookup_fst, looked], by rw [lookup_cache, looked], lookup_slots m key (by rw [looked])⟩
  case miss =>
    have looked := cacheLookup_miss absent
    refine ⟨?_, by rw [lookup_cache, looked]; rfl, lookup_slots m key ?_⟩
    · rw [lookup_fst, looked, missResult, Option.map_map]
      rfl
    · rw [looked, missResult, Option.map_map]
      rfl
  case mgmt => exact fun same => handCopy_clash named (.inl same)
  case given => exact fun passed entry => handCopy_clash named (.inr ⟨passed, entry⟩)
  case free =>
    intro other unclaimed
    refine handCopy_arrives named ?_
    rintro (same | ⟨passed, n, x, there, route, out, has⟩)
    · exact other same
    · rcases unclaimed with renamed | none_gives
      · rw [renamed] at passed; cases passed
      · rw [none_gives n x there route out] at has; cases has

end Sys2Proof.Machine
end

section
/-! SUPPORT. What the map and origin requests are judged to (R117, R127 to R135); and O27, O28 and O29. -/

namespace Sys2Proof.Machine

/-! ### MAP LOAD (R131 to R134) -/

/-- The state that a failed load leads to (R133). -/
def loadFailed (code : Nat) (s : State) : State :=
  report 8 .loadError code (raise 30 { s with smap := { s.smap with staging := none } })

theorem failLoad_eq (code : Nat) (r : RefuseReason) (s : State) :
    failLoad code r s = (loadFailed code s, .now (.refused r)) := rfl

theorem finishLoad_tooMany {total : Nat} {es : List MapEntry} (s : State) (h : 1024 < total) :
    finishLoad total es s = failLoad 10 .capacity s := if_pos h

theorem finishLoad_twice {total : Nat} {es : List MapEntry} (s : State) (room : total ≤ 1024)
    (h : keysDistinct es = false) : finishLoad total es s = failLoad 11 .exists_ s := by
  rw [finishLoad, if_neg (Nat.not_lt.mpr room), if_pos h]

theorem finishLoad_conflict {total : Nat} {es : List MapEntry} {s : State} (room : total ≤ 1024)
    (distinct : keysDistinct es = true) (h : imageConflicts s.mgmt.id es = true) :
    finishLoad total es s = failLoad 12 .conflict s := by
  rw [finishLoad, if_neg (Nat.not_lt.mpr room), if_neg (by simp [distinct]), if_pos h]

theorem finishLoad_good {total : Nat} {es : List MapEntry} {s : State} (room : total ≤ 1024)
    (distinct : keysDistinct es = true) (h : imageConflicts s.mgmt.id es = false) :
    finishLoad total es s =
      (raise 29 { s with smap := { s.smap with slots := imageSlots es, cache := [], staging := none } }, .now (.done [])) := by
  rw [finishLoad, if_neg (Nat.not_lt.mpr room), if_neg (by simp [distinct]), if_neg (by simp [h])]
  rfl

/-- Settles O27: a segment by its tests in order, a last one by the tests of its image. -/
theorem mapLoadResult : Obligations.MapLoadResult := by
  intro tag g s
  obtain ⟨t, ht, taken⟩ := request_taken (c := .mapLoad ⟨tag, none⟩ g) (judge := doMapLoad g) (s := s) rfl
  refine ⟨t, ht, fun bad => taken ((doMapLoad_badLength s bad).trans (failLoad_eq _ _ s)), fun count length => ?_⟩
  have lengths : ¬(21 < g.count ∨ g.entries.length ≠ g.count) := by omega
  refine ⟨fun code fails => taken ((doMapLoad_outOfSequence lengths fails).trans (failLoad_eq _ _ s)), fun inSequence =>
    ⟨fun fails => taken ((doMapLoad_unstructured lengths inSequence fails).trans (failLoad_eq _ _ s)),
      fun es structured => ?_⟩⟩
  have joined := doMapLoad_joined lengths inSequence structured
  refine ⟨fun more => taken ?_, fun last => ?_⟩
  · rw [joined, more]
    rfl
  · have finishes : doMapLoad g s = finishLoad g.total (((stagingFor g s).entries ++ es).take 1024) s := by
      rw [joined, if_pos last]
    refine ⟨fun many => ?_, fun room twice => ?_, fun room distinct conflict => ?_, fun room distinct free => ?_⟩
    · exact taken (finishes.trans (finishLoad_tooMany s many))
    · exact taken (finishes.trans (finishLoad_twice s room twice))
    · exact taken (finishes.trans (finishLoad_conflict room distinct conflict))
    · exact taken (finishes.trans (finishLoad_good room distinct free))

/-! ### MAP EDIT (R128, R129) -/

/-- A slot set to a content. -/
def withSlot (n : Nat) (o : Option MapSlot) (s : State) : State :=
  { s with smap := { s.smap with slots := s.smap.slots.set n o } }

section
variable {f : EntryForm} {e : MapEntry} {s : State}

theorem doMapEditAdd_busy (opened : s.smap.staging ≠ none) : doMapEditAdd f s = (s, .now (.refused .busy)) :=
  if_pos (Option.isSome_iff_ne_none.mpr opened)

theorem editTarget_busy (opened : s.smap.staging ≠ none) : editTarget f s = .error .busy :=
  if_pos (Option.isSome_iff_ne_none.mpr opened)

theorem findKey_absent {slots : List (Option MapSlot)} {key : Key} (h : ∀ n x, ¬HeldAt slots key n x) :
    findKey slots key = none :=
  Option.eq_none_iff_forall_ne_some.mpr (fun ⟨n, x⟩ found => h n x (findKey_eq_some_iff.mp found))

/-! While no load is open. -/

variable (closed : s.smap.staging = none)
include closed

theorem not_loading : ¬s.smap.staging.isSome = true := by
  rw [closed]
  exact Bool.false_ne_true

theorem doMapEditAdd_bad (bad : entryOf f = none) : doMapEditAdd f s = (s, .now (.refused .badParam)) := by
  simp only [doMapEditAdd, if_neg (not_loading closed), bad]

theorem doMapEditAdd_held {n : Nat} {x : MapSlot} (structured : entryOf f = some e)
    (held : HeldAt s.smap.slots e.key n x) : doMapEditAdd f s = (s, .now (.refused .exists_)) := by
  simp only [doMapEditAdd, if_neg (not_loading closed), structured, findKey_eq_some_iff.mpr held, Option.isSome_some, if_true]

theorem doMapEditAdd_full (structured : entryOf f = some e) (missing : ∀ n x, ¬HeldAt s.smap.slots e.key n x)
    (full : ∀ n : Nat, s.smap.slots[n]? ≠ some none) : doMapEditAdd f s = (s, .now (.refused .capacity)) := by
  simp only [doMapEditAdd, if_neg (not_loading closed), structured, findKey_absent missing, firstEmpty_eq_none_iff.mpr full]
  rfl

/-- With room, ADD is judged by the claims, and takes the lowest empty slot. -/
theorem doMapEditAdd_room {n : Nat} (structured : entryOf f = some e) (missing : ∀ n x, ¬HeldAt s.smap.slots e.key n x)
    (vacant : s.smap.slots[n]? = some none) (lowest : ∀ k : Nat, k < n → s.smap.slots[k]? ≠ some none) :
    doMapEditAdd f s =
      if entryConflicts s.smap.slots none s.mgmt.id e then (s, .now (.refused .conflict))
      else (withSlot n (some ⟨e, 0⟩) s, .now (.done (b2 n))) := by
  simp only [doMapEditAdd, if_neg (not_loading closed), structured, findKey_absent missing,
    firstEmpty_eq_some_iff.mpr ⟨vacant, lowest⟩]
  rfl

theorem editTarget_badKey (bad : 4 < f.origin ∨ 8190 < f.inId) : editTarget f s = .error .badParam := by
  rw [editTarget, if_neg (not_loading closed), if_pos bad]

theorem editTarget_absent (inRange : ¬(4 < f.origin ∨ 8190 < f.inId))
    (missing : ∀ n x, ¬HeldAt s.smap.slots ⟨f.origin, f.inId⟩ n x) : editTarget f s = .error .absent := by
  rw [editTarget, if_neg (not_loading closed), if_neg inRange, findKey_absent missing]

theorem editTarget_held {n : Nat} {x : MapSlot} (inRange : ¬(4 < f.origin ∨ 8190 < f.inId))
    (held : HeldAt s.smap.slots ⟨f.origin, f.inId⟩ n x) : editTarget f s = .ok (n, x) := by
  rw [editTarget, if_neg (not_loading closed), if_neg inRange, findKey_eq_some_iff.mpr held]

omit closed

/-! REPLACE and REMOVE, on the slot of the key or on none. -/

theorem doMapEditReplace_bad {x : Nat × MapSlot} (target : editTarget f s = .ok x) (bad : entryOf f = none) :
    doMapEditReplace f s = (s, .now (.refused .badParam)) := by
  simp only [doMapEditReplace, target, bad]

theorem doMapEditReplace_held {n : Nat} {x : MapSlot} (target : editTarget f s = .ok (n, x))
    (structured : entryOf f = some e) : doMapEditReplace f s =
      if entryConflicts s.smap.slots (some n) s.mgmt.id e then (s, .now (.refused .conflict))
      else (withSlot n (some ⟨e, x.counter⟩) s, .now (.done (b2 n))) := by
  simp only [doMapEditReplace, target, structured]
  rfl

theorem doMapEditReplace_refused {r : RefuseReason} (h : editTarget f s = .error r) :
    doMapEditReplace f s = (s, .now (.refused r)) := by
  simp only [doMapEditReplace, h]

theorem doMapEditRemove_refused {r : RefuseReason} (h : editTarget f s = .error r) :
    doMapEditRemove f s = (s, .now (.refused r)) := by
  simp only [doMapEditRemove, h]

theorem doMapEditRemove_held {n : Nat} {x : MapSlot} (h : editTarget f s = .ok (n, x)) :
    doMapEditRemove f s = (withSlot n none s, .now (.done (b2 n))) := by
  simp only [doMapEditRemove, h]
  rfl

end

/-- Settles O28: each operation by its tests in order. -/
theorem mapEditResult : Obligations.MapEditResult := by
  intro tag f s
  refine ⟨?add, ?replace, ?remove⟩
  case add =>
    obtain ⟨t, ht, taken⟩ := request_taken (c := .mapEditAdd ⟨tag, none⟩ f) (judge := doMapEditAdd f) (s := s) rfl
    refine ⟨t, ht, fun opened => taken (doMapEditAdd_busy opened), fun closed =>
      ⟨fun bad => taken (doMapEditAdd_bad closed bad), fun e structured =>
        ⟨fun n x held => taken (doMapEditAdd_held closed structured held), fun missing =>
          ⟨fun full => taken (doMapEditAdd_full closed structured missing full), fun n vacant lowest => ?_⟩⟩⟩⟩
    have judged := doMapEditAdd_room closed structured missing vacant lowest
    exact ⟨fun conflict => taken (judged.trans (if_pos (entryConflicts_iff.mpr conflict))),
      fun free => taken (judged.trans (if_neg (mt entryConflicts_iff.mp free)))⟩
  case replace =>
    obtain ⟨t, ht, taken⟩ := request_taken (c := .mapEditReplace ⟨tag, none⟩ f) (judge := doMapEditReplace f) (s := s) rfl
    have refused {r : RefuseReason} (h : editTarget f s = .error r) : Answered tag 0x22 (.refused r) s t :=
      taken (doMapEditReplace_refused h)
    refine ⟨t, ht, fun opened => refused (editTarget_busy opened), fun closed =>
      ⟨fun bad => refused (editTarget_badKey closed bad), fun origin id => ?_⟩⟩
    have inRange : ¬(4 < f.origin ∨ 8190 < f.inId) := by omega
    refine ⟨fun missing => refused (editTarget_absent closed inRange missing), fun n x held => ?_⟩
    have target := editTarget_held closed inRange held
    refine ⟨fun bad => taken (doMapEditReplace_bad target bad), fun e structured => ?_⟩
    have judged := doMapEditReplace_held target structured
    exact ⟨fun conflict => taken (judged.trans (if_pos (entryConflicts_iff.mpr conflict))),
      fun free => taken (judged.trans (if_neg (mt entryConflicts_iff.mp free)))⟩
  case remove =>
    obtain ⟨t, ht, taken⟩ := request_taken (c := .mapEditRemove ⟨tag, none⟩ f) (judge := doMapEditRemove f) (s := s) rfl
    have refused {r : RefuseReason} (h : editTarget f s = .error r) : Answered tag 0x22 (.refused r) s t :=
      taken (doMapEditRemove_refused h)
    refine ⟨t, ht, fun opened => refused (editTarget_busy opened), fun closed =>
      ⟨fun bad => refused (editTarget_badKey closed bad), fun origin id => ?_⟩⟩
    have inRange : ¬(4 < f.origin ∨ 8190 < f.inId) := by omega
    exact ⟨fun missing => refused (editTarget_absent closed inRange missing),
      fun n x held => taken (doMapEditRemove_held (editTarget_held closed inRange held))⟩

end Sys2Proof.Machine
end

section
/-! SUPPORT. MAP ABORT, MAP INVALIDATE and ORIGIN SETUP (R117, R127, R135) by what their fields are judged to; and O29. -/

namespace Sys2Proof.Machine

/-! ### MAP INVALIDATE (R127) -/

theorem doMapInvalidate_removes {granularity origin id m actual : Nat} {gone : Key → Bool} (s : State)
    (h : invalidation granularity origin id m = some (actual, gone)) :
    doMapInvalidate granularity origin id m s =
      ({ s with smap := { s.smap with cache := keepResults gone s.smap.cache } },
        .now (.done (b1 actual ++ b1 (s.smap.cache.length - (keepResults gone s.smap.cache).length)))) := by
  simp only [doMapInvalidate, h]

theorem doMapInvalidate_refused {granularity origin id m : Nat} (s : State)
    (h : invalidation granularity origin id m = none) :
    doMapInvalidate granularity origin id m s = (s, .now ⟨.refused, 3, b1 0 ++ b1 0⟩) := by
  simp only [doMapInvalidate, h]
  rfl

theorem invalidation_all (origin id m : Nat) : invalidation 1 origin id m = some (1, fun _ => true) := rfl

theorem invalidation_origin {origin : Nat} (id m : Nat) (h : origin ≤ 4) :
    invalidation 2 origin id m = some (2, fun k => decide (k.origin = origin)) := if_pos h

theorem invalidation_block {origin id m : Nat} (origins : origin ≤ 4) (ids : id ≤ 8190) (h : m ≤ 6) :
    invalidation 3 origin id m =
      some (3, fun k => decide (k.origin = origin) && decide (k.id / 2 ^ m = id / 2 ^ m)) := by
  rw [invalidation, if_pos ⟨origins, ids, by omega⟩, if_pos h]

/-- A block of 128 ids or more is widened to its origin. -/
theorem invalidation_widened {origin id m : Nat} (origins : origin ≤ 4) (ids : id ≤ 8190) (h : 7 ≤ m) (top : m ≤ 12) :
    invalidation 3 origin id m = some (2, fun k => decide (k.origin = origin)) := by
  rw [invalidation, if_pos ⟨origins, ids, top⟩, if_neg (by omega)]

theorem invalidation_refused {granularity origin id m : Nat} (h : (granularity = 2 ∧ 4 < origin) ∨
    (granularity = 3 ∧ (4 < origin ∨ 8190 < id ∨ 12 < m)) ∨ (granularity ≠ 1 ∧ granularity ≠ 2 ∧ granularity ≠ 3)) :
    invalidation granularity origin id m = none := by
  rcases h with ⟨rfl, far⟩ | ⟨rfl, far⟩ | ⟨all, org, block⟩
  · exact if_neg (by omega)
  · exact if_neg (by omega)
  · simp only [invalidation]

/-! ### ORIGIN SETUP (R117) -/

/-- A form whose fields R117 step 2 refuses. -/
def BadOrigin (f : OriginForm) : Prop :=
  3 < f.mode ∨ f.dests = 0#8 ∨ f.dests &&& 0xF8#8 ≠ 0#8 ∨ (f.cls ≠ 1 ∧ f.cls ≠ 2)

theorem originModeOf_eq_none {n : Nat} (h : 3 < n) : originModeOf n = none :=
  match n, h with
  | _ + 4, _ => rfl

theorem originModeOf_code {n : Nat} (h : n ≤ 3) : ∃ m, originModeOf n = some m ∧ m.code = n := by
  interval_cases n
  · exact ⟨.drop, rfl, rfl⟩
  · exact ⟨.pass, rfl, rfl⟩
  · exact ⟨.hash, rfl, rfl⟩
  · exact ⟨.all, rfl, rfl⟩

theorem originFormOf_bad {f : OriginForm} (h : BadOrigin f) : originFormOf f = none := by
  unfold originFormOf
  split
  next m d mode dests =>
    have low : ¬3 < f.mode := fun high => by rw [originModeOf_eq_none high] at mode; cases mode
    have ports : ¬(f.dests = 0#8 ∨ f.dests &&& 0xF8#8 ≠ 0#8) := fun bad => by
      rw [destsOf, if_pos bad] at dests; cases dests
    refine if_neg (fun cls => ?_)
    rcases h with high | zero | spare | other
    · exact low high
    · exact ports (.inl zero)
    · exact ports (.inr spare)
    · omega
  · rfl

/-- The setting that a good form carries. -/
theorem originFormOf_good {f : OriginForm} (h : ¬BadOrigin f) : ∃ st, originFormOf f = some st ∧ st.mode.code = f.mode ∧
    st.dests = ⟨f.dests.getLsbD 0, f.dests.getLsbD 1, f.dests.getLsbD 2⟩ ∧ st.cls = f.cls ∧
    st.forwardErrored = f.forwardErrored ∧ st.hash = f.hash := by
  simp only [BadOrigin, not_or] at h
  obtain ⟨low, some_port, no_spare, cls⟩ := h
  obtain ⟨m, mode, code⟩ := originModeOf_code (Nat.not_lt.mp low)
  have dests : destsOf f.dests = some ⟨f.dests.getLsbD 0, f.dests.getLsbD 1, f.dests.getLsbD 2⟩ :=
    if_neg (not_or.mpr ⟨some_port, no_spare⟩)
  have classes : f.cls = 1 ∨ f.cls = 2 := by omega
  refine ⟨⟨m, _, f.cls, f.forwardErrored, f.hash⟩, ?_, code, rfl, rfl, rfl, rfl⟩
  simp only [originFormOf, mode, dests, if_pos classes]

theorem OriginMode.code_eq_zero {m : OriginMode} : m.code = 0 ↔ m = .drop := by
  cases m <;> simp [OriginMode.code]

/-- A new setting of a mode and ports conflicts where it passes to a port of another passing origin (R117 step 3). -/
theorem originConflicts_form_iff {m : MapUnit} {origin mode : Nat} {dests : Dests} {st : OriginSetting}
    (code : st.mode.code = mode) (ports : st.dests = dests) : originConflicts m origin st = true ↔
      mode ≠ 0 ∧ ∃ k, k ≤ 4 ∧ k ≠ origin ∧ (originSetting m k).mode ≠ .drop ∧
        dests.meets (originSetting m k).dests = true := by
  subst code ports
  simp only [originConflicts_iff, OriginSetting.clashes, Bool.and_eq_true, decide_eq_true_eq, ne_eq,
    OriginMode.code_eq_zero]
  constructor
  · rintro ⟨k, origins, other, ⟨passes, theirs⟩, meet⟩
    exact ⟨passes, k, origins, other, theirs, meet⟩
  · rintro ⟨passes, k, origins, other, theirs, meet⟩
    exact ⟨k, origins, other, ⟨passes, theirs⟩, meet⟩

section
variable {origin : Nat} {f : OriginForm} {s : State}

theorem doOriginSetup_noObject (h : 4 < origin) : doOriginSetup origin f s = (s, .now (.refused .noObject)) :=
  dif_neg (by omega)

theorem doOriginSetup_bad (h : origin ≤ 4) (bad : BadOrigin f) :
    doOriginSetup origin f s = (s, .now (.refused .badParam)) := by
  rw [doOriginSetup, dif_pos (by omega), originFormOf_bad bad]

/-- A good form is judged by the ports it would share. -/
theorem doOriginSetup_good {st : OriginSetting} (h : origin < 5) (good : originFormOf f = some st) :
    doOriginSetup origin f s =
      if originConflicts s.smap origin st then (s, .now (.refused .conflict))
      else ({ s with smap := { s.smap with
          origins := s.smap.origins.set origin st h
          cache := keepResults (fun k => decide (k.origin = origin)) s.smap.cache } }, .now (.done [])) := by
  rw [doOriginSetup, dif_pos h, good]

end

/-- Settles O29: MAP ABORT at once, MAP INVALIDATE by its granularity, ORIGIN SETUP by its steps. -/
theorem mapAbortInvalidateAndOriginSetup : Obligations.MapAbortInvalidateAndOriginSetup := by
  refine ⟨⟨fun tag s => request_answered rfl rfl, fun tag g o i m s => ?invalidate⟩, fun tag o f s far => ?noObject,
    fun tag o f s near => ?setup⟩
  case invalidate =>
    obtain ⟨t, ht, taken⟩ := request_taken (c := .mapInvalidate ⟨tag, none⟩ g o i m)
      (judge := doMapInvalidate g o i m) (s := s) rfl
    refine ⟨t, ht, ?all, ?origin, ?block, ?widened, fun bad => taken (doMapInvalidate_refused s (invalidation_refused bad))⟩
    case all => rintro rfl; exact taken (doMapInvalidate_removes s (invalidation_all o i m))
    case origin => rintro rfl near; exact taken (doMapInvalidate_removes s (invalidation_origin i m near))
    case block => rintro rfl near ids small; exact taken (doMapInvalidate_removes s (invalidation_block near ids small))
    case widened =>
      rintro rfl near ids large top
      exact taken (doMapInvalidate_removes s (invalidation_widened near ids large top))
  case noObject => exact request_answered rfl (doOriginSetup_noObject far)
  case setup =>
    obtain ⟨t, ht, taken⟩ := request_taken (c := .originSetup ⟨tag, none⟩ o f) (judge := doOriginSetup o f) (s := s) rfl
    have inRange : o < 5 := by omega
    refine ⟨t, ht, fun bad => taken (doOriginSetup_bad near bad), fun good shared => ?_, fun good free => ?_⟩
    · obtain ⟨st, form, code, dests, -⟩ := originFormOf_good good
      exact taken ((doOriginSetup_good inRange form).trans (if_pos ((originConflicts_form_iff code dests).mpr shared)))
    · obtain ⟨st, form, code, dests, fields⟩ := originFormOf_good good
      have judged := (doOriginSetup_good inRange form).trans (if_neg (mt (originConflicts_form_iff code dests).mp free))
      obtain ⟨cls, forward, hash⟩ := fields
      refine ⟨_, st, taken judged, ?_, ?_, code, dests, cls, forward, hash, fun k _ other => ?_⟩
      · simp only [keepResults, decide_not]
      · rw [originSetting_set, if_pos rfl]
      · rw [originSetting_set, if_neg other]

end Sys2Proof.Machine
end

section
/-! SUPPORT. The sorting of management arrivals (R186, R187), and the requests refused by code and length (R131, R133, R188,
R189); and O12. -/

namespace Sys2Proof.Machine

/-! ### A management arrival at a CI that is UP (R151, R186) -/

/-- A good unit that bears the management id, on a run count of 0 and a hold that is not PAUSED. -/
theorem ciUnitArrival_management {u : Packet} {s : State} (up : s.ci = ⟨true, 0⟩) (hold : s.co.hold ≠ .paused)
    (good : byteAt u 0 = 0x47#8) (managed : pktId u = s.mgmt.id) :
    exec (.ciUnitArrival u) s = .next (afterEvent (mgmtArrival u s)) := by
  have framed : frameUnit u s = handUnit u { s with ci := ⟨true, 0⟩ } := by simp [frameUnit, up, good]
  have run : ({ s with ci := ⟨true, 0⟩ } : State) = s := by rw [← up]
  have held : renewHold s = s := if_neg hold
  change Host.Outcome.next (afterEvent (frameUnit u (renewHold s))) = _
  rw [held, framed, run, handUnit_management managed]

/-- A packet that the part does not take is passed on (R186, R187). -/
theorem mgmtArrival_forwards {u : Packet} {s : State} (h : pktError u = true ∨ pktAdapt u ≠ 1 ∨ mgmtKind u ≠ 1 ∨
    (mgmtAddr u ≠ 31 ∧ mgmtAddr u ≠ s.mgmt.addr)) : mgmtArrival u s = forward u s := by
  unfold mgmtArrival
  split
  · rfl
  next request =>
    have ⟨all, own⟩ : mgmtAddr u ≠ 31 ∧ mgmtAddr u ≠ s.mgmt.addr := by
      rcases h with h | h | h | h
      · exact absurd (.inl h) request
      · exact absurd (.inr (.inl h)) request
      · exact absurd (.inr (.inr h)) request
      · exact h
    rw [if_neg all, if_neg own]

/-- The packet that a request addressed to all parts is passed on as (R186). -/
def relayOf (u : Packet) : Option Packet := if mgmtAddr u = 31 then some u else none

theorem mgmtArrival_takes {u : Packet} {s : State} (clean : pktError u = false) (payload : pktAdapt u = 1)
    (request : mgmtKind u = 1) (addressed : mgmtAddr u = 31 ∨ mgmtAddr u = s.mgmt.addr) :
    mgmtArrival u s = takeWireRequest (relayOf u) u s := by
  rw [mgmtArrival, if_neg (by simp [clean, payload, request]), relayOf]
  split
  · rfl
  next other => rw [if_pos (addressed.resolve_left other)]

theorem relayFirst_relayOf (u : Packet) (s : State) : relayFirst ⟨mgmtTag u, relayOf u⟩ s =
    if mgmtAddr u = 31 then portArrive portCO 0 false false u s else s := by
  unfold relayOf
  split <;> rfl

/-- A packet of class 0 that finds no room at CO is a queue drop (R138). -/
theorem forward_full {u : Packet} {s : State} (full : 8 ≤ (s.port portCO).q0.length) : forward u s =
    report 5 .queueDrop 0 ((raise 32 (s.setPort portCO
      { s.port portCO with drop0 := ((s.port portCO).drop0 + 1) % 4294967296 })).addWork [.occ (.portDrop portCO)]) := by
  simp only [forward, portArrive, if_neg (Nat.not_lt.mpr full)]
  rfl

/-! ### Requests refused by code and length (R188 steps 1 and 2) -/

theorem takeWireRequest_answers {relay : Option Packet} {u : Packet} (s : State)
    (h : ¬(mgmtCode u = 0x03 ∧ mgmtLen u = 0)) : takeWireRequest relay u s = answerRequest ⟨mgmtTag u, relay⟩ (mgmtCode u)
      (judgeRequest (mgmtTag u) (mgmtCode u) (mgmtLen u) (mgmtParams u)) s := if_neg h

theorem judgeRequest_unlisted (tag len : Nat) (ps : List Byte) (s : State) {code : Nat} (other : code ≠ 0x20)
    (unlisted : paramLength code = none) : judgeRequest tag code len ps s = (s, .now (.refused .unknown)) := by
  rw [judgeRequest, if_neg other, unlisted]

theorem judgeRequest_badLength (tag : Nat) (ps : List Byte) (s : State) {code len n : Nat} (other : code ≠ 0x20)
    (listed : paramLength code = some n) (wrong : len ≠ n) :
    judgeRequest tag code len ps s = (s, .now (lengthRefusal code)) := by
  simp only [judgeRequest, if_neg other, listed, if_neg wrong]

/-- A MAP LOAD of a wrong length, or longer than a packet's parameters, fails as a segment (R131, R133). -/
theorem judgeMapLoad_badLength {len : Nat} {ps : List Byte} (s : State)
    (h : len < 7 ∨ 176 < len ∨ len ≠ 7 + 8 * num1 ps 6) : judgeMapLoad len ps s = failLoad 9 .badParam s := by
  unfold judgeMapLoad
  split
  next fits =>
    have many : 21 < (readSegment ps).count := by
      change 21 < num1 ps 6
      omega
    exact doMapLoad_badLength s (.inl many)
  · rfl

/-- The count of a MAP LOAD is the seventh byte of its parameters, if they reach it. -/
theorem num1_mgmtParams {u : Packet} (h : 7 ≤ mgmtLen u) : num1 (mgmtParams u) 6 = (byteAt u 18).toNat := by
  simp [num1, mgmtParams, bytesAt, byteAt, show 6 < mgmtLen u by omega]

/-- What a wire request leaves that is judged at once, on the state its own packet has been passed on from. -/
theorem takeWireRequest_answered {u : Packet} {s a : State} {r : Reply} (h : ¬(mgmtCode u = 0x03 ∧ mgmtLen u = 0))
    (judged : judgeRequest (mgmtTag u) (mgmtCode u) (mgmtLen u) (mgmtParams u)
      (if mgmtAddr u = 31 then portArrive portCO 0 false false u s else s) = (a, .now r)) :
    Answered (mgmtTag u) (mgmtCode u) r a (afterEvent (takeWireRequest (relayOf u) u s)) := by
  have replied : takeWireRequest (relayOf u) u s = sendReply (mgmtTag u) (mgmtCode u) r a := by
    rw [takeWireRequest_answers s h, answerRequest, relayFirst_relayOf, judged]
    rfl
  rw [replied]
  exact answered _ _ r a

/-- Settles O12: a packet not taken by the room in CO class 0, one taken by its code and length. -/
theorem managementPacketsAreSorted : Obligations.ManagementPacketsAreSorted := by
  refine ⟨fun u s up hold good managed other => ?forwarded, fun u s up hold good managed clean payload request addressed =>
    ?taken⟩
  case forwarded =>
    refine ⟨_, ciUnitArrival_management up hold good managed, fun room => ?_, fun full => ?_⟩ <;>
      rw [mgmtArrival_forwards other]
    · rw [forward, portArrive_room _ _ _ _ s room]
      exact happened _
    · rw [forward_full full]
      exact happened _
  case taken =>
    refine ⟨_, ciUnitArrival_management up hold good managed, ?_⟩
    rw [mgmtArrival_takes clean payload request addressed]
    refine ⟨fun other unlisted => ?_, fun n other notInvalidate listed wrong => ?_, fun invalidate wrong => ?_,
      fun load wrong => ?_⟩
    · refine takeWireRequest_answered (fun reset => ?_) (judgeRequest_unlisted _ _ _ _ other unlisted)
      rw [reset.1] at unlisted
      cases unlisted
    · have judged := judgeRequest_badLength (mgmtTag u) (mgmtParams u)
        (if mgmtAddr u = 31 then portArrive portCO 0 false false u s else s) other listed wrong
      rw [lengthRefusal, if_neg notInvalidate] at judged
      refine takeWireRequest_answered (fun reset => ?_) judged
      rw [reset.1] at listed
      exact wrong (reset.2.trans (Option.some.inj listed))
    · have judged := judgeRequest_badLength (mgmtTag u) (mgmtParams u)
        (if mgmtAddr u = 31 then portArrive portCO 0 false false u s else s) (code := 0x24) (by decide) rfl wrong
      rw [← invalidate] at judged ⊢
      refine takeWireRequest_answered (fun reset => ?_) (judged.trans ?_)
      · omega
      · rw [lengthRefusal, if_pos invalidate]
        rfl
    · rw [← load]
      refine takeWireRequest_answered (fun reset => by omega) ?_
      rw [judgeRequest, if_pos load]
      refine (judgeMapLoad_badLength _ ?_).trans rfl
      by_cases reach : 7 ≤ mgmtLen u
      · rwa [num1_mgmtParams reach]
      · exact .inl (Nat.not_le.mp reach)

end Sys2Proof.Machine
end

section
/-! SUPPORT. The output ports and the chain input (Chapter 8): arrivals and drops (R138), the chain-input hold and the CO hold
line (R142, R152), the framing of CI (R151), and the port requests (R146 to R149); O13, O16, O19 and O30. -/

namespace Sys2Proof.Machine

/-! ### Updates of a port that meet -/

theorem modPort_eq (s : State) (p : PortId) (f : Port → Port) : s.modPort p f = s.setPort p (f (s.port p)) := rfl

@[simp] theorem setPort_setPort (s : State) (p : PortId) (q r : Port) : (s.setPort p q).setPort p r = s.setPort p r := by
  simp [State.setPort]

/-! ### Drops (R138) -/

/-- What a drop at a port tells of itself once it has been counted: PORT_DROP with its occurrence, and the report. -/
def dropTold (p : PortId) (cls : Nat) (own : Bool) (pkt : Packet) (s : State) : State :=
  if own then report 9 .replyLost (byteAt pkt 4).toNat ((raise (32 + p.val) s).addWork [.occ (.portDrop p)])
  else report (5 + p.val) .queueDrop cls ((raise (32 + p.val) s).addWork [.occ (.portDrop p)])

theorem queueDrop_eq (p : PortId) (cls : Nat) (own : Bool) (pkt : Packet) (s : State) :
    queueDrop p cls own pkt s = dropTold p cls own pkt (s.setPort p ((s.port p).countDrop cls)) := rfl

/-! ### Arrivals (R138) -/

section
variable {p : PortId} {restamp own : Bool} {pkt : Packet} {s : State}

theorem portArrive_class0_full (full : 8 ≤ (s.port p).q0.length) :
    portArrive p 0 restamp own pkt s = queueDrop p 0 own pkt s := if_neg (not_lt.mpr full)

theorem portArrive_class1_room (room : (s.port p).q1.length + (s.port p).q2.length < partitionSize p) :
    portArrive p 1 restamp own pkt s =
      judgeHoldAt p (s.setPort p { s.port p with q1 := (s.port p).q1 ++ [⟨pkt, 1, restamp, own, s.time⟩] }) :=
  if_pos room

/-- With no packet of class 2 to make room, the arrival itself is dropped. -/
theorem portArrive_class1_full (full : partitionSize p ≤ (s.port p).q1.length + (s.port p).q2.length)
    (none_lower : (s.port p).q2 = []) : portArrive p 1 restamp own pkt s = queueDrop p 1 own pkt s := by
  refine (if_neg (not_lt.mpr full)).trans ?_
  rw [none_lower]
  rfl

/-- The last packet of class 2 makes room for one of class 1. -/
theorem portArrive_class1_displaces {rest : List Queued} {last : Queued}
    (full : partitionSize p ≤ (s.port p).q1.length + (s.port p).q2.length) (lower : (s.port p).q2 = rest ++ [last]) :
    portArrive p 1 restamp own pkt s = queueDrop p 2 last.own last.packet (s.setPort p
      { s.port p with q2 := rest, q1 := (s.port p).q1 ++ [⟨pkt, 1, restamp, own, s.time⟩] }) := by
  refine (if_neg (not_lt.mpr full)).trans ?_
  rw [lower, List.getLast?_concat, List.dropLast_concat]

theorem portArrive_class2_room (room : (s.port p).q1.length + (s.port p).q2.length < partitionSize p) :
    portArrive p 2 restamp own pkt s =
      judgeHoldAt p (s.setPort p { s.port p with q2 := (s.port p).q2 ++ [⟨pkt, 2, restamp, own, s.time⟩] }) :=
  if_pos room

theorem portArrive_class2_full (full : partitionSize p ≤ (s.port p).q1.length + (s.port p).q2.length) :
    portArrive p 2 restamp own pkt s = queueDrop p 2 own pkt s := if_neg (not_lt.mpr full)

end

/-- Settles O16: the class joins, drops or displaces, by the room it finds. -/
theorem portArrival : Obligations.PortArrival := by
  intro p restamp own pkt s
  refine ⟨portArrive_room p restamp own pkt s, fun full => ?_, portArrive_class1_room, fun full lower => ?_,
    fun rest last full lower => ?_, portArrive_class2_room, fun full => ?_⟩
  · exact (portArrive_class0_full full).trans (queueDrop_eq p 0 own pkt s)
  · exact (portArrive_class1_full full lower).trans (queueDrop_eq p 1 own pkt s)
  · rw [portArrive_class1_displaces full lower, queueDrop_eq, port_setPort_self, setPort_setPort]
    rfl
  · exact (portArrive_class2_full full).trans (queueDrop_eq p 2 own pkt s)

/-! ### The chain-input hold (R152) -/

/-- CO as the judging of the hold leaves it, for a stream depth. -/
def holdJudged (depth : Nat) (co : ChainOut) : ChainOut :=
  if co.hold = .idle then if co.high ≤ depth then { co with hold := .holding, holdCount := 0 } else co
  else if depth ≤ co.low then { co with hold := .idle } else co

/-- CI_HOLDING as it follows the hold (R198). -/
def holdFollowed (hold : HoldState) (e : EventUnit) : EventUnit := if hold = .idle then lowerIn e 31 else raiseIn e 31

theorem judgeHold_eq (s : State) : judgeHold s =
    { s with
      co := holdJudged (s.port portCO).streamDepth s.co
      ev := holdFollowed (holdJudged (s.port portCO).streamDepth s.co).hold s.ev } := by
  have followed (co : ChainOut) : setCondition evCiHolding (ciHolding { s with co := co }) { s with co := co } =
      { s with co := co, ev := holdFollowed co.hold s.ev } := by
    by_cases idle : co.hold = .idle <;> simp [setCondition, ciHolding, holdFollowed, idle, evCiHolding]
  unfold judgeHold
  dsimp only
  rw [followed]
  unfold holdJudged
  cases s.co.hold <;> rfl

section
variable {d : Nat} {co : ChainOut}

theorem holdJudged_begins (idle : co.hold = .idle) (reached : co.high ≤ d) :
    holdJudged d co = { co with hold := .holding, holdCount := 0 } := by rw [holdJudged, if_pos idle, if_pos reached]

theorem holdJudged_idle (idle : co.hold = .idle) (below : d < co.high) : holdJudged d co = co := by
  rw [holdJudged, if_pos idle, if_neg (not_le.mpr below)]

theorem holdJudged_ends (held : co.hold ≠ .idle) (fallen : d ≤ co.low) : holdJudged d co = { co with hold := .idle } := by
  rw [holdJudged, if_neg held, if_pos fallen]

theorem holdJudged_held (held : co.hold ≠ .idle) (above : co.low < d) : holdJudged d co = co := by
  rw [holdJudged, if_neg held, if_neg (not_le.mpr above)]

end

/-- Settles O19: the hold by its state and the depth, the hold line by its row. -/
theorem chainHold : Obligations.ChainHold := by
  refine ⟨fun s => ⟨fun idle reached => ?_, fun idle below => ?_, fun held fallen => ?_, fun held above => ?_⟩,
    fun s => ⟨_, rfl, happened _⟩, fun s => ⟨_, rfl, happened _⟩⟩
  · rw [judgeHold_eq, Port.streamDepth, holdJudged_begins idle reached]
    rfl
  · rw [judgeHold_eq, Port.streamDepth, holdJudged_idle idle below, holdFollowed, if_pos idle]
  · rw [judgeHold_eq, Port.streamDepth, holdJudged_ends held fallen]
    rfl
  · rw [judgeHold_eq, Port.streamDepth, holdJudged_held held above, holdFollowed, if_neg held]
    rfl

/-! ### The framing of CI (R151) -/

section
variable {u : Packet} {s : State}

theorem frameUnit_down_good (down : s.ci.up = false) (good : byteAt u 0 = 0x47#8) : frameUnit u s =
    if 5 ≤ s.ci.run + 1 then handUnit u { s with ci := ⟨true, 0⟩ } else { s with ci := ⟨false, s.ci.run + 1⟩ } := by
  simp [frameUnit, down, good]

theorem frameUnit_down_bad (down : s.ci.up = false) (bad : byteAt u 0 ≠ 0x47#8) :
    frameUnit u s = { s with ci := ⟨false, 0⟩ } := by
  simp [frameUnit, down, bad]

theorem frameUnit_up_good (up : s.ci.up = true) (good : byteAt u 0 = 0x47#8) :
    frameUnit u s = handUnit u { s with ci := ⟨true, 0⟩ } := by
  simp [frameUnit, up, good]

theorem frameUnit_up_bad (up : s.ci.up = true) (bad : byteAt u 0 ≠ 0x47#8) : frameUnit u s =
    if 3 ≤ s.ci.run + 1 then report 4 .ciFramingLost (byteAt u 0).toNat { s with ci := ⟨false, 0⟩ }
    else { s with ci := ⟨true, s.ci.run + 1⟩ } := by
  simp [frameUnit, up, bad, srcCI]

end

theorem renewHold_ci (s : State) : (renewHold s).ci = s.ci := by
  unfold renewHold
  split <;> rfl

/-- Settles O13: the unit judged, by the status and its first byte, on the state with the hold renewed. -/
theorem ciFraming : Obligations.CiFraming := by
  intro u s
  have same := renewHold_ci s
  have unit {a : State} (framed : frameUnit u (renewHold s) = a) : Happened a (afterEvent (frameUnit u (renewHold s))) :=
    framed ▸ happened _
  refine ⟨renewHold s, _, rfl, rfl, fun down good short => unit ?_, fun down good reached => unit ?_,
    fun down bad => unit (frameUnit_down_bad (same ▸ down) bad), fun up good => unit (frameUnit_up_good (same ▸ up) good),
    fun up bad short => unit ?_, fun up bad reached => unit ?_⟩
  · rw [frameUnit_down_good (same ▸ down) good, same, if_neg (not_le.mpr short)]
  · rw [frameUnit_down_good (same ▸ down) good, same, if_pos reached]
  · rw [frameUnit_up_bad (same ▸ up) bad, same, if_neg (not_le.mpr short)]
  · rw [frameUnit_up_bad (same ▸ up) bad, same, if_pos reached]

/-! ### The port requests (R146 to R149) -/

theorem doPortFlush_absent {n : Nat} (h : 2 < n) (s : State) : doPortFlush n s = (s, .now (.refused .noObject)) := by
  have absent : asPort n = none := dif_neg (by omega)
  rw [doPortFlush, absent]

theorem doPortFlush_val (p : PortId) (s : State) : doPortFlush p.val s =
    if (s.port p).pstate = .stopped then
      (judgeHoldAt p (s.setPort p { s.port p with q1 := [], q2 := [] }), .now (.done (b1 (s.port p).streamDepth)))
    else (s, .now (.refused .notStopped)) := by
  rw [doPortFlush, asPort_val]
  rfl

/-- A reply without parameters that is CLAMPED unless the values taken are those given. -/
theorem clampedIf_eq {changed same : Prop} [Decidable changed] [Decidable same] (h : changed ↔ ¬same) :
    Reply.clampedIf (decide changed) [] = ⟨if same then .done else .clamped, 0, []⟩ := by
  by_cases given : same <;> simp [Reply.clampedIf, h, given]

theorem doPortSetup_feed {p : PortId} (feed : p ≠ portCO) (interval high low limit : Nat) (s : State) :
    doPortSetup p.val interval high low limit s =
      (s.setPort p { s.port p with interval := clamp 500 65535 interval },
        .now ⟨if clamp 500 65535 interval = interval then .done else .clamped, 0, []⟩) := by
  rw [← clampedIf_eq (changed := clamp 500 65535 interval ≠ interval) Iff.rfl, doPortSetup, asPort_val]
  exact if_neg feed

theorem doPortSetup_chain (interval high low limit : Nat) (s : State) :
    let i := clamp 500 65535 interval
    let hi := clamp 1 88 high
    let lo := if hi ≤ clamp 0 87 low then hi - 1 else clamp 0 87 low
    let lim := clamp 1 255 limit
    doPortSetup portCO.val interval high low limit s =
      (judgeHold { s.setPort portCO { s.port portCO with interval := i } with
          co := { s.co with high := hi, low := lo, limit := lim } },
        .now ⟨if i = interval ∧ hi = high ∧ lo = low ∧ lim = limit then .done else .clamped, 0, []⟩) := by
  intro i hi lo lim
  have changed : (i ≠ interval ∨ hi ≠ high ∨ lo ≠ low ∨ lim ≠ limit) ↔
      ¬(i = interval ∧ hi = high ∧ lo = low ∧ lim = limit) := by
    simp only [not_and_or, ne_eq]
  rw [← clampedIf_eq changed, doPortSetup, asPort_val]
  rfl

section
variable {p : PortId} {s : State}

theorem doPortStop_running (h : (s.port p).pstate = .running) (tag : Nat) : doPortStop p.val tag s =
    (s.setPort p { s.port p with pstate := .stopping, pendingStop := some tag }, .later) := by
  simp only [doPortStop, asPort_val, h]
  rfl

theorem doPortStop_stopping (h : (s.port p).pstate = .stopping) (tag : Nat) :
    doPortStop p.val tag s = (s, .now (.refused .busy)) := by
  simp only [doPortStop, asPort_val, h]

theorem doPortStop_stopped (h : (s.port p).pstate = .stopped) (tag : Nat) :
    doPortStop p.val tag s = (s, .now (.done [])) := by
  simp only [doPortStop, asPort_val, h]

theorem doPortStart_running (h : (s.port p).pstate = .running) : doPortStart p.val s = (s, .now (.done [])) := by
  simp only [doPortStart, asPort_val, h]

theorem doPortStart_stopped (h : (s.port p).pstate = .stopped) :
    doPortStart p.val s = (s.setPort p { s.port p with pstate := .running }, .now (.done [])) := by
  simp only [doPortStart, asPort_val, h]
  rfl

/-- A start overtakes a stop, which is answered first (R147, R190). -/
theorem doPortStart_stopping (h : (s.port p).pstate = .stopping) : doPortStart p.val s =
    (answerOvertaken (s.port p).pendingStop (s.setPort p { s.port p with pstate := .running, pendingStop := none }),
      .now (.done [])) := by
  simp only [doPortStart, asPort_val, h]
  rfl

end

/-- A request whose reply is deferred leaves what its effects leave (R190). -/
theorem request_deferred {c : Instr} {tag code : Nat} {judge : State → State × Answer} {s a : State}
    (hc : exec c s = .next (takeRequest ⟨tag, none⟩ code judge s)) (hj : judge s = (a, .later)) :
    exec c s = .next (afterEvent a) := by
  rw [hc, takeRequest, answerRequest, relayFirst, hj]
  rfl

/-- Settles O30: each request by the port it names and the state of that port. -/
theorem portRequests : Obligations.PortRequests := by
  refine ⟨⟨fun tag n s absent => ?missing, fun tag p s => ?flush, fun tag p interval high low limit s => ?setup⟩,
    fun tag p s => ⟨?stop, ?start⟩⟩
  case missing => exact request_answered rfl (doPortFlush_absent absent s)
  case flush =>
    obtain ⟨t, ht, taken⟩ := request_taken (c := .portFlush ⟨tag, none⟩ p.val) (s := s) rfl
    refine ⟨t, ht, fun stopped => taken ?_, fun other => taken ?_⟩
    · rw [doPortFlush_val, if_pos stopped, Port.streamDepth]
    · rw [doPortFlush_val, if_neg other]
  case setup =>
    obtain ⟨t, ht, taken⟩ :=
      request_taken (c := .portSetup ⟨tag, none⟩ p.val interval high low limit) (s := s) rfl
    refine ⟨t, ht, fun feed => taken (doPortSetup_feed feed interval high low limit s), fun chain => taken ?_⟩
    subst chain
    exact doPortSetup_chain interval high low limit s
  case stop =>
    obtain ⟨t, ht, taken⟩ := request_taken (c := .portStop ⟨tag, none⟩ p.val) (s := s) rfl
    refine ⟨t, ht, fun running => ?_, fun stopping => taken (doPortStop_stopping stopping tag),
      fun stopped => taken (doPortStop_stopped stopped tag)⟩
    have deferred := request_deferred (c := .portStop ⟨tag, none⟩ p.val) rfl (doPortStop_running running tag)
    rw [Host.Outcome.next.inj (ht.symm.trans deferred)]
    exact happened _
  case start =>
    obtain ⟨t, ht, taken⟩ := request_taken (c := .portStart ⟨tag, none⟩ p.val) (s := s) rfl
    refine ⟨t, ht, fun running => taken (doPortStart_running running), fun stopped => taken (doPortStart_stopped stopped),
      fun stopping => ⟨fun old waits => ⟨_, rfl, taken ?_⟩, fun alone => taken ?_⟩⟩
    · rw [doPortStart_stopping stopping, waits]
      rfl
    · rw [doPortStart_stopping stopping, alone]
      rfl

end Sys2Proof.Machine
end

section
/-! SUPPORT. The restamp of a clock reference at a send (R143, R144): big-endian numbers read back, the packet with its clock
reference written, and O18. -/

namespace Sys2Proof.Machine

/-! ### Numbers most significant byte first (R178) -/

theorem foldl_beBytes (k n acc : Nat) :
    (beBytes k n).foldl (fun a b => a * 256 + b.toNat) acc = acc * 256 ^ k + n % 256 ^ k := by
  induction k generalizing acc with
  | zero => simp [beBytes, Nat.mod_one]
  | succ k ih =>
    have top : (BitVec.ofNat 8 (n / 256 ^ k)).toNat = n / 256 ^ k % 256 := BitVec.toNat_ofNat _ _
    rw [beBytes, List.foldl_cons, ih, top, Nat.mod_pow_succ]
    ring

theorem beNat_beBytes (k n : Nat) : beNat (beBytes k n) = n % 256 ^ k := by
  rw [beNat, foldl_beBytes, Nat.zero_mul, Nat.zero_add]

/-! ### A clock reference written (R143 step 4) -/

section
variable {p : Packet} (whole : p.length = 188) (base ext : Nat)
include whole

theorem length_withClock : (withClock p base ext).length = 188 := by simp [withClock, whole]

/-- Bytes 6 to 11 are the new ones. -/
theorem bytesAt_withClock :
    bytesAt (withClock p base ext) 6 6 = beBytes 6 (base * 32768 + clockWord p / 512 % 64 * 512 + ext) := by
  have front : (p.take 6).length = 6 := by simp [whole]
  rw [bytesAt, withClock, List.append_assoc, List.drop_left' front, List.take_left' (beBytes_length 6 _)]

/-- Every other byte stays. -/
theorem byteAt_withClock {k : Nat} (outside : k < 6 ∨ 12 ≤ k) : byteAt (withClock p base ext) k = byteAt p k := by
  have front : (p.take 6).length = 6 := by simp [whole]
  have front_new (new : List Byte) (six : new.length = 6) : (p.take 6 ++ new).length = 12 := by simp [whole, six]
  simp only [byteAt, withClock, List.getD_eq_getElem?_getD]
  rcases outside with before | after
  · rw [List.append_assoc, List.getElem?_append_left (by omega), List.getElem?_take_of_lt before]
  · rw [List.getElem?_append_right (by rw [front_new _ (beBytes_length 6 _)]; exact after),
      front_new _ (beBytes_length 6 _), List.getElem?_drop, Nat.add_sub_cancel' after]

/-- The 48 bits: the base, the 6 unused bits as they were, the extension. -/
theorem clockWord_withClock (base_fits : base < 8589934592) (ext_fits : ext < 512) :
    clockWord (withClock p base ext) = base * 32768 + clockWord p / 512 % 64 * 512 + ext := by
  rw [clockWord, bytesAt_withClock whole, beNat_beBytes]
  exact Nat.mod_eq_of_lt (by omega)

theorem clock_withClock (base_fits : base < 8589934592) (ext_fits : ext < 512) :
    clockBase (withClock p base ext) = base ∧ clockExt (withClock p base ext) = ext ∧
      clockWord (withClock p base ext) / 512 % 64 = clockWord p / 512 % 64 := by
  rw [clockBase, clockExt, clockWord_withClock whole base ext base_fits ext_fits]
  omega

end

/-! ### The restamp -/

/-- A corrected clock reference fits its 33 and 9 bits. -/
theorem correctClock_fits (p : Packet) (residence : Nat) :
    let c := (clockBase p * 300 + clockExt p + residence) % 2576980377600
    c / 300 < 8589934592 ∧ c % 300 < 300 := by
  intro c
  omega

section
variable {p : PortId} {e : Queued} {s : State}

theorem restamped_plain (plain : e.restamp = false ∨ carriesClock e.packet = false) : restamped p e s = (e.packet, s) :=
  if_neg (by rcases plain with plain | plain <;> simp [plain])

theorem restamped_corrected (flagged : e.restamp = true) (clock : carriesClock e.packet = true)
    (valid : clockExt e.packet < 300) :
    restamped p e s = (correctClock e.packet (wrapTime (s.time + 281474976710656 - e.arrival)), s) := by
  rw [restamped, if_pos (by simp [flagged, clock]), if_neg (not_le.mpr valid)]

theorem restamped_skipped (flagged : e.restamp = true) (clock : carriesClock e.packet = true)
    (invalid : 300 ≤ clockExt e.packet) :
    restamped p e s = (e.packet, report (5 + p.val) .restampSkipped (pktId e.packet)
      (s.setPort p { s.port p with skipped := wrap32 ((s.port p).skipped + 1) })) := by
  rw [restamped, if_pos (by simp [flagged, clock]), if_pos invalid]
  rfl

end

/-- Settles O18: the clock reference by the 48 bits written, the restamp by its three cases. -/
theorem restamp : Obligations.Restamp := by
  refine ⟨fun p residence whole => ?_, fun p e s _ _ => ⟨restamped_plain, restamped_corrected, restamped_skipped⟩⟩
  obtain ⟨base_fits, ext_fits⟩ := correctClock_fits p residence
  obtain ⟨base, ext, unused⟩ := clock_withClock whole _ _ base_fits (ext_fits.trans (by decide))
  refine ⟨?value, ext.trans_lt ext_fits, unused, length_withClock whole _ _, fun k => byteAt_withClock whole _ _⟩
  case value =>
    rw [correctClock, base, ext]
    exact Nat.div_add_mod' _ 300

end Sys2Proof.Machine
end

section
/-! SUPPORT. The rules on queues, pending set and fault log (R137, R199, R203): what each says of its part, and what a flag, a
report, an arrival and a send leave of it. `State.watched` reads the three parts; `LimitsKept` says that each keeps its rule. -/

namespace Sys2Proof.Machine

/-! ### The pending set (R199) -/

theorem pendingOk_iff (e : EventUnit) : pendingOk e = true ↔
    ∀ n, e.pending.getLsbD n = true → e.flags.getLsbD n = true ∧ e.enables.getLsbD n = true := by
  rw [pendingOk, decide_eq_true_iff]
  constructor
  · intro h n pending
    have bit := congrArg (fun x : BitVec 51 => x.getLsbD n) h
    simpa [pending, BitVec.lt_of_getLsbD pending] using bit
  · intro h
    refine BitVec.eq_of_getLsbD_eq (fun n hn => ?_)
    by_cases pending : e.pending.getLsbD n = true
    · simp [h n pending]
    · simp [pending]

theorem pendingOk_raiseIn {e : EventUnit} (h : pendingOk e = true) (n : Nat) : pendingOk (raiseIn e n) = true := by
  rw [pendingOk_iff] at h ⊢
  intro m pending
  rw [raiseIn_enables, flags_raiseIn]
  by_cases same : m = n
  · subst same
    have small := BitVec.lt_of_getLsbD pending
    refine ⟨by simp [small], ?_⟩
    unfold raiseIn at pending
    split at pending
    · exact (h m pending).2
    · dsimp only at pending
      split at pending
      · assumption
      · exact (h m pending).2
  · rw [pending_raiseIn_other e same] at pending
    simp [h m pending]

theorem pendingOk_lowerIn {e : EventUnit} (h : pendingOk e = true) (n : Nat) : pendingOk (lowerIn e n) = true := by
  rw [pendingOk_iff] at h ⊢
  intro m pending
  simp only [lowerIn, getLsbD_clearBit, Bool.and_eq_true] at pending ⊢
  obtain ⟨was, other⟩ := pending
  exact ⟨⟨(h m was).1, other⟩, (h m was).2⟩

/-- An event that becomes enabled joins the pending set if it is raised (R201). -/
theorem pendingOk_enable {e : EventUnit} (h : pendingOk e = true) (enables : BitVec 51) :
    pendingOk { e with
      enables := enables, pending := (e.pending &&& enables) ||| (e.flags &&& enables &&& ~~~e.enables) } = true := by
  rw [pendingOk_iff] at h ⊢
  intro n pending
  simp only [BitVec.getLsbD_or, BitVec.getLsbD_and, Bool.or_eq_true, Bool.and_eq_true] at pending
  rcases pending with ⟨was, enabled⟩ | ⟨⟨raised, enabled⟩, -⟩
  · exact ⟨(h n was).1, enabled⟩
  · exact ⟨raised, enabled⟩

theorem pendingOk_clearLatched {e : EventUnit} (h : pendingOk e = true) (named : BitVec 51) :
    pendingOk (clearLatched named e) = true := by
  rw [pendingOk_iff] at h ⊢
  intro n pending
  simp only [clearLatched, BitVec.getLsbD_and, Bool.and_eq_true] at pending ⊢
  obtain ⟨was, stays⟩ := pending
  exact ⟨⟨(h n was).1, stays⟩, (h n was).2⟩

/-- With nothing pending the rule holds. -/
theorem pendingOk_none {e : EventUnit} (h : e.pending = 0#51) : pendingOk e = true := by simp [pendingOk, h]

/-! ### The fault log (R203) -/

/-- What no two records share (R203). -/
def FaultRecord.key (r : FaultRecord) : Nat × Nat := (r.source, r.reason)

theorem recordsDistinct_iff (l : List FaultRecord) : recordsDistinct l = true ↔ (l.map FaultRecord.key).Nodup := by
  induction l with
  | nil => simp [recordsDistinct]
  | cons r l ih =>
    have apart (x : FaultRecord) : (x.source ≠ r.source ∨ x.reason ≠ r.reason) ↔ x.key ≠ r.key := by
      simp only [FaultRecord.key, ne_eq, Prod.mk.injEq, not_and_or]
    simp only [recordsDistinct, Bool.and_eq_true, ih, List.all_eq_true, decide_eq_true_eq, apart, List.map_cons,
      List.nodup_cons, List.mem_map, not_exists, not_and]

theorem logOk_iff (x : FaultLog) : logOk x = true ↔
    x.records.length ≤ 8 ∧ (x.records.map FaultRecord.key).Nodup ∧ ∀ r ∈ x.records, 1 ≤ r.count ∧ r.count ≤ 255 := by
  simp only [logOk, Bool.and_eq_true, decide_eq_true_eq, recordsDistinct_iff, List.all_eq_true, and_assoc]

/-- A collapse leaves the records' sources and reasons. -/
theorem collapse_keys (source reason now : Nat) (l : List FaultRecord) :
    (collapse source reason now l).map FaultRecord.key = l.map FaultRecord.key := by
  have of_stamp : FaultRecord.key = (fun x : Nat × Nat × Nat × Nat => (x.1, x.2.1)) ∘ FaultRecord.stamp := rfl
  rw [of_stamp, ← List.map_map, ← List.map_map, collapse_stamp]

/-- A collapse counts one record up to 255 and leaves the others. -/
theorem collapse_counts (source reason now : Nat) {l : List FaultRecord} (h : ∀ r ∈ l, 1 ≤ r.count ∧ r.count ≤ 255) :
    ∀ r ∈ collapse source reason now l, 1 ≤ r.count ∧ r.count ≤ 255 := by
  induction l with
  | nil => exact h
  | cons x l ih =>
    obtain ⟨first, others⟩ := List.forall_mem_cons.mp h
    unfold collapse
    split
    · refine List.forall_mem_cons.mpr ⟨?_, others⟩
      dsimp only
      split <;> omega
    · exact List.forall_mem_cons.mpr ⟨first, ih others⟩

theorem logOk_collapse {x : FaultLog} (h : logOk x = true) (source reason now : Nat) :
    logOk { x with records := collapse source reason now x.records } = true := by
  rw [logOk_iff] at h ⊢
  obtain ⟨room, distinct, counts⟩ := h
  have length : (collapse source reason now x.records).length = x.records.length := by
    simpa using congrArg List.length (collapse_keys source reason now x.records)
  exact ⟨by rwa [length], by rwa [collapse_keys], collapse_counts source reason now counts⟩

/-- A new record of a source and reason that no record has. -/
theorem logOk_append {x : FaultLog} (h : logOk x = true) (room : x.records.length < 8) {source reason : Nat}
    (fresh : ¬Recorded source reason x.records) (info now : Nat) :
    logOk { x with records := x.records ++ [⟨source, reason, info, 1, now, now⟩] } = true := by
  rw [logOk_iff] at h ⊢
  obtain ⟨-, distinct, counts⟩ := h
  refine ⟨?_, ?_, ?_⟩
  · rw [List.length_append]
    exact room
  · rw [List.map_append, List.nodup_append]
    refine ⟨distinct, List.nodup_singleton _, ?_⟩
    intro k held k' new
    obtain ⟨r, member, rfl⟩ := List.mem_map.mp held
    obtain rfl := List.mem_singleton.mp new
    exact fun same => fresh ⟨r, member, (Prod.mk.inj same).1, (Prod.mk.inj same).2⟩
  · intro r member
    rcases List.mem_append.mp member with old | new
    · exact counts r old
    · rw [List.mem_singleton.mp new]
      exact ⟨Nat.le_refl 1, Nat.le_add_left 1 254⟩

theorem keepRecords_sublist (all : Bool) (places : BitVec 8) (k : Nat) (l : List FaultRecord) :
    (keepRecords all places k l).Sublist l := by
  induction l generalizing k with
  | nil => exact .slnil
  | cons r l ih =>
    unfold keepRecords
    split
    · exact (ih (k + 1)).cons r
    · exact (ih (k + 1)).cons_cons r

/-- Fewer records keep the rule (R204). -/
theorem logOk_of_sublist {x y : FaultLog} (h : logOk x = true) (fewer : y.records.Sublist x.records) : logOk y = true := by
  rw [logOk_iff] at h ⊢
  obtain ⟨room, distinct, counts⟩ := h
  exact ⟨fewer.length_le.trans room, distinct.sublist (fewer.map _), fun r hr => counts r (fewer.subset hr)⟩

/-! ### The queues (R137) -/

theorem queueOk_iff (p : PortId) (q : Port) :
    queueOk p q = true ↔ q.q0.length ≤ 8 ∧ q.q1.length + q.q2.length ≤ partitionSize p := by
  rw [queueOk, Bool.and_eq_true, decide_eq_true_iff, decide_eq_true_iff]
  rfl

theorem queuesOk_iff (s : State) : queuesOk s = true ↔ ∀ p : PortId, queueOk p s.ports[p] = true := by
  have every (p : PortId) : p ∈ [portCO, portF0, portF1] := by revert p; decide
  exact List.all_eq_true.trans ⟨fun all p => all p (every p), fun all p _ => all p⟩

/-! ### The three parts -/

/-- The ports, the event unit and the fault log. -/
def State.watched (s : State) : Vector Port 3 × EventUnit × FaultLog := (s.ports, s.ev, s.log)

/-- An update reads at its three fields, which the lemmas of the state's updates then simplify. -/
@[simp] theorem watched_mk (time : Nat) (links : Vector Bool 4) (straps : BitVec 5) (lanes : Vector Lane 4)
    (pairs : Vector Pair 2) (pool : Pool) (dec : Decoder) (smap : MapUnit) (ports : Vector Port 3) (co : ChainOut)
    (ci : ChainIn) (monitors : Vector Monitor 8) (timers : Vector Timer 8) (mgmt : Mgmt) (ev : EventUnit) (log : FaultLog)
    (work : List Work) (pending : List Instr) :
    State.watched ⟨time, links, straps, lanes, pairs, pool, dec, smap, ports, co, ci, monitors, timers, mgmt, ev, log,
      work, pending⟩ = (ports, ev, log) := (rfl)

@[simp] theorem watched_eta (s : State) : (s.ports, s.ev, s.log) = s.watched := (rfl)

@[simp] theorem watched_ite (c : Prop) [Decidable c] (s t : State) :
    (if c then s else t).watched = if c then s.watched else t.watched := apply_ite State.watched c s t

@[simp] theorem watched_fst_ite (c : Prop) [Decidable c] (x y : State × Answer) :
    (if c then x else y).1.watched = if c then x.1.watched else y.1.watched :=
  apply_ite (fun z : State × Answer => z.1.watched) c x y

/-- Each of the three parts keeps its rule. -/
structure LimitsKept (v w : Vector Port 3 × EventUnit × FaultLog) : Prop where
  queues : ∀ p : PortId, queueOk p v.1[p] = true → queueOk p w.1[p] = true
  pending : pendingOk v.2.1 = true → pendingOk w.2.1 = true
  log : logOk v.2.2 = true → logOk w.2.2 = true

theorem LimitsKept.refl (v : Vector Port 3 × EventUnit × FaultLog) : LimitsKept v v := ⟨fun _ => id, id, id⟩

@[simp] theorem limits_ite (v w x : Vector Port 3 × EventUnit × FaultLog) (c : Prop) [Decidable c] :
    LimitsKept v (if c then w else x) ↔ if c then LimitsKept v w else LimitsKept v x := by split <;> rfl

/-! ### Updates that leave the three parts

Each is stated with the proof `(rfl)`, so that simp keeps it as a rewriting when it discharges the premise of a lemma. -/

@[simp] theorem watched_setLane (s : State) (l : LaneId) (c : Lane) : (s.setLane l c).watched = s.watched := (rfl)
@[simp] theorem watched_modLane (s : State) (l : LaneId) (f : Lane → Lane) : (s.modLane l f).watched = s.watched := (rfl)
@[simp] theorem watched_setPair (s : State) (p : PairId) (c : Pair) : (s.setPair p c).watched = s.watched := (rfl)
@[simp] theorem watched_modPair (s : State) (p : PairId) (f : Pair → Pair) : (s.modPair p f).watched = s.watched := (rfl)
@[simp] theorem watched_setMonitor (s : State) (m : MonitorId) (c : Monitor) : (s.setMonitor m c).watched = s.watched := (rfl)
@[simp] theorem watched_setTimer (s : State) (t : TimerId) (c : Timer) : (s.setTimer t c).watched = s.watched := (rfl)
@[simp] theorem watched_modTimer (s : State) (t : TimerId) (f : Timer → Timer) : (s.modTimer t f).watched = s.watched := (rfl)
@[simp] theorem watched_addWork (s : State) (ws : List Work) : (s.addWork ws).watched = s.watched := (rfl)

section
variable {v : Vector Port 3 × EventUnit × FaultLog} {s : State} (h : LimitsKept v s.watched)
include h

theorem limits_foldl {α : Type} {f : State → α → State}
    (keeps : ∀ (s : State) (a : α), LimitsKept v s.watched → LimitsKept v (f s a).watched) (l : List α) :
    LimitsKept v (l.foldl f s).watched :=
  List.foldlRecOn (motive := fun t => LimitsKept v t.watched) l f h (fun t ht a _ => keeps t a ht)

/-! ### Flags and reports -/

/-- A change of the event unit alone. -/
theorem LimitsKept.event {e : EventUnit} (he : pendingOk s.ev = true → pendingOk e = true) :
    LimitsKept v { s with ev := e }.watched := ⟨h.queues, he ∘ h.pending, h.log⟩

@[simp] theorem limits_raise (n : Nat) : LimitsKept v (raise n s).watched := h.event (fun ok => pendingOk_raiseIn ok n)

@[simp] theorem limits_setCondition (n : Nat) (holds : Bool) : LimitsKept v (setCondition n holds s).watched :=
  h.event (fun ok => by cases holds <;> [exact pendingOk_lowerIn ok n; exact pendingOk_raiseIn ok n])

/-- A report collapses, makes a new record, or sets the overflow (R203). -/
@[simp] theorem limits_report (source : Nat) (reason : FaultReason) (info : Nat) :
    LimitsKept v (report source reason info s).watched := by
  by_cases known : Recorded source reason.code s.log.records
  · rw [report_recorded info known]
    exact ⟨h.queues, h.pending, fun ok => logOk_collapse (h.log ok) _ _ _⟩
  · by_cases room : s.log.records.length < 8
    · rw [report_new info known room]
      exact ⟨h.queues, fun ok => pendingOk_raiseIn (h.pending ok) 0, fun ok => logOk_append (h.log ok) room known _ _⟩
    · rw [report_full info known room]
      exact ⟨h.queues, fun ok => pendingOk_raiseIn (h.pending ok) 1, h.log⟩

/-! ### Ports -/

/-- A port whose queues keep their places. -/
theorem LimitsKept.setPort (p : PortId) {c : Port} (hc : queueOk p (s.port p) = true → queueOk p c = true) :
    LimitsKept v (s.setPort p c).watched := by
  refine ⟨fun k ok => ?_, h.pending, h.log⟩
  have was := h.queues k ok
  show queueOk k ((s.setPort p c).port k) = true
  by_cases same : k = p
  · subst same
    rw [port_setPort_self]
    exact hc was
  · rwa [port_setPort_ne _ _ _ _ same]

/-- A change of a port that leaves its queues. -/
@[simp] theorem limits_modPort_same (p : PortId) {f : Port → Port}
    (same : ∀ q, (f q).q0 = q.q0 ∧ (f q).q1 = q.q1 ∧ (f q).q2 = q.q2) : LimitsKept v (s.modPort p f).watched :=
  h.setPort p (fun ok => by
    obtain ⟨same0, same1, same2⟩ := same (s.port p)
    rw [queueOk_iff] at ok ⊢
    rwa [same0, same1, same2])

end

end Sys2Proof.Machine
end

section
/-! SUPPORT. The rules on queues, pending set and fault log, through the ports, the map and the rest of an event (Chapters 7, 8
and 12; log 11): one lemma per function of the model, in the model's order. -/

namespace Sys2Proof.Machine

/-! ### What a drop leaves of a port (R138) -/

@[simp] theorem port_report (source : Nat) (reason : FaultReason) (info : Nat) (s : State) (p : PortId) :
    (report source reason info s).port p = s.port p := by rw [report_rest]; rfl

@[simp] theorem countDrop_q0 (q : Port) (cls : Nat) : (q.countDrop cls).q0 = q.q0 := by unfold Port.countDrop; split <;> rfl
@[simp] theorem countDrop_q1 (q : Port) (cls : Nat) : (q.countDrop cls).q1 = q.q1 := by unfold Port.countDrop; split <;> rfl
@[simp] theorem countDrop_q2 (q : Port) (cls : Nat) : (q.countDrop cls).q2 = q.q2 := by unfold Port.countDrop; split <;> rfl

@[simp] theorem port_queueDrop_self (p : PortId) (cls : Nat) (own : Bool) (pkt : Packet) (s : State) :
    (queueDrop p cls own pkt s).port p = (s.port p).countDrop cls := by
  unfold queueDrop
  dsimp only
  split <;> simp

section
variable {v : Vector Port 3 × EventUnit × FaultLog} {s : State} (h : LimitsKept v s.watched)
include h

/-! ### Arrivals, replies and notices (R138, R189, R200) -/

@[simp] theorem limits_judgeHold : LimitsKept v (judgeHold s).watched := by simp [judgeHold, h]

@[simp] theorem limits_judgeHoldAt (p : PortId) : LimitsKept v (judgeHoldAt p s).watched := by simp [judgeHoldAt, h]

@[simp] theorem limits_queueDrop (p : PortId) (cls : Nat) (own : Bool) (pkt : Packet) :
    LimitsKept v (queueDrop p cls own pkt s).watched := by
  have counted : LimitsKept v (s.modPort p (·.countDrop cls)).watched := limits_modPort_same h p (by simp)
  simp [queueDrop, counted]

/-- A packet takes a place that is free, or that of the last packet of class 2, or makes a drop (R138). -/
@[simp] theorem limits_portArrive (p : PortId) (cls : Nat) (restamp own : Bool) (pkt : Packet) :
    LimitsKept v (portArrive p cls restamp own pkt s).watched := by
  have depth : (s.port p).streamDepth = (s.port p).q1.length + (s.port p).q2.length := rfl
  have joins {c : Port} (room : queueOk p (s.port p) = true → queueOk p c = true) :
      LimitsKept v (judgeHoldAt p (s.setPort p c)).watched := limits_judgeHoldAt (h.setPort p room) p
  unfold portArrive
  dsimp only
  split
  · split
    · refine h.setPort p (fun ok => ?_)
      rw [queueOk_iff] at ok ⊢
      exact ⟨by rw [List.length_append]; assumption, ok.2⟩
    · simp [h]
  · split
    · refine joins (fun ok => ?_)
      rw [queueOk_iff] at ok ⊢
      exact ⟨ok.1, by dsimp only; rw [List.length_append, List.length_singleton]; omega⟩
    · split
      · simp [h]
      next last found =>
        refine limits_queueDrop (h.setPort p (fun ok => ?_)) p _ _ _
        have some_held : 0 < (s.port p).q2.length :=
          List.length_pos_of_ne_nil (fun empty => by rw [empty] at found; cases found)
        rw [queueOk_iff] at ok ⊢
        exact ⟨ok.1, by dsimp only; rw [List.length_append, List.length_singleton, List.length_dropLast]; omega⟩
  · split
    · refine joins (fun ok => ?_)
      rw [queueOk_iff] at ok ⊢
      exact ⟨ok.1, by dsimp only; rw [List.length_append, List.length_singleton]; omega⟩
    · simp [h]

@[simp] theorem limits_placeOwn (kind tag code status reason : Nat) (params : List Byte) :
    LimitsKept v (placeOwn kind tag code status reason params s).watched := by simp [placeOwn, h]

@[simp] theorem limits_sendReply (tag code : Nat) (r : Reply) : LimitsKept v (sendReply tag code r s).watched := by
  simp [sendReply, h]

/-- A notice empties the pending set (R200). -/
@[simp] theorem limits_buildNotice : LimitsKept v (buildNotice s).watched :=
  limits_placeOwn (h.event (fun _ => pendingOk_none rfl)) _ _ _ _ _ _

@[simp] theorem limits_forward (pkt : Packet) : LimitsKept v (forward pkt s).watched := by simp [forward, h]

@[simp] theorem limits_relayFirst (r : ReqHdr) : LimitsKept v (relayFirst r s).watched := by
  unfold relayFirst
  split <;> simp [h]

/-! ### Slot events (R139 to R144) -/

@[simp] theorem limits_restamped (p : PortId) (e : Queued) : LimitsKept v (restamped p e s).2.watched := by
  unfold restamped
  split
  · split <;> simp [h]
  · exact h

@[simp] theorem limits_putWire (p : PortId) (w : Option Packet) : LimitsKept v (putWire p w s).watched := by
  simp [putWire, h]

@[simp] theorem limits_sendQueued (p : PortId) (e : Queued) : LimitsKept v (sendQueued p e s).watched := by
  have sent : LimitsKept v (putWire p (some (restamped p e s).1) (restamped p e s).2).watched := by simp [h]
  unfold sendQueued
  dsimp only
  split
  · exact sent.event (fun ok => ok)
  · exact sent

/-- Class 1 cut to some of its packets. -/
theorem limits_fewer1 (p : PortId) {rest : List Queued} (fewer : rest.length ≤ (s.port p).q1.length) :
    LimitsKept v (s.modPort p (fun q => { q with q1 := rest })).watched :=
  h.setPort p (fun ok => by
    rw [queueOk_iff] at ok ⊢
    exact ⟨ok.1, le_trans (Nat.add_le_add_right fewer _) ok.2⟩)

/-- Class 2 cut to some of its packets. -/
theorem limits_fewer2 (p : PortId) {rest : List Queued} (fewer : rest.length ≤ (s.port p).q2.length) :
    LimitsKept v (s.modPort p (fun q => { q with q2 := rest })).watched :=
  h.setPort p (fun ok => by
    rw [queueOk_iff] at ok ⊢
    exact ⟨ok.1, le_trans (Nat.add_le_add_left fewer _) ok.2⟩)

theorem limits_sendClass2 (p : PortId) {q : List Queued} (held : q.length ≤ (s.port p).q2.length) :
    LimitsKept v (sendClass2 p q s).watched := by
  induction q generalizing s with
  | nil => exact limits_putWire (limits_fewer2 h p held) p _
  | cons e q ih =>
    have fewer : q.length ≤ (s.port p).q2.length := Nat.le_of_succ_le held
    unfold sendClass2
    split
    · exact ih (limits_queueDrop h p _ _ _) (by simpa using fewer)
    · exact limits_sendQueued (limits_fewer2 h p fewer) p e

theorem limits_sendClass1 (p : PortId) {q : List Queued} (held : q.length ≤ (s.port p).q1.length) :
    LimitsKept v (sendClass1 p q s).watched := by
  induction q generalizing s with
  | nil => exact limits_sendClass2 (limits_fewer1 h p held) p (le_refl _)
  | cons e q ih =>
    have fewer : q.length ≤ (s.port p).q1.length := Nat.le_of_succ_le held
    unfold sendClass1
    split
    · exact ih (limits_queueDrop h p _ _ _) (by simpa using fewer)
    · exact limits_sendQueued (limits_fewer1 h p fewer) p e

@[simp] theorem limits_slotSend (p : PortId) : LimitsKept v (slotSend p s).watched := by
  unfold slotSend
  dsimp only
  split
  · exact limits_putWire (s := { s with co := { s.co with heldSlots := wrap32 (s.co.heldSlots + 1) } }) h p none
  · split
    next e rest queue =>
      refine limits_sendQueued (h.setPort p (fun ok => ?_)) p e
      rw [queueOk_iff, queue] at ok
      exact (queueOk_iff _ _).mpr ⟨Nat.le_of_succ_le ok.1, ok.2⟩
    · split
      · exact limits_judgeHoldAt (limits_sendClass1 h p (le_refl _)) p
      · simp [h]

@[simp] theorem limits_countHoldSlot (was : Bool) : LimitsKept v (countHoldSlot was s).watched := by
  simp [countHoldSlot, h]

@[simp] theorem limits_slotEvent (p : PortId) : LimitsKept v (slotEvent p s).watched := by
  unfold slotEvent
  dsimp only
  generalize (if (s.port p).pstate = .stopping then (s.port p).pendingStop else none) = stop
  have moved : LimitsKept v (s.setPort p { s.port p with
      nextSlot := wrapTime ((s.port p).nextSlot + (s.port p).interval)
      pstate := if (s.port p).pstate = .stopping then .stopped else (s.port p).pstate
      pendingStop := if (s.port p).pstate = .stopping then none else (s.port p).pendingStop }).watched :=
    h.setPort p id
  have sent : LimitsKept v (slotSend p _).watched := limits_slotSend moved p
  cases stop <;> simp [sent]

@[simp] theorem limits_slotWhenDue (p : PortId) : LimitsKept v (slotWhenDue p s).watched := by simp [slotWhenDue, h]

/-! ### The map and the monitors (R121 to R124, R156) -/

@[simp] theorem limits_offer (origin : Nat) (pkt : Packet) : LimitsKept v (offer origin pkt s).watched :=
  limits_foldl h (fun s i hs => by simp [offerTo, hs]) _

@[simp] theorem limits_handCopies (c : Copies) : LimitsKept v (handCopies c s).watched :=
  limits_foldl h (fun s p hs => by simp [handCopy, hs]) _

/-- An arrival is discarded, reported, or offered and handed over (R121 to R124). -/
@[simp] theorem limits_mapArrival (origin : Nat) (pkt : Packet) : LimitsKept v (mapArrival origin pkt s).watched := by
  unfold mapArrival
  split
  · exact h
  · split
    · simp [h]
    · split
      · exact h
      · dsimp only
        split <;> simp [h]

/-! ### Conditions, timers and the rest of an event (log 11) -/

@[simp] theorem limits_expire (t : TimerId) : LimitsKept v (expire t s).watched := by simp [expire, h]

@[simp] theorem limits_followSpan (t : TimerId) : LimitsKept v (followSpan s t).watched := by
  simp [followSpan, h]

@[simp] theorem limits_followEvents : LimitsKept v (followEvents s).watched := by
  have lanes : LimitsKept v (allLanes.foldl (fun s l => setCondition (evGradeLow l) (gradeLow s l) s)
      (setCondition 1 s.log.overflow s)).watched :=
    limits_foldl (limits_setCondition h _ _) (fun s l hs => limits_setCondition hs _ _) _
  simp [followEvents, lanes]

@[simp] theorem limits_follow : LimitsKept v (follow s).watched :=
  limits_foldl (limits_followEvents h) (fun _ t hs => limits_followSpan hs t) _

@[simp] theorem limits_setPairState (p : PairId) (x : PairState) : LimitsKept v (setPairState p x s).watched := by
  simp [setPairState, h]

@[simp] theorem limits_followPair (p : PairId) : LimitsKept v (followPair s p).watched := by simp [followPair, h]

@[simp] theorem limits_followAll : LimitsKept v (followAll s).watched :=
  limits_follow (limits_followPair (limits_followPair h 0) 1)

@[simp] theorem limits_occurAt (src : Source) (t : TimerId) : LimitsKept v (occurAt src s t).watched := by
  unfold occurAt
  dsimp only
  split
  · split <;> simp [h]
  · exact h

@[simp] theorem limits_occur (src : Source) : LimitsKept v (occur src s).watched :=
  limits_foldl h (fun _ t hs => limits_occurAt hs src t) _

@[simp] theorem limits_timerExpires (t : TimerId) : LimitsKept v (timerExpires t s).watched := by simp [timerExpires, h]

@[simp] theorem limits_tickAll (straps : BitVec 5) : LimitsKept v (tickAll straps s).watched :=
  limits_foldl (s := { s with time := wrapTime (s.time + 1), straps := straps }) h
    (fun _ t hs => by simp [tickTimer, hs]) _

end

end Sys2Proof.Machine
end

section
/-! SUPPORT. The rules on queues, pending set and fault log, through the work of lanes, data paths, pool and decoder (Chapters 2
to 6): one lemma per function of the model, in the model's order. Work that raises and reports nothing leaves all three parts;
those lemmas are the `watched_…`, stated with the proof `(rfl)` where one is enough. -/

namespace Sys2Proof.Machine

/-! ### Work that leaves the three parts -/

@[simp] theorem watched_countDropped (p : LaneId) (n : Nat) (s : State) : (countDropped p n s).watched = s.watched := (rfl)

@[simp] theorem watched_abandonGroup (p : LaneId) (s : State) : (abandonGroup p s).watched = s.watched := by
  simp [abandonGroup, discardWaiting]

@[simp] theorem watched_beginGroup (p : LaneId) (half : Half) (s : State) : (beginGroup p half s).watched = s.watched := (rfl)

@[simp] theorem watched_beginAgain (p : LaneId) (s : State) : (beginAgain p s).watched = s.watched := by simp [beginAgain]

@[simp] theorem watched_requestPages (p : LaneId) (n : Nat) (s : State) : (requestPages p n s).2.watched = s.watched := by
  unfold requestPages
  split <;> rfl

@[simp] theorem watched_placeCells (p : LaneId) (cells : List PoolCell) (s : State) :
    (placeCells p cells s).watched = s.watched := by
  unfold placeCells
  split <;> rfl

@[simp] theorem watched_abandonIfDriving (l : LaneId) (s : State) : (abandonIfDriving l s).watched = s.watched := by
  simp [abandonIfDriving]

@[simp] theorem watched_dropRef (l : LaneId) (s : State) : (dropRef l s).watched = s.watched := by simp [dropRef]

@[simp] theorem watched_setPathLayout (l : LaneId) (r : FrameRecord) (s : State) :
    (setPathLayout l r s).watched = s.watched := by simp [setPathLayout]

@[simp] theorem watched_enterMode (l : LaneId) (k : Candidate) (s : State) : (enterMode l k s).watched = s.watched := (rfl)

@[simp] theorem watched_countBlanked (l : LaneId) (s : State) : (countBlanked l s).watched = s.watched := (rfl)

@[simp] theorem watched_markCodeword (l : LaneId) (s : State) : (markCodeword l s).watched = s.watched := by
  unfold markCodeword
  split
  · rfl
  · split <;> rfl

section
variable {v : Vector Port 3 × EventUnit × FaultLog} {s : State} (h : LimitsKept v s.watched)
include h

/-! ### The decoder and the pool (Chapters 6 and 5) -/

@[simp] theorem limits_judgeCongestion : LimitsKept v (judgeCongestion s).watched := by simp [judgeCongestion, h]

@[simp] theorem limits_takeIfIdle : LimitsKept v (takeIfIdle s).watched := by
  unfold takeIfIdle
  split
  · exact h
  · split
    · exact h
    · split <;> simp [takeHead, h]

@[simp] theorem limits_emptyReady (p : LaneId) (counted : Bool) : LimitsKept v (emptyReady p counted s).watched := by
  simp [emptyReady, h]

@[simp] theorem limits_releasePath (p : LaneId) (counted : Bool) : LimitsKept v (releasePath p counted s).watched := by
  simp [releasePath, h]

@[simp] theorem limits_settlePages (p : LaneId) (need : Nat) : LimitsKept v (settlePages p need s).2.watched := by
  unfold settlePages
  dsimp only
  split
  · exact h
  · split <;> simp [h]

@[simp] theorem limits_completeGroup (p : LaneId) (g : PipeParams) (half : Half) :
    LimitsKept v (completeGroup p g half s).watched := by
  have overrun : LimitsKept v (if (s.lane p).ready.length = 0 then s else
      report (srcLane p) .overrun (s.lane p).ready.length (countDropped p (s.lane p).ready.length s)).watched := by simp [h]
  exact limits_takeIfIdle (limits_judgeCongestion overrun)

@[simp] theorem limits_frameAccounting (p : LaneId) : LimitsKept v (frameAccounting p s).watched := by
  unfold frameAccounting
  split
  · split <;> simp [h]
  · exact h

/-! ### Data paths (4.3) -/

@[simp] theorem limits_departPath (l : LaneId) : LimitsKept v (departPath l s).watched := by simp [departPath, h]

@[simp] theorem limits_releaseToSearch (l : LaneId) : LimitsKept v (releaseToSearch l s).watched := by
  have left : LimitsKept v (raise (evReleased l) (departPath l s)).watched := by simp [h]
  simp [releaseToSearch, left]

@[simp] theorem limits_research (l : LaneId) : LimitsKept v (research l s).watched := by simp [research, h]

@[simp] theorem limits_enterFade (l : LaneId) (r : Reason) : LimitsKept v (enterFade l r s).watched := by
  simp [enterFade, h]

@[simp] theorem limits_pathToSync (l : LaneId) (reason : Reason) : LimitsKept v (pathToSync l reason s).watched := by
  simp [pathToSync, h]

/-- A layout change goes to SYNC, or settles the pages and begins a group or goes to SYNC (R34). -/
@[simp] theorem limits_layoutChange (l : LaneId) (r : FrameRecord) : LimitsKept v (layoutChange l r s).watched := by
  have changed : LimitsKept v (raise (evLayout l) (emptyReady (pathOf s l) true (abandonGroup (pathOf s l) s))).watched := by
    simp [h]
  unfold layoutChange
  dsimp only
  split <;> simp [changed]

@[simp] theorem limits_pathCompletion (p : PairId) (x : WaitingSymbol) : LimitsKept v (pathCompletion p x s).watched := by
  unfold pathCompletion
  refine limits_frameAccounting ?_ _
  rw [watched_modPair]
  simp [h]

/-- The decided symbols are written, and those that end a frame complete it (R77, R79). -/
@[simp] theorem limits_flushWaiting (p : PairId) (ws : List WaitingSymbol) :
    LimitsKept v (flushWaiting p ws s).watched := by
  induction ws generalizing s with
  | nil => simp [flushWaiting, h]
  | cons x ws ih =>
    unfold flushWaiting
    split
    · exact ih (by simp [h])
    · simp [h]

@[simp] theorem limits_flush (p : PairId) : LimitsKept v (flush p s).watched := by simp [flush, h]

@[simp] theorem limits_ageWaiting (p : PairId) : LimitsKept v (ageWaiting p s).watched := by simp [ageWaiting, h]

@[simp] theorem limits_decideAll (p : PairId) : LimitsKept v (decideAll p s).watched := by simp [decideAll, h]

@[simp] theorem limits_writeLeft (l : LaneId) (ws : List WaitingSymbol) : LimitsKept v (writeLeft l ws s).watched := by
  induction ws generalizing s with
  | nil => exact h
  | cons x ws ih => exact ih (by simp [h])

@[simp] theorem limits_takeLeft (l : LaneId) : LimitsKept v (takeLeft l s).watched := by simp [takeLeft, h]

@[simp] theorem limits_referenceSymbol (p : PairId) (partner : LaneId) (x : WaitingSymbol) :
    LimitsKept v (referenceSymbol p partner x s).watched := by simp [referenceSymbol, h]

@[simp] theorem limits_partnerSymbol (p : PairId) (y : StoredSymbol) : LimitsKept v (partnerSymbol p y s).watched := by
  simp [partnerSymbol, h]

/-! ### SEARCH, MODE and SYNC (2.3 to 2.5) -/

@[simp] theorem limits_advanceSweep (l : LaneId) : LimitsKept v (advanceSweep l s).watched := by simp [advanceSweep, h]

@[simp] theorem limits_endAttempt (l : LaneId) : LimitsKept v (endAttempt l s).watched := by
  unfold endAttempt
  dsimp only
  split <;> simp [h]

@[simp] theorem limits_modeSymbol (l : LaneId) : LimitsKept v (modeSymbol l s).watched := by
  unfold modeSymbol
  dsimp only
  split <;> simp [h]

@[simp] theorem limits_lockIn (l : LaneId) (fromSync : Bool) (r : FrameRecord) (pilots : List PilotRx) :
    LimitsKept v (lockIn l fromSync r pilots s).watched := by simp [lockIn, h]

@[simp] theorem limits_takeReference (l : LaneId) (granted : Bool) (r : FrameRecord) :
    LimitsKept v (takeReference l granted r s).watched := by simp [takeReference, h]

@[simp] theorem limits_switchReference (l : LaneId) (r : FrameRecord) :
    LimitsKept v (switchReference l r s).watched := by simp [switchReference, h]

@[simp] theorem limits_pathAtEntry (l : LaneId) (granted : Bool) (r : FrameRecord) :
    LimitsKept v (pathAtEntry l granted r s).watched := by simp [pathAtEntry, h]

@[simp] theorem limits_lockFromSync (l : LaneId) (granted : Bool) (r : FrameRecord) (pilots : List PilotRx) :
    LimitsKept v (lockFromSync l granted r pilots s).watched := by simp [lockFromSync, h]

@[simp] theorem limits_checkLayout (l : LaneId) (cur : Option PipeParams) (r : FrameRecord) :
    LimitsKept v (checkLayout l cur r s).watched := by simp [checkLayout, h]

@[simp] theorem limits_recover (l : LaneId) (r : FrameRecord) : LimitsKept v (recover l r s).watched := by
  have locked : LimitsKept v (lockIn l false r [] s).watched := by simp [h]
  simp [recover, locked]

/-- A VALID record in SYNC locks, with pages or with a grant, or leaves a reason (R28). -/
@[simp] theorem limits_syncValid (l : LaneId) (r : FrameRecord) (pilots : List PilotRx) :
    LimitsKept v (syncValid l r pilots s).watched := by
  unfold syncValid
  split <;> simp [h]

@[simp] theorem limits_syncFailure (l : LaneId) : LimitsKept v (syncFailure l s).watched := by simp [syncFailure, h]

@[simp] theorem limits_syncSymbol (l : LaneId) (x : SymbolRx) : LimitsKept v (syncSymbol l x s).watched := by
  unfold syncSymbol
  split <;> simp [h]

/-! ### LOCK and FADE (2.6, 2.7) -/

@[simp] theorem limits_deliverCells (l : LaneId) (y : Layout) (idx : Nat) (cells : List PoolCell) :
    LimitsKept v (deliverCells l y idx cells s).watched := by simp [deliverCells, h]

@[simp] theorem limits_completeFrame (l : LaneId) : LimitsKept v (completeFrame l s).watched := by
  simp [completeFrame, h]

/-- Tracked, delivered, the frame completed, and the loss run judged. -/
@[simp] theorem limits_dataSymbol (l : LaneId) (k : Candidate) (y : Layout) (x : SymbolRx) :
    LimitsKept v (dataSymbol l k y x s).watched := by
  have faded {t : State} (ht : LimitsKept v t.watched) :
      LimitsKept v (if 8 ≤ (t.lane l).lossRun then enterFade l .noSignal t else t).watched := by simp [ht]
  exact faded (by simp [h])

@[simp] theorem limits_drivingPreamble (l : LaneId) (last : Nat) (held : Option PipeParams) (r : FrameRecord) :
    LimitsKept v (drivingPreamble l last held r s).watched := by simp [drivingPreamble, h]

@[simp] theorem limits_validExpected (l : LaneId) (y : Layout) (r : FrameRecord) :
    LimitsKept v (validExpected l y r s).watched := by simp [validExpected, h]

@[simp] theorem limits_failedExpected (l : LaneId) (y : Layout) (wasInvalid : Bool) :
    LimitsKept v (failedExpected l y wasInvalid s).watched := by simp [failedExpected, h]

@[simp] theorem limits_expectedPreamble (l : LaneId) (y : Layout) (x : SymbolRx) :
    LimitsKept v (expectedPreamble l y x s).watched := by
  unfold expectedPreamble
  split <;> simp [h]

@[simp] theorem limits_beginLockSymbol (l : LaneId) : LimitsKept v (beginLockSymbol l s).watched := by
  simp [beginLockSymbol, h]

@[simp] theorem limits_lockSymbol (l : LaneId) (x : SymbolRx) : LimitsKept v (lockSymbol l x s).watched := by
  unfold lockSymbol
  dsimp only
  split <;> simp [h]

@[simp] theorem limits_fadeSymbol (l : LaneId) (x : SymbolRx) : LimitsKept v (fadeSymbol l x s).watched := by
  unfold fadeSymbol
  dsimp only
  split <;> simp [h]

/-! ### Samples, links, holdoff -/

@[simp] theorem limits_symbolEvent (l : LaneId) (x : SymbolRx) : LimitsKept v (symbolEvent l x s).watched := by
  unfold symbolEvent
  split <;> simp [h]

@[simp] theorem limits_countSample (l : LaneId) (x : SymbolRx) : LimitsKept v (countSample l x s).watched := by
  simp [countSample, h]

@[simp] theorem limits_takeSample (l : LaneId) (i q : Int) (x : SymbolRx) :
    LimitsKept v (takeSample l i q x s).watched := by
  unfold takeSample
  dsimp only
  split
  · exact h
  · split <;> simp [h]

@[simp] theorem limits_linkLost (l : LaneId) : LimitsKept v (linkLost l s).watched := by
  unfold linkLost laneLinkDown
  split
  · dsimp only
    split <;> simp [h]
  · exact h

@[simp] theorem limits_holdoffExpires (l : LaneId) : LimitsKept v (holdoffExpires l s).watched := by
  simp [holdoffExpires, h]

/-! ### Completions of the decoder (6) -/

@[simp] theorem limits_countCompletion (cw : Codeword) : LimitsKept v (countCompletion cw s).watched := by
  have packets : LimitsKept v ((packetsOf cw).foldl (fun s p => mapArrival cw.owner.val p s) s).watched :=
    limits_foldl h (fun _ p hs => limits_mapArrival hs _ p) _
  simp [countCompletion, packets]

@[simp] theorem limits_decodeCompletes : LimitsKept v (decodeCompletes s).watched := by
  unfold decodeCompletes
  split <;> simp [nextTake, h]

/-! ### The rest of an event (log 11) -/

theorem limits_deliver (w : Work) : LimitsKept v (deliver s w).watched := by
  cases w with
  | occ src => exact limits_occur h src
  | act t =>
    unfold deliver performAction
    dsimp only
    split
    · split <;> simp [h]
    · split <;> simp [h, armMonitor]
    · exact h

theorem limits_handOn : LimitsKept v (handOn s).watched :=
  limits_foldl (s := { s with work := [] }) h (fun _ w hs => limits_deliver hs w) _

theorem limits_settle (n : Nat) : LimitsKept v (settle n s).watched := by
  induction n generalizing s with
  | zero => exact h
  | succ n ih =>
    have followed : LimitsKept v (followAll s).watched := limits_followAll h
    rw [settle_succ]
    split
    · exact ih (limits_handOn followed)
    · split
      · exact ih (limits_buildNotice followed)
      · exact followed

theorem limits_afterEvent : LimitsKept v (afterEvent s).watched := limits_settle h _

end

end Sys2Proof.Machine
end

section
/-! SUPPORT. The rules on queues, pending set and fault log, through every request and command; and O6. -/

namespace Sys2Proof.Machine

section
variable {v : Vector Port 3 × EventUnit × FaultLog} {s : State} (h : LimitsKept v s.watched)
include h

/-! ### Requests about lanes, pairs, pool and decoder -/

@[simp] theorem limits_doLaneSetup (lane : Nat) (f : SetupForm) : LimitsKept v (doLaneSetup lane f s).1.watched := by
  unfold doLaneSetup
  split <;> simp [h]

@[simp] theorem limits_doLaneStart (lane : Nat) : LimitsKept v (doLaneStart lane s).1.watched := by
  unfold doLaneStart
  split <;> simp [h]

@[simp] theorem limits_stopLane (l : LaneId) : LimitsKept v (stopLane l s).watched := by simp [stopLane, h]

@[simp] theorem limits_doLaneStop (lane : Nat) : LimitsKept v (doLaneStop lane s).1.watched := by
  unfold doLaneStop
  split <;> simp [h]

@[simp] theorem limits_doLaneRead (lane : Nat) (clear : Bool) : LimitsKept v (doLaneRead lane clear s).1.watched := by
  unfold doLaneRead
  split <;> simp [h]

@[simp] theorem limits_doProfileRead (lane : Nat) : LimitsKept v (doProfileRead lane s).1.watched := by
  unfold doProfileRead
  split <;> exact h

@[simp] theorem limits_doPair (p : Nat) : LimitsKept v (doPair p s).1.watched := by
  unfold doPair
  split <;> simp [h]

/-- The path of a pair that is dissolved stays with its primary or is released (R72). -/
@[simp] theorem limits_unpairPath (p : PairId) : LimitsKept v (unpairPath p s).watched := by
  unfold unpairPath
  dsimp only
  split
  · cases (s.pairAt p).layout with
    | none => simp [h]
    | some z => dsimp only; split <;> simp [h]
  · simp [h]

@[simp] theorem limits_unpairNow (p : PairId) : LimitsKept v (unpairNow p s).watched := by simp [unpairNow, h]

@[simp] theorem limits_doUnpair (p : Nat) : LimitsKept v (doUnpair p s).1.watched := by
  unfold doUnpair
  split <;> simp [h]

@[simp] theorem limits_doPoolSetup (r0 r1 r2 r3 : Nat) : LimitsKept v (doPoolSetup r0 r1 r2 r3 s).1.watched := by
  simp [doPoolSetup, h]

@[simp] theorem limits_doPoolRead (start : Nat) : LimitsKept v (doPoolRead start s).1.watched := by
  simp [doPoolRead, h]

@[simp] theorem limits_doDecoderSetup (high low : Nat) : LimitsKept v (doDecoderSetup high low s).1.watched := by
  simp [doDecoderSetup, h]

@[simp] theorem limits_doDecoderRead (clear : Bool) : LimitsKept v (doDecoderRead clear s).1.watched := by
  simp [doDecoderRead, h]

/-! ### Requests about the map and the origins -/

@[simp] theorem limits_failLoad (code : Nat) (r : RefuseReason) : LimitsKept v (failLoad code r s).1.watched := by
  simp [failLoad, h]

@[simp] theorem limits_finishLoad (total : Nat) (es : List MapEntry) : LimitsKept v (finishLoad total es s).1.watched := by
  simp [finishLoad, h]

/-- A segment fails, is staged, or ends its load (R131 to R134). -/
@[simp] theorem limits_doMapLoad (g : SegmentForm) : LimitsKept v (doMapLoad g s).1.watched := by
  unfold doMapLoad
  split
  · simp [h]
  · split
    · simp [h]
    · split <;> simp [h]

@[simp] theorem limits_doMapEditAdd (f : EntryForm) : LimitsKept v (doMapEditAdd f s).1.watched := by
  unfold doMapEditAdd
  dsimp only
  split
  · exact h
  · split
    · exact h
    · split
      · exact h
      · split <;> simp [h]

@[simp] theorem limits_doMapEditReplace (f : EntryForm) : LimitsKept v (doMapEditReplace f s).1.watched := by
  unfold doMapEditReplace
  split
  · exact h
  · split <;> simp [h]

@[simp] theorem limits_doMapEditRemove (f : EntryForm) : LimitsKept v (doMapEditRemove f s).1.watched := by
  unfold doMapEditRemove
  split <;> exact h

@[simp] theorem limits_judgeMapEdit (ps : List Byte) : LimitsKept v (judgeMapEdit ps s).1.watched := by
  unfold judgeMapEdit
  split <;> simp [doMapEditUnknown, h]

@[simp] theorem limits_doMapRead (first count : Nat) (clear : Bool) :
    LimitsKept v (doMapRead first count clear s).1.watched := by simp [doMapRead, h]

@[simp] theorem limits_doMapInvalidate (granularity origin id m : Nat) :
    LimitsKept v (doMapInvalidate granularity origin id m s).1.watched := by
  unfold doMapInvalidate
  split <;> exact h

@[simp] theorem limits_doOriginSetup (origin : Nat) (f : OriginForm) :
    LimitsKept v (doOriginSetup origin f s).1.watched := by
  unfold doOriginSetup
  split
  · split <;> simp [h]
  · exact h

/-! ### Requests about ports, monitors and timers -/

@[simp] theorem limits_doPortSetup (port interval high low limit : Nat) :
    LimitsKept v (doPortSetup port interval high low limit s).1.watched := by
  have paced (p : PortId) (i : Nat) : LimitsKept v (s.modPort p (fun q => { q with interval := i })).watched := by simp [h]
  unfold doPortSetup
  split
  · exact h
  · dsimp only
    split
    · exact limits_judgeHold (paced _ _)
    · exact paced _ _

@[simp] theorem limits_doPortStop (port tag : Nat) : LimitsKept v (doPortStop port tag s).1.watched := by
  unfold doPortStop
  split
  · exact h
  · split <;> simp [h]

@[simp] theorem limits_doPortStart (port : Nat) : LimitsKept v (doPortStart port s).1.watched := by
  unfold doPortStart answerOvertaken
  split
  · exact h
  · split
    · exact h
    · simp [h]
    · dsimp only
      split <;> simp [h]

/-- A flush empties classes 1 and 2 (R148). -/
@[simp] theorem limits_doPortFlush (port : Nat) : LimitsKept v (doPortFlush port s).1.watched := by
  have emptied (p : PortId) : LimitsKept v (s.modPort p (fun q => { q with q1 := [], q2 := [] })).watched :=
    h.setPort p (fun ok => (queueOk_iff _ _).mpr ⟨((queueOk_iff _ _).mp ok).1, Nat.zero_le _⟩)
  unfold doPortFlush
  split <;> simp [h, emptied]

@[simp] theorem limits_doPortRead (port : Nat) (clear : Bool) : LimitsKept v (doPortRead port clear s).1.watched := by
  have cleared (p : PortId) : LimitsKept v (clearPortCounts p s).watched := by
    rw [clearPortCounts_eq]
    exact h.setPort p id
  unfold doPortRead
  split <;> simp [h, cleared]

@[simp] theorem limits_doMonitorSetup (monitor : Nat) (f : MonitorForm) :
    LimitsKept v (doMonitorSetup monitor f s).1.watched := by
  unfold doMonitorSetup
  split
  · exact h
  · split <;> simp [h]

@[simp] theorem limits_doMonitorArm (monitor : Nat) : LimitsKept v (doMonitorArm monitor s).1.watched := by
  unfold doMonitorArm
  split <;> exact h

@[simp] theorem limits_doMonitorRead (monitor part : Nat) (clear : Bool) :
    LimitsKept v (doMonitorRead monitor part clear s).1.watched := by
  unfold doMonitorRead
  dsimp only
  split
  · exact h
  · split <;> simp [h]

/-- TIMER SETUP refuses, or sets the one timer (R173). -/
@[simp] theorem limits_doTimerSetup (timer : Nat) (f : TimerForm) : LimitsKept v (doTimerSetup timer f s).1.watched := by
  unfold doTimerSetup
  split
  · exact h
  · split <;> simp [h]

@[simp] theorem limits_doTimerStart (timer : Nat) : LimitsKept v (doTimerStart timer s).1.watched := by
  unfold doTimerStart
  split <;> exact h

@[simp] theorem limits_doTimerStop (timer : Nat) : LimitsKept v (doTimerStop timer s).1.watched := by
  unfold doTimerStop
  split <;> exact h

@[simp] theorem limits_doTimerRead (timer : Nat) (clear : Bool) :
    LimitsKept v (doTimerRead timer clear s).1.watched := by
  unfold doTimerRead
  split <;> simp [h]

/-! ### Requests about the part, events and faults -/

@[simp] theorem limits_doPartSetup (id : Nat) (notices : Bool) : LimitsKept v (doPartSetup id notices s).1.watched := by
  simp [doPartSetup, h]

@[simp] theorem limits_doEventEnable (enables : BitVec 51) : LimitsKept v (doEventEnable enables s).1.watched :=
  h.event (fun ok => pendingOk_enable ok enables)

@[simp] theorem limits_doEventClear (named : BitVec 51) : LimitsKept v (doEventClear named s).1.watched :=
  h.event (fun ok => pendingOk_clearLatched ok named)

/-- The records that stay are some of the log's (R204). -/
@[simp] theorem limits_doFaultClear (all : Bool) (places : BitVec 8) :
    LimitsKept v (doFaultClear all places s).1.watched :=
  ⟨h.queues, fun ok => pendingOk_lowerIn (h.pending ok) 1,
    fun ok => logOk_of_sublist (h.log ok) (keepRecords_sublist all places 0 _)⟩

/-! ### The dictionary, and a request taken (11.5, R188 to R190) -/

/-- Every code of the dictionary is judged by a rule that keeps the limits (11.5). -/
@[simp] theorem limits_judgeParams (tag code : Nat) (ps : List Byte) :
    LimitsKept v (judgeParams tag code ps s).1.watched := by
  unfold judgeParams
  split <;> simp [h, doIdent, doMapAbort, doOriginRead, doEventRead, doFaultRead]

@[simp] theorem limits_judgeRequest (tag code len : Nat) (ps : List Byte) :
    LimitsKept v (judgeRequest tag code len ps s).1.watched := by
  unfold judgeRequest
  split
  · simp [h, judgeMapLoad]
  · split <;> simp [h]

end

/-- A request's judging keeps the limits. -/
def JudgeKeepsLimits (judge : State → State × Answer) : Prop :=
  ∀ {v : Vector Port 3 × EventUnit × FaultLog} {s : State}, LimitsKept v s.watched → LimitsKept v (judge s).1.watched

section
variable {v : Vector Port 3 × EventUnit × FaultLog} {s : State} (h : LimitsKept v s.watched)
include h

theorem limits_answerRequest (r : ReqHdr) (code : Nat) {judge : State → State × Answer} (keeps : JudgeKeepsLimits judge) :
    LimitsKept v (answerRequest r code judge s).watched := by
  have judged : LimitsKept v (judge (relayFirst r s)).1.watched := keeps (limits_relayFirst h r)
  unfold answerRequest placeReply
  split
  · exact limits_sendReply judged _ _ _
  · exact judged

/-! ### Resets (R42, R196) -/

/-- Both resets leave empty queues and nothing pending; the log is empty or kept. -/
theorem LimitsKept.of_reset {t : State} (queues : ∀ p, queueOk p (t.port p) = true) (pending : t.ev.pending = 0#51)
    (log : t.log = FaultLog.reset ∨ t.log = s.log) : LimitsKept v t.watched := by
  refine ⟨fun p _ => queues p, fun _ => pendingOk_none pending, fun ok => ?_⟩
  show logOk t.log = true
  rcases log with empty | same
  · rw [empty]
    rfl
  · rw [same]
    exact h.log ok

theorem limits_powerUp (straps : BitVec 5) : LimitsKept v (powerUp straps s).watched :=
  h.of_reset (fun p => by rw [port_powerUp]; rfl) rfl (.inl rfl)

theorem limits_softReset : LimitsKept v (softReset s).watched := by
  refine h.of_reset (fun p => ?_) ?_ (.inr rfl)
  · fin_cases p <;> rfl
  · show (softEvents s.log.overflow).pending = 0#51
    unfold softEvents
    split <;> rfl

theorem limits_answerPartReset (r : ReqHdr) : LimitsKept v (answerPartReset r s).watched :=
  limits_relayFirst (limits_sendReply (limits_softReset h) _ _ _) r

/-! ### Units on the chain (R151, R186) -/

theorem limits_mgmtArrival (pkt : Packet) : LimitsKept v (mgmtArrival pkt s).watched := by
  have taken (relay : Option Packet) : LimitsKept v (takeWireRequest relay pkt s).watched := by
    unfold takeWireRequest
    dsimp only
    split
    · exact limits_answerPartReset h _
    · exact limits_answerRequest h _ _ (fun hs => limits_judgeRequest hs _ _ _ _)
  simp [mgmtArrival, h, taken]

theorem limits_handUnit (u : Packet) : LimitsKept v (handUnit u s).watched := by
  simp [handUnit, h, limits_mgmtArrival]

theorem limits_frameUnit (u : Packet) : LimitsKept v (frameUnit u s).watched := by
  have handed (run : ChainIn) : LimitsKept v (handUnit u { s with ci := run }).watched :=
    limits_handUnit (s := { s with ci := run }) h u
  simp [frameUnit, h, handed]

theorem limits_renewHold : LimitsKept v (renewHold s).watched := by simp [renewHold, h]

end

/-! ### Every command -/

/-- A command keeps the limits. -/
def CommandKeepsLimits (c : Instr) (s : State) : Prop := ∀ t, exec c s = .next t → LimitsKept s.watched t.watched

theorem CommandKeepsLimits.of_event {c : Instr} {a s : State} (runs : exec c s = .next (afterEvent a))
    (kept : LimitsKept s.watched a.watched) : CommandKeepsLimits c s := by
  intro t ht
  obtain rfl := Host.Outcome.next.inj (runs.symm.trans ht)
  exact limits_afterEvent kept

theorem CommandKeepsLimits.of_request {c : Instr} {r : ReqHdr} {code : Nat} {judge : State → State × Answer} {s : State}
    (runs : exec c s = .next (takeRequest r code judge s)) (keeps : JudgeKeepsLimits judge) : CommandKeepsLimits c s :=
  .of_event runs (limits_answerRequest (.refl _) r code keeps)

/-- Every command keeps the limits. -/
theorem exec_keeps_limits (c : Instr) (s : State) : CommandKeepsLimits c s := by
  have h : LimitsKept s.watched s.watched := .refl _
  cases c with
  | powerUpReset straps => intro t ht; cases ht; exact limits_powerUp h straps
  | tick straps => exact .of_event rfl (limits_tickAll h straps)
  | linkDown l => exact .of_event rfl (limits_linkLost h l)
  | linkUp l => exact .of_event (a := linkFound l s) rfl h
  | sampleArrival l i q x => exact .of_event rfl (limits_takeSample h l i q x)
  | holdoffExpiry l => exact .of_event rfl (limits_holdoffExpires h l)
  | decodeCompletion _ => exact .of_event rfl (limits_decodeCompletes h)
  | slotEvent p => exact .of_event rfl (limits_slotWhenDue h p)
  | coHoldAssert => exact .of_event (a := { s with co := { s.co with held := true } }) rfl h
  | coHoldRelease => exact .of_event (a := { s with co := { s.co with held := false } }) rfl h
  | ciUnitArrival u => exact .of_event rfl (limits_frameUnit (limits_renewHold h) u)
  | timerExpiry t => exact .of_event rfl (limits_timerExpires h t)
  | partReset r => exact .of_event rfl (limits_answerPartReset h r)
  | ident r => exact .of_request rfl id
  | partSetup r id notices => exact .of_request rfl (limits_doPartSetup · id notices)
  | laneSetup r lane f => exact .of_request rfl (limits_doLaneSetup · lane f)
  | laneStart r lane => exact .of_request rfl (limits_doLaneStart · lane)
  | laneStop r lane => exact .of_request rfl (limits_doLaneStop · lane)
  | laneRead r lane clear => exact .of_request rfl (limits_doLaneRead · lane clear)
  | profileRead r lane => exact .of_request rfl (limits_doProfileRead · lane)
  | pair r p => exact .of_request rfl (limits_doPair · p)
  | unpair r p => exact .of_request rfl (limits_doUnpair · p)
  | poolSetup r r0 r1 r2 r3 => exact .of_request rfl (limits_doPoolSetup · r0 r1 r2 r3)
  | poolRead r start => exact .of_request rfl (limits_doPoolRead · start)
  | decoderSetup r high low => exact .of_request rfl (limits_doDecoderSetup · high low)
  | decoderRead r clear => exact .of_request rfl (limits_doDecoderRead · clear)
  | mapLoad r g => exact .of_request rfl (limits_doMapLoad · g)
  | mapAbort r => exact .of_request (judge := doMapAbort) rfl (fun hs => hs)
  | mapEditAdd r e => exact .of_request rfl (limits_doMapEditAdd · e)
  | mapEditReplace r e => exact .of_request rfl (limits_doMapEditReplace · e)
  | mapEditRemove r e => exact .of_request rfl (limits_doMapEditRemove · e)
  | mapRead r first count clear => exact .of_request rfl (limits_doMapRead · first count clear)
  | mapInvalidate r granularity origin id m =>
    exact .of_request rfl (limits_doMapInvalidate · granularity origin id m)
  | originSetup r origin f => exact .of_request rfl (limits_doOriginSetup · origin f)
  | originRead r => exact .of_request rfl id
  | portSetup r port interval high low limit =>
    exact .of_request rfl (limits_doPortSetup · port interval high low limit)
  | portStop r port => exact .of_request rfl (limits_doPortStop · port r.tag)
  | portStart r port => exact .of_request rfl (limits_doPortStart · port)
  | portFlush r port => exact .of_request rfl (limits_doPortFlush · port)
  | portRead r port clear => exact .of_request rfl (limits_doPortRead · port clear)
  | monitorSetup r monitor f => exact .of_request rfl (limits_doMonitorSetup · monitor f)
  | monitorArm r monitor => exact .of_request rfl (limits_doMonitorArm · monitor)
  | monitorRead r monitor part clear => exact .of_request rfl (limits_doMonitorRead · monitor part clear)
  | timerSetup r timer f => exact .of_request rfl (limits_doTimerSetup · timer f)
  | timerStart r timer => exact .of_request rfl (limits_doTimerStart · timer)
  | timerStop r timer => exact .of_request rfl (limits_doTimerStop · timer)
  | timerRead r timer clear => exact .of_request rfl (limits_doTimerRead · timer clear)
  | eventEnable r enables => exact .of_request rfl (limits_doEventEnable · enables)
  | eventRead r => exact .of_request rfl id
  | eventClear r named => exact .of_request rfl (limits_doEventClear · named)
  | faultRead r => exact .of_request rfl id
  | faultClear r all places => exact .of_request rfl (limits_doFaultClear · all places)

theorem step_keeps_limits {s t : State} (h : step s = .next t) : LimitsKept s.watched t.watched := by
  rcases step_cases h with rfl | ⟨c, rest, -, run⟩
  · exact .refl _
  · exact exec_keeps_limits c { s with pending := rest } t run

/-- Settles O6: a step keeps each limit, by arrivals and sends, flags and enables, reports and clears. -/
theorem queueEventAndFaultRulesHold : Obligations.QueueEventAndFaultRulesHold := by
  refine ⟨fun s t ok h => ?_, fun s t ok h => (step_keeps_limits h).pending ok,
    fun s t ok h => (step_keeps_limits h).log ok⟩
  rw [queuesOk_iff] at ok ⊢
  exact fun p => (step_keeps_limits h).queues p (ok p)

end Sys2Proof.Machine
end

section
/-! SUPPORT. What a slot event sends (R140, R143, R144): the drops of heads on the management id, the packet as sent, and which
packet a port chooses. `slotLeft` is the form of every state that arises on the way: one port, the event unit, the fault log and
the work put. -/

namespace Sys2Proof.Machine

/-! ### The form of the states of a send -/

/-- A state with one port, the event unit, the fault log and the work put. -/
def slotLeft (p : PortId) (s : State) (c : Port) (e : EventUnit) (x : FaultLog) (w : List Work) : State :=
  { s.setPort p c with ev := e, log := x, work := w }

section
variable {p : PortId} {s : State} {c : Port} {e : EventUnit} {x : FaultLog} {w : List Work}

@[simp] theorem port_slotLeft : (slotLeft p s c e x w).port p = c := port_setPort_self s p c

@[simp] theorem setPort_slotLeft (d : Port) : (slotLeft p s c e x w).setPort p d = slotLeft p s d e x w := by
  simp [slotLeft, State.setPort]

@[simp] theorem modPort_slotLeft (f : Port → Port) : (slotLeft p s c e x w).modPort p f = slotLeft p s (f c) e x w := by
  rw [modPort_eq, port_slotLeft, setPort_slotLeft]

@[simp] theorem putWire_slotLeft (pkt : Option Packet) :
    putWire p pkt (slotLeft p s c e x w) = slotLeft p s { c with wire := pkt } e x w := modPort_slotLeft _

end

/-! ### Reports made on different states -/

/-- A report reads only the time, the event unit and the log (R203). -/
theorem report_congr {s t : State} (time : t.time = s.time) (ev : t.ev = s.ev) (log : t.log = s.log) (source : Nat)
    (reason : FaultReason) (info : Nat) : report source reason info t =
      { t with ev := (report source reason info s).ev, log := (report source reason info s).log } := by
  by_cases known : Recorded source reason.code s.log.records
  · rw [report_recorded info known, report_recorded info (by rwa [log]), log, time, ← ev]
  · by_cases room : s.log.records.length < 8
    · rw [report_new info known room, report_new info (by rwa [log]) (by rwa [log]), log, time, ← ev]
      rfl
    · rw [report_full info known room, report_full info (by rwa [log]) (by rwa [log]), log, ← ev]
      rfl

/-! ### Drops of heads on the management id (R138, R140) -/

/-- What a drop tells of itself: PORT_DROP, and the report (R138). -/
def dropReported (p : PortId) (cls : Nat) (s : State) (e : Queued) : State :=
  if e.own then report 9 .replyLost (byteAt e.packet 4).toNat (raise (32 + p.val) s)
  else report (5 + p.val) .queueDrop cls (raise (32 + p.val) s)

@[simp] theorem time_dropReported (p : PortId) (cls : Nat) (s : State) (e : Queued) :
    (dropReported p cls s e).time = s.time := by
  unfold dropReported
  split <;> rw [report_rest] <;> rfl

@[simp] theorem time_dropsReported (p : PortId) (cls : Nat) (gone : List Queued) (s : State) :
    (gone.foldl (dropReported p cls) s).time = s.time := by
  induction gone generalizing s with
  | nil => rfl
  | cons e gone ih => rw [List.foldl_cons, ih, time_dropReported]

@[simp] theorem ports_dropReported (p : PortId) (cls : Nat) (s : State) (e : Queued) :
    (dropReported p cls s e).ports = s.ports := by
  unfold dropReported
  split <;> rw [report_rest] <;> rfl

@[simp] theorem port_dropsReported (p : PortId) (cls : Nat) (gone : List Queued) (s : State) (k : PortId) :
    (gone.foldl (dropReported p cls) s).port k = s.port k := by
  induction gone generalizing s with
  | nil => rfl
  | cons e gone ih =>
    rw [List.foldl_cons, ih, State.port, ports_dropReported]
    rfl

section
variable {p : PortId} {s x : State} {c : Port} {w : List Work}

theorem report_slotLeft (time : x.time = s.time) (source : Nat) (reason : FaultReason) (info : Nat) :
    report source reason info (slotLeft p s c x.ev x.log w) =
      slotLeft p s c (report source reason info x).ev (report source reason info x).log w :=
  report_congr (s := x) (t := slotLeft p s c x.ev x.log w) time.symm rfl rfl source reason info

theorem queueDrop_slotLeft (time : x.time = s.time) (cls : Nat) (e : Queued) :
    queueDrop p cls e.own e.packet (slotLeft p s c x.ev x.log w) =
      slotLeft p s (c.countDrop cls) (dropReported p cls x e).ev (dropReported p cls x e).log
        (w ++ [.occ (.portDrop p)]) := by
  have raised : (raise (32 + p.val) (slotLeft p s (c.countDrop cls) x.ev x.log w)).addWork [.occ (.portDrop p)] =
      slotLeft p s (c.countDrop cls) (raise (32 + p.val) x).ev (raise (32 + p.val) x).log (w ++ [.occ (.portDrop p)]) := rfl
  have time' : (raise (32 + p.val) x).time = s.time := time
  rw [queueDrop_eq, port_slotLeft, setPort_slotLeft, dropTold, raised, report_slotLeft time', report_slotLeft time',
    dropReported]
  split <;> rfl

/-- The heads on the management id that a choice from class 1 meets first are dropped. -/
theorem sendClass1_drops {gone : List Queued} (managed : ∀ e ∈ gone, pktId e.packet = s.mgmt.id) (time : x.time = s.time)
    (rest : List Queued) : sendClass1 p (gone ++ rest) (slotLeft p s c x.ev x.log w) =
      sendClass1 p rest (slotLeft p s ((·.countDrop 1)^[gone.length] c) (gone.foldl (dropReported p 1) x).ev
        (gone.foldl (dropReported p 1) x).log (w ++ List.replicate gone.length (.occ (.portDrop p)))) := by
  induction gone generalizing x c w with
  | nil => simp
  | cons e gone ih =>
    obtain ⟨first, others⟩ := List.forall_mem_cons.mp managed
    have dropped : sendClass1 p (e :: gone ++ rest) (slotLeft p s c x.ev x.log w) =
        sendClass1 p (gone ++ rest) (queueDrop p 1 e.own e.packet (slotLeft p s c x.ev x.log w)) := if_pos first
    rw [dropped, queueDrop_slotLeft time, ih others (by rw [time_dropReported, time]), List.foldl_cons, List.length_cons,
      Function.iterate_succ_apply, List.append_assoc, List.singleton_append, List.replicate_succ]

/-- And those that a choice from class 2 meets first. -/
theorem sendClass2_drops {gone : List Queued} (managed : ∀ e ∈ gone, pktId e.packet = s.mgmt.id) (time : x.time = s.time)
    (rest : List Queued) : sendClass2 p (gone ++ rest) (slotLeft p s c x.ev x.log w) =
      sendClass2 p rest (slotLeft p s ((·.countDrop 2)^[gone.length] c) (gone.foldl (dropReported p 2) x).ev
        (gone.foldl (dropReported p 2) x).log (w ++ List.replicate gone.length (.occ (.portDrop p)))) := by
  induction gone generalizing x c w with
  | nil => simp
  | cons e gone ih =>
    obtain ⟨first, others⟩ := List.forall_mem_cons.mp managed
    have dropped : sendClass2 p (e :: gone ++ rest) (slotLeft p s c x.ev x.log w) =
        sendClass2 p (gone ++ rest) (queueDrop p 2 e.own e.packet (slotLeft p s c x.ev x.log w)) := if_pos first
    rw [dropped, queueDrop_slotLeft time, ih others (by rw [time_dropReported, time]), List.foldl_cons, List.length_cons,
      Function.iterate_succ_apply, List.append_assoc, List.singleton_append, List.replicate_succ]

end

/-- A drop count after some drops. -/
def dropsAfter (d n : Nat) : Nat := if n = 0 then d else (d + n) % 4294967296

theorem dropsAfter_succ (d n : Nat) : dropsAfter (wrap32 (d + 1)) n = dropsAfter d (n + 1) := by
  unfold dropsAfter wrap32
  split <;> simp_all
  omega

theorem countDrop1_iterate (n : Nat) (c : Port) :
    (·.countDrop 1)^[n] c = { c with drop1 := dropsAfter c.drop1 n } := by
  induction n generalizing c with
  | zero => rfl
  | succ n ih =>
    rw [Function.iterate_succ_apply, ih, ← dropsAfter_succ]
    rfl

theorem countDrop2_iterate (n : Nat) (c : Port) :
    (·.countDrop 2)^[n] c = { c with drop2 := dropsAfter c.drop2 n } := by
  induction n generalizing c with
  | zero => rfl
  | succ n ih =>
    rw [Function.iterate_succ_apply, ih, ← dropsAfter_succ]
    rfl

/-! ### The packet as sent (R143, R144, R200) -/

/-- The event unit after a packet has left: the send of this part's notice clears notice outstanding (R200). -/
def noticeFreed (e : Queued) (v : EventUnit) : EventUnit :=
  if e.own = true ∧ (byteAt e.packet 4).toNat = 3 then { v with outstanding := false } else v

section
variable {p : PortId} {s x : State} {c : Port} {w : List Work}

/-- A restamp on a state of a send is that on the state the event unit and the log are of. -/
theorem restamped_slotLeft (time : x.time = s.time) (skipped : c.skipped = (x.port p).skipped) (e : Queued) :
    restamped p e (slotLeft p s c x.ev x.log w) = ((restamped p e x).1,
      slotLeft p s { c with skipped := ((restamped p e x).2.port p).skipped } (restamped p e x).2.ev
        (restamped p e x).2.log w) := by
  unfold restamped
  split
  · split
    · refine Prod.ext rfl ?_
      dsimp only
      rw [modPort_slotLeft, port_report, port_modPort_self, ← skipped]
      exact report_slotLeft (x := x.modPort p (fun q => { q with skipped := wrap32 (q.skipped + 1) })) time _ _ _
    · rw [← skipped, time]
      rfl
  · rw [← skipped]

theorem sendQueued_slotLeft (time : x.time = s.time) (skipped : c.skipped = (x.port p).skipped) (e : Queued) :
    sendQueued p e (slotLeft p s c x.ev x.log w) =
      slotLeft p s { c with skipped := ((restamped p e x).2.port p).skipped, wire := some (restamped p e x).1 }
        (noticeFreed e (restamped p e x).2.ev) (restamped p e x).2.log w := by
  unfold sendQueued
  rw [restamped_slotLeft time skipped]
  dsimp only
  rw [putWire_slotLeft]
  have frees : (e.own && decide (mgmtKind e.packet = 3)) = true ↔ e.own = true ∧ (byteAt e.packet 4).toNat = 3 := by
    rw [Bool.and_eq_true, decide_eq_true_iff]
    rfl
  by_cases free : e.own = true ∧ (byteAt e.packet 4).toNat = 3
  · rw [if_pos (frees.mpr free), noticeFreed, if_pos free]
    rfl
  · rw [if_neg (mt frees.mp free), noticeFreed, if_neg free]

/-- The packet as sent depends on the state by its time alone. -/
theorem restamped_fst_congr (time : x.time = s.time) (e : Queued) : (restamped p e x).1 = (restamped p e s).1 := by
  unfold restamped
  rw [time]
  split
  · split <;> rfl
  · rfl

/-- And whether a restamp is skipped depends on the packet alone. -/
theorem skipped_restamped_congr (port : x.port p = s.port p) (e : Queued) :
    ((restamped p e x).2.port p).skipped = ((restamped p e s).2.port p).skipped := by
  unfold restamped
  split
  · split
    · dsimp only
      rw [port_report, port_report, port_modPort_self, port_modPort_self, port]
    · exact congrArg Port.skipped port
  · exact congrArg Port.skipped port

end

end Sys2Proof.Machine
end

section
/-! SUPPORT. A slot event whose time stands (R139, R140, R142, R146, R152): the schedule, the choice of a packet, the hold
counted and judged, the reply of a stop that completes. -/

namespace Sys2Proof.Machine

/-! ### The slot event in its parts -/

/-- A port at its slot: the schedule advances, a STOPPING port becomes STOPPED (R139, R146). -/
def slotPort (q : Port) : Port :=
  { q with
    nextSlot := wrapTime (q.nextSlot + q.interval)
    pstate := if q.pstate = .stopping then .stopped else q.pstate
    pendingStop := if q.pstate = .stopping then none else q.pendingStop }

/-- The stop that a slot event completes (R146). -/
def slotStop (q : Port) : Option Nat := if q.pstate = .stopping then q.pendingStop else none

/-- A slot event but for the reply of a completed stop. -/
def slotDone (p : PortId) (s : State) : State :=
  let t := slotSend p (s.setPort p (slotPort (s.port p)))
  if p = portCO then countHoldSlot (decide (s.co.hold = .holding)) t else t

theorem slotEvent_eq (p : PortId) (s : State) : slotEvent p s =
    match slotStop (s.port p) with
    | some tag => sendReply tag 0x29 (.done []) (slotDone p s)
    | none => slotDone p s := rfl

/-- What a port that is not held sends, before its hold is judged (R140). -/
def slotChoice (p : PortId) (s : State) : State :=
  match (s.port p).q0 with
  | e :: rest => sendQueued p e (s.setPort p { s.port p with q0 := rest })
  | [] => if (s.port p).pstate = .running then sendClass1 p (s.port p).q1 s else putWire p (some nullPacket) s

theorem slotSend_held {p : PortId} {s : State} (held : p = portCO ∧ s.co.held = true) : slotSend p s =
    putWire p none { s with co := { s.co with heldSlots := wrap32 (s.co.heldSlots + 1) } } := if_pos held

/-- The hold is judged where classes 1 and 2 were looked at. -/
theorem slotSend_free {p : PortId} {s : State} (free : ¬(p = portCO ∧ s.co.held = true)) : slotSend p s =
    if (s.port p).q0 = [] ∧ (s.port p).pstate = .running then judgeHoldAt p (slotChoice p s) else slotChoice p s := by
  unfold slotSend slotChoice
  dsimp only
  rw [if_neg free]
  cases (s.port p).q0 with
  | cons e rest => simp
  | nil =>
    by_cases running : (s.port p).pstate = .running <;> simp [running]

/-! ### The choice, case by case (R140) -/

section
variable {p : PortId} {s : State} {c : Port}

/-- The state in which a port begins to send, in the form of the states of a send. -/
theorem setPort_eq_slotLeft : s.setPort p c = slotLeft p s c s.ev s.log s.work := rfl

/-- Class 0 goes first. -/
theorem slotChoice_urgent {e : Queued} {rest : List Queued} (queue : c.q0 = e :: rest)
    (skipped : c.skipped = (s.port p).skipped) : slotChoice p (s.setPort p c) =
      slotLeft p s
        { c with q0 := rest, skipped := ((restamped p e s).2.port p).skipped, wire := some (restamped p e s).1 }
        (noticeFreed e (restamped p e s).2.ev) (restamped p e s).2.log s.work := by
  unfold slotChoice
  rw [port_setPort_self, queue]
  dsimp only
  rw [setPort_setPort, setPort_eq_slotLeft, sendQueued_slotLeft (c := { c with q0 := rest }) rfl skipped]

/-- A port that is not RUNNING sends a null packet. -/
theorem slotChoice_null (empty : c.q0 = []) (still : c.pstate ≠ .running) : slotChoice p (s.setPort p c) =
    slotLeft p s { c with wire := some nullPacket } s.ev s.log s.work := by
  have chosen : slotChoice p (s.setPort p c) = putWire p (some nullPacket) (s.setPort p c) := by
    unfold slotChoice
    rw [port_setPort_self, empty]
    exact if_neg still
  rw [chosen, setPort_eq_slotLeft, putWire_slotLeft]

theorem slotChoice_stream (empty : c.q0 = []) (running : c.pstate = .running) :
    slotChoice p (s.setPort p c) = sendClass1 p c.q1 (slotLeft p s c s.ev s.log s.work) := by
  unfold slotChoice
  rw [port_setPort_self, empty]
  dsimp only
  rw [if_pos running, setPort_eq_slotLeft]

/-- The first packet of class 1 that is not on the management id. -/
theorem slotChoice_class1 {gone rest : List Queued} {e : Queued} (empty : c.q0 = []) (running : c.pstate = .running)
    (skipped : c.skipped = (s.port p).skipped) (queue : c.q1 = gone ++ e :: rest)
    (managed : ∀ x ∈ gone, pktId x.packet = s.mgmt.id) (good : pktId e.packet ≠ s.mgmt.id) :
    slotChoice p (s.setPort p c) =
      let r := restamped p e (gone.foldl (dropReported p 1) s)
      slotLeft p s
        { c with
          q1 := rest, drop1 := dropsAfter c.drop1 gone.length, skipped := (r.2.port p).skipped, wire := some r.1 }
        (noticeFreed e r.2.ev) r.2.log (s.work ++ List.replicate gone.length (.occ (.portDrop p))) := by
  rw [slotChoice_stream empty running, queue, sendClass1_drops managed rfl, countDrop1_iterate]
  refine (if_neg good).trans ?_
  rw [modPort_slotLeft]
  refine sendQueued_slotLeft (time_dropsReported p 1 gone s) ?_ e
  rw [port_dropsReported, ← skipped]

/-- With class 1 all on the management id, class 2 is looked at. -/
theorem slotChoice_below (empty : c.q0 = []) (running : c.pstate = .running)
    (managed : ∀ x ∈ c.q1, pktId x.packet = s.mgmt.id) : slotChoice p (s.setPort p c) =
      let x := c.q1.foldl (dropReported p 1) s
      sendClass2 p c.q2 (slotLeft p s { c with q1 := [], drop1 := dropsAfter c.drop1 c.q1.length } x.ev x.log
        (s.work ++ List.replicate c.q1.length (.occ (.portDrop p)))) := by
  have drops := sendClass1_drops (p := p) (c := c) (w := s.work) managed rfl []
  rw [List.append_nil] at drops
  rw [slotChoice_stream empty running, drops, countDrop1_iterate]
  unfold sendClass1
  simp only [modPort_slotLeft, port_slotLeft]

/-- The first packet of class 2 that is not on the management id. -/
theorem slotChoice_class2 {gone rest : List Queued} {e : Queued} (empty : c.q0 = []) (running : c.pstate = .running)
    (skipped : c.skipped = (s.port p).skipped) (managed1 : ∀ x ∈ c.q1, pktId x.packet = s.mgmt.id)
    (queue : c.q2 = gone ++ e :: rest) (managed2 : ∀ x ∈ gone, pktId x.packet = s.mgmt.id)
    (good : pktId e.packet ≠ s.mgmt.id) : slotChoice p (s.setPort p c) =
      let r := restamped p e (gone.foldl (dropReported p 2) (c.q1.foldl (dropReported p 1) s))
      slotLeft p s
        { c with
          q1 := [], q2 := rest, drop1 := dropsAfter c.drop1 c.q1.length, drop2 := dropsAfter c.drop2 gone.length
          skipped := (r.2.port p).skipped, wire := some r.1 }
        (noticeFreed e r.2.ev) r.2.log
        (s.work ++ List.replicate (c.q1.length + gone.length) (.occ (.portDrop p))) := by
  rw [slotChoice_below empty running managed1]
  dsimp only
  rw [queue, sendClass2_drops managed2 (time_dropsReported p 1 c.q1 s), countDrop2_iterate, List.append_assoc,
    List.replicate_append_replicate]
  refine (if_neg good).trans ?_
  rw [modPort_slotLeft]
  refine sendQueued_slotLeft ?_ ?_ e
  · rw [time_dropsReported, time_dropsReported]
  · rw [port_dropsReported, port_dropsReported, ← skipped]

/-- With both classes all on the management id, a null packet. -/
theorem slotChoice_exhausted (empty : c.q0 = []) (running : c.pstate = .running)
    (managed1 : ∀ x ∈ c.q1, pktId x.packet = s.mgmt.id) (managed2 : ∀ x ∈ c.q2, pktId x.packet = s.mgmt.id) :
    slotChoice p (s.setPort p c) =
      let x := c.q2.foldl (dropReported p 2) (c.q1.foldl (dropReported p 1) s)
      slotLeft p s
        { c with
          q1 := [], q2 := [], drop1 := dropsAfter c.drop1 c.q1.length, drop2 := dropsAfter c.drop2 c.q2.length
          wire := some nullPacket }
        x.ev x.log (s.work ++ List.replicate (c.q1.length + c.q2.length) (.occ (.portDrop p))) := by
  have drops := sendClass2_drops (p := p) (s := s) (x := c.q1.foldl (dropReported p 1) s)
    (c := { c with q1 := [], drop1 := dropsAfter c.drop1 c.q1.length })
    (w := s.work ++ List.replicate c.q1.length (.occ (.portDrop p))) managed2 (time_dropsReported p 1 c.q1 s) []
  rw [List.append_nil] at drops
  rw [slotChoice_below empty running managed1]
  dsimp only
  rw [drops, countDrop2_iterate, List.append_assoc, List.replicate_append_replicate]
  unfold sendClass2
  rw [modPort_slotLeft, putWire_slotLeft]

end

/-- A queue has only packets on an id, or a first that is not on it. -/
theorem managed_or_first (id : Nat) (q : List Queued) : (∀ x ∈ q, pktId x.packet = id) ∨
    ∃ gone e rest, q = gone ++ e :: rest ∧ (∀ x ∈ gone, pktId x.packet = id) ∧ pktId e.packet ≠ id := by
  induction q with
  | nil => exact .inl (fun _ h => absurd h List.not_mem_nil)
  | cons x q ih =>
    by_cases managed : pktId x.packet = id
    · rcases ih with all | ⟨gone, e, rest, rfl, before, good⟩
      · exact .inl (List.forall_mem_cons.mpr ⟨managed, all⟩)
      · exact .inr ⟨x :: gone, e, rest, rfl, List.forall_mem_cons.mpr ⟨managed, before⟩, good⟩
    · exact .inr ⟨[], x, q, rfl, fun _ h => absurd h List.not_mem_nil, managed⟩

/-- What a choice can alter of its port, and that it alters besides only the event unit, the log and the work. -/
theorem slotChoice_form (p : PortId) (s : State) {c : Port} (skipped : c.skipped = (s.port p).skipped) :
    ∃ d e x w, slotChoice p (s.setPort p c) = slotLeft p s d e x w ∧
      d = { c with
        q0 := d.q0, q1 := d.q1, q2 := d.q2, drop1 := d.drop1, drop2 := d.drop2, skipped := d.skipped, wire := d.wire } := by
  cases queue : c.q0 with
  | cons e rest => exact ⟨_, _, _, _, slotChoice_urgent queue skipped, rfl⟩
  | nil =>
    by_cases running : c.pstate = .running
    · rcases managed_or_first s.mgmt.id c.q1 with managed1 | ⟨gone, e, rest, queue1, managed1, good⟩
      · rcases managed_or_first s.mgmt.id c.q2 with managed2 | ⟨gone, e, rest, queue2, managed2, good⟩
        · exact ⟨_, _, _, _, slotChoice_exhausted queue running managed1 managed2, rfl⟩
        · exact ⟨_, _, _, _, slotChoice_class2 queue running skipped managed1 queue2 managed2 good, rfl⟩
      · exact ⟨_, _, _, _, slotChoice_class1 queue running skipped queue1 managed1 good, rfl⟩
    · exact ⟨_, _, _, _, slotChoice_null queue running, rfl⟩

/-! ### The hold at a slot of CO (R152) -/

/-- CO after its slot is counted toward the hold limit, in a hold that was HOLDING before its send and is still. -/
def slotCounted (was : Bool) (co : ChainOut) : ChainOut :=
  if was && decide (co.hold = .holding) then
    { co with holdCount := co.holdCount + 1, hold := if co.limit ≤ co.holdCount + 1 then .paused else .holding }
  else co

theorem countHoldSlot_eq (was : Bool) (s : State) : countHoldSlot was s = { s with co := slotCounted was s.co } := by
  unfold countHoldSlot slotCounted
  split <;> rfl

/-- CO after a slot event, by whether its hold was judged, and for which stream depth. -/
def slotHold (judged : Prop) [Decidable judged] (depth : Nat) (co : ChainOut) : ChainOut :=
  slotCounted (decide (co.hold = .holding)) (if judged then holdJudged depth co else co)

section
variable {judged : Prop} [Decidable judged] {d : Nat} {co : ChainOut}

theorem slotHold_counts (holding : co.hold = .holding) (stays : ¬judged ∨ co.low < d) : slotHold judged d co =
    { co with holdCount := co.holdCount + 1, hold := if co.limit ≤ co.holdCount + 1 then .paused else .holding } := by
  have same : (if judged then holdJudged d co else co) = co := by
    split
    next now => exact holdJudged_held (by rw [holding]; decide) (stays.resolve_left (not_not_intro now))
    next => rfl
  simp [slotHold, slotCounted, same, holding]

theorem slotHold_ends (held : co.hold ≠ .idle) (now : judged) (fallen : d ≤ co.low) :
    slotHold judged d co = { co with hold := .idle } := by
  simp [slotHold, slotCounted, now, holdJudged_ends held fallen]

theorem slotHold_paused (paused : co.hold = .paused) (stays : ¬judged ∨ co.low < d) : slotHold judged d co = co := by
  have same : (if judged then holdJudged d co else co) = co := by
    split
    next now => exact holdJudged_held (by rw [paused]; decide) (stays.resolve_left (not_not_intro now))
    next => rfl
  simp [slotHold, slotCounted, same, paused]

theorem slotHold_begins (idle : co.hold = .idle) (now : judged) (reached : co.high ≤ d) :
    slotHold judged d co = { co with hold := .holding, holdCount := 0 } := by
  simp [slotHold, slotCounted, now, idle, holdJudged_begins idle reached]

theorem slotHold_idle (idle : co.hold = .idle) (below : ¬judged ∨ d < co.high) : slotHold judged d co = co := by
  have same : (if judged then holdJudged d co else co) = co := by
    split
    next now => exact holdJudged_idle idle (below.resolve_left (not_not_intro now))
    next => rfl
  simp [slotHold, slotCounted, same, idle]

/-- Nothing but the hold and its count moves. -/
theorem slotHold_form : slotHold judged d co =
    { co with hold := (slotHold judged d co).hold, holdCount := (slotHold judged d co).holdCount } := by
  unfold slotHold slotCounted holdJudged
  repeat' split
  all_goals rfl

/-- Counting leaves whether there is a hold. -/
theorem slotCounted_idle_iff (was : Bool) : (slotCounted was co).hold = .idle ↔ co.hold = .idle := by
  unfold slotCounted
  split
  next counted =>
    rw [Bool.and_eq_true, decide_eq_true_iff] at counted
    dsimp only
    rw [counted.2]
    split <;> decide
  next => rfl

end

/-! ### What a slot event leaves but for the reply -/

/-- CI_HOLDING follows the hold of CO (R198). -/
def slotFollowed (p : PortId) (hold : HoldState) (v : EventUnit) : EventUnit :=
  if p ≠ portCO then v else if hold = .idle then lowerIn v 31 else raiseIn v 31

section
variable {p : PortId} {s : State} {d : Port} {e : EventUnit} {x : FaultLog} {w : List Work}

theorem running_slotPort (q : Port) : (slotPort q).pstate = .running ↔ q.pstate = .running := by
  unfold slotPort
  dsimp only
  split
  next stopping => rw [stopping]; decide
  next => rfl

/-- A held CO sends nothing, and the slot is counted (R142). -/
theorem slotDone_held (held : s.co.held = true) : slotDone portCO s =
    { slotLeft portCO s { slotPort (s.port portCO) with wire := none } s.ev s.log s.work with
      co := slotHold False 0 { s.co with heldSlots := wrap32 (s.co.heldSlots + 1) } } := by
  have sent : slotSend portCO (s.setPort portCO (slotPort (s.port portCO))) =
      { slotLeft portCO s { slotPort (s.port portCO) with wire := none } s.ev s.log s.work with
        co := { s.co with heldSlots := wrap32 (s.co.heldSlots + 1) } } :=
    (slotSend_held (p := portCO) (s := s.setPort portCO (slotPort (s.port portCO))) ⟨rfl, held⟩).trans
      (congrArg (fun t : State => { t with co := { s.co with heldSlots := wrap32 (s.co.heldSlots + 1) } })
        (putWire_slotLeft (p := portCO) (s := s) (c := slotPort (s.port portCO)) (e := s.ev) (x := s.log) (w := s.work)
          none))
  unfold slotDone
  dsimp only
  rw [if_pos rfl, sent, countHoldSlot_eq]
  rfl

/-- What a port that is not held sends, with the hold of CO judged where classes 1 and 2 were looked at. -/
theorem slotSend_choice (free : p = portCO → s.co.held = false)
    (choice : slotChoice p (s.setPort p (slotPort (s.port p))) = slotLeft p s d e x w) :
    slotSend p (s.setPort p (slotPort (s.port p))) =
      if (s.port p).q0 = [] ∧ (s.port p).pstate = .running then judgeHoldAt p (slotLeft p s d e x w)
      else slotLeft p s d e x w := by
  have unheld : ¬(p = portCO ∧ s.co.held = true) := fun held => ne_false_of_eq_true held.2 (free held.1)
  rw [slotSend_free (s := s.setPort p (slotPort (s.port p))) unheld, port_setPort_self, choice]
  exact if_congr (and_congr Iff.rfl (running_slotPort (s.port p))) rfl rfl

theorem slotDone_feed (feed : p ≠ portCO)
    (choice : slotChoice p (s.setPort p (slotPort (s.port p))) = slotLeft p s d e x w) :
    slotDone p s = slotLeft p s d e x w := by
  unfold slotDone
  dsimp only
  rw [if_neg feed, slotSend_choice (fun chain => absurd chain feed) choice, judgeHoldAt, if_neg feed]
  exact ite_self _

theorem slotDone_chain (free : s.co.held = false)
    (choice : slotChoice portCO (s.setPort portCO (slotPort (s.port portCO))) = slotLeft portCO s d e x w) :
    slotDone portCO s =
      { slotLeft portCO s d
          (if (s.port portCO).q0 = [] ∧ (s.port portCO).pstate = .running then
            slotFollowed portCO (slotHold ((s.port portCO).q0 = [] ∧ (s.port portCO).pstate = .running) d.streamDepth
              s.co).hold e else e) x w with
        co := slotHold ((s.port portCO).q0 = [] ∧ (s.port portCO).pstate = .running) d.streamDepth s.co } := by
  have done : slotDone portCO s = countHoldSlot (decide (s.co.hold = .holding))
      (if (s.port portCO).q0 = [] ∧ (s.port portCO).pstate = .running then judgeHoldAt portCO (slotLeft portCO s d e x w)
      else slotLeft portCO s d e x w) := by
    unfold slotDone
    dsimp only
    rw [if_pos rfl, slotSend_choice (fun _ => free) choice]
  rw [done, countHoldSlot_eq]
  by_cases judged : (s.port portCO).q0 = [] ∧ (s.port portCO).pstate = .running
  · rw [if_pos judged, if_pos judged, judgeHoldAt, if_pos rfl, judgeHold_eq, port_slotLeft, slotHold, if_pos judged]
    simp only [slotFollowed, holdFollowed, slotCounted_idle_iff]
    rfl
  · rw [if_neg judged, if_neg judged, slotHold, if_neg judged]
    rfl

end

end Sys2Proof.Machine
end

section
/-! SUPPORT. O17 from the parts of a slot event. -/

namespace Sys2Proof.Machine

section
variable {p : PortId} {s : State}

/-- What a slot event writes but for the reply: one port, the event unit, the log, the work and CO. -/
theorem slotDone_form (p : PortId) (s : State) :
    ∃ d e x w, slotDone p s = { slotLeft p s d e x w with co := (slotDone p s).co } ∧
      d = { slotPort (s.port p) with
        q0 := d.q0, q1 := d.q1, q2 := d.q2, drop1 := d.drop1, drop2 := d.drop2, skipped := d.skipped, wire := d.wire } := by
  obtain ⟨d, e, x, w, choice, form⟩ := slotChoice_form p s (c := slotPort (s.port p)) rfl
  by_cases chain : p = portCO
  · subst chain
    cases held : s.co.held with
    | true => exact ⟨_, _, _, _, by rw [slotDone_held held], rfl⟩
    | false => exact ⟨d, _, x, w, by rw [slotDone_chain held choice], form⟩
  · exact ⟨d, e, x, w, by rw [slotDone_feed chain choice, slotLeft], form⟩

/-- What a slot of a port that is not held leaves, by what the port has sent. -/
theorem slotDone_sends {d : Port} {e : EventUnit} {x : FaultLog} {w : List Work} (free : p = portCO → s.co.held = false)
    (choice : slotChoice p (s.setPort p (slotPort (s.port p))) = slotLeft p s d e x w) :
    (slotDone p s).port p = d ∧ (slotDone p s).log = x ∧ (slotDone p s).work = w ∧
      (slotDone p s).ev = if (s.port p).q0 = [] ∧ (s.port p).pstate = .running then
        slotFollowed p (slotDone p s).co.hold e else e := by
  by_cases chain : p = portCO
  · subst chain
    rw [slotDone_chain (free rfl) choice]
    exact ⟨port_setPort_self s portCO d, rfl, rfl, rfl⟩
  · rw [slotDone_feed chain choice]
    refine ⟨port_slotLeft, rfl, rfl, ?_⟩
    rw [slotFollowed, if_pos chain]
    exact (ite_self _).symm

/-- The schedule, the state and the stop of the port; its queues, counts and wire are left to the choice. -/
theorem port_slotDone (p : PortId) (s : State) : (slotDone p s).port p = { slotPort (s.port p) with
    q0 := ((slotDone p s).port p).q0, q1 := ((slotDone p s).port p).q1, q2 := ((slotDone p s).port p).q2
    drop1 := ((slotDone p s).port p).drop1, drop2 := ((slotDone p s).port p).drop2
    skipped := ((slotDone p s).port p).skipped, wire := ((slotDone p s).port p).wire } := by
  obtain ⟨d, e, x, w, done, form⟩ := slotDone_form p s
  have port : (slotDone p s).port p = d := by
    rw [done]
    exact port_setPort_self s p d
  rw [port]
  exact form

theorem port_slotDone_ne {k : PortId} (other : k ≠ p) : (slotDone p s).port k = s.port k := by
  obtain ⟨d, e, x, w, done, _⟩ := slotDone_form p s
  rw [done]
  exact port_setPort_ne s p k d other

theorem slotDone_rest (p : PortId) (s : State) : slotDone p s = { s with
    ports := (slotDone p s).ports, co := (slotDone p s).co, ev := (slotDone p s).ev, log := (slotDone p s).log
    work := (slotDone p s).work } := by
  obtain ⟨d, e, x, w, done, _⟩ := slotDone_form p s
  rw [done]
  rfl

theorem port_slotDone_held (held : s.co.held = true) :
    (slotDone portCO s).port portCO = { slotPort (s.port portCO) with wire := none } := by
  rw [slotDone_held held]
  exact port_setPort_self s portCO _

/-- A feed's slot leaves CO. -/
theorem slotDone_co_feed (feed : p ≠ portCO) : (slotDone p s).co = s.co := by
  obtain ⟨d, e, x, w, choice, _⟩ := slotChoice_form p s (c := slotPort (s.port p)) rfl
  rw [slotDone_feed feed choice]
  rfl

/-- CO with a held slot counted (R142). -/
def heldCounted (co : ChainOut) : ChainOut :=
  { co with heldSlots := if co.held then wrap32 (co.heldSlots + 1) else co.heldSlots }

theorem heldCounted_free {co : ChainOut} (free : co.held = false) : heldCounted co = co := by
  rw [heldCounted, if_neg (ne_true_of_eq_false free)]

theorem heldCounted_held {co : ChainOut} (held : co.held = true) :
    heldCounted co = { co with heldSlots := wrap32 (co.heldSlots + 1) } := by
  simp [heldCounted, held]

/-- CO after its slot: where classes 1 and 2 were looked at its hold is judged by the depth they are left with. -/
theorem slotDone_co_chain (s : State) : (slotDone portCO s).co =
    slotHold (s.co.held = false ∧ (s.port portCO).q0 = [] ∧ (s.port portCO).pstate = .running)
      ((slotDone portCO s).port portCO).streamDepth
      (heldCounted s.co) := by
  cases held : s.co.held with
  | true =>
    rw [slotDone_held held, heldCounted_held held]
    simp [slotHold]
  | false =>
    obtain ⟨d, e, x, w, choice, _⟩ := slotChoice_form portCO s (c := slotPort (s.port portCO)) rfl
    rw [(slotDone_sends (fun _ => held) choice).1, slotDone_chain held choice]
    rw [heldCounted_free held]
    simp only [true_and]

/-- A slot of a port that is not held counts no held slot. -/
theorem heldSlots_slotDone (free : p = portCO → s.co.held = false) : (slotDone p s).co.heldSlots = s.co.heldSlots := by
  by_cases chain : p = portCO
  · subst chain
    rw [slotDone_co_chain, slotHold_form, heldCounted_free (free rfl)]
  · rw [slotDone_co_feed chain]

end

/-! ### The reply of a completed stop (R146) -/

theorem slotEvent_still {p : PortId} {s : State} (still : (s.port p).pstate ≠ .stopping ∨ (s.port p).pendingStop = none) :
    slotEvent p s = slotDone p s := by
  have none : slotStop (s.port p) = none := by
    unfold slotStop
    split
    next stopping => exact still.resolve_left (not_not_intro stopping)
    next => rfl
  rw [slotEvent_eq, none]

theorem slotEvent_stops {p : PortId} {s : State} {tag : Nat} (stopping : (s.port p).pstate = .stopping)
    (asked : (s.port p).pendingStop = some tag) : slotEvent p s = sendReply tag 0x29 (.done []) (slotDone p s) := by
  rw [slotEvent_eq, slotStop, if_pos stopping, asked]

/-- Settles O17: each clause is the case of the choice it names, and the hold of CO follows by what the port is left
with. -/
theorem slotEvents : Obligations.SlotEvents := by
  intro p s
  dsimp only
  have port := port_slotDone p s
  refine ⟨fun early => ⟨_, rfl, ?_⟩, fun due => ⟨slotDone p s, slotEvent p s, _, rfl, ?_, slotEvent_still,
    fun _ => slotEvent_stops, congrArg Port.nextSlot port, (congrArg Port.interval port :), congrArg Port.pstate port,
    congrArg Port.pendingStop port, fun _ => port_slotDone_ne, (congrArg Port.drop0 port :), slotDone_rest p s,
    fun chain held => ?_, fun free => ⟨heldSlots_slotDone free, ?_⟩, slotDone_co_feed, fun chain => ?_⟩⟩
  · rw [slotWhenDue, if_neg early]
    exact happened s
  · rw [slotWhenDue, if_pos due]
    exact happened _
  · subst chain
    refine ⟨?_, ?_, ?_⟩
    · rw [port_slotDone_held held]
      rfl
    · rw [slotDone_co_chain, slotHold_form, heldCounted_held held]
      rfl
    · rw [slotDone_held held]
      exact ⟨rfl, rfl, rfl⟩
  · refine ⟨fun e rest queue => ?_, fun empty still => ?_, fun gone e rest empty running queue managed good => ?_,
        fun gone e rest empty running managed1 queue managed2 good => ?_,
        fun empty running managed1 managed2 => ?_⟩
    · obtain ⟨port, log, work, ev⟩ := slotDone_sends free (slotChoice_urgent (c := slotPort (s.port p)) queue rfl)
      rw [if_neg (by simp [queue])] at ev
      rw [port, log, work, ev]
      exact ⟨⟨rfl, rfl, rfl⟩, rfl, rfl, rfl, rfl, rfl, rfl, rfl⟩
    · obtain ⟨port, log, work, ev⟩ := slotDone_sends free
        (slotChoice_null (c := slotPort (s.port p)) empty (mt (running_slotPort _).mp still))
      rw [if_neg (by simp [still])] at ev
      rw [port, log, work, ev]
      exact ⟨rfl, empty, rfl, rfl, rfl, rfl, rfl, rfl, rfl, rfl⟩
    · have after := port_dropsReported p 1 gone s p
      have sent := restamped_fst_congr (p := p) (time_dropsReported p 1 gone s) e
      obtain ⟨port, log, work, ev⟩ := slotDone_sends free (slotChoice_class1 (c := slotPort (s.port p)) empty
        ((running_slotPort _).mpr running) rfl queue managed good)
      rw [if_pos ⟨empty, running⟩] at ev
      rw [port, log, work, ev]
      exact ⟨⟨congrArg some sent, skipped_restamped_congr after e, rfl⟩, rfl, empty, rfl, rfl, rfl, rfl, rfl⟩
    · have time := (time_dropsReported p 2 gone _).trans (time_dropsReported p 1 (s.port p).q1 s)
      have after := (port_dropsReported p 2 gone _ p).trans (port_dropsReported p 1 (s.port p).q1 s p)
      have sent := restamped_fst_congr (p := p) time e
      obtain ⟨port, log, work, ev⟩ := slotDone_sends free (slotChoice_class2 (c := slotPort (s.port p)) empty
        ((running_slotPort _).mpr running) rfl managed1 queue managed2 good)
      rw [if_pos ⟨empty, running⟩] at ev
      rw [port, log, work, ev]
      exact ⟨⟨congrArg some sent, skipped_restamped_congr after e, rfl⟩, rfl, empty, rfl, rfl, rfl, rfl, rfl⟩
    · obtain ⟨port, log, work, ev⟩ := slotDone_sends free (slotChoice_exhausted (c := slotPort (s.port p)) empty
        ((running_slotPort _).mpr running) managed1 managed2)
      rw [if_pos ⟨empty, running⟩] at ev
      rw [port, log, work, ev]
      exact ⟨rfl, empty, rfl, rfl, rfl, rfl, rfl, rfl, rfl, rfl⟩
  · subst chain
    have co := slotDone_co_chain s
    refine ⟨?_, fun holding stays => ?_, fun begun now fallen => ?_, fun paused stays => ?_, fun idle now reached => ?_,
      fun idle below => ?_⟩
    · rw [co, slotHold_form]
      rfl
    · rw [co.trans (slotHold_counts (co := heldCounted s.co) holding stays)]
      exact ⟨rfl, rfl⟩
    · rw [co.trans (slotHold_ends (co := heldCounted s.co) begun now fallen)]
      exact ⟨rfl, rfl⟩
    · rw [co.trans (slotHold_paused (co := heldCounted s.co) paused stays)]
      exact ⟨paused, rfl⟩
    · rw [co.trans (slotHold_begins (co := heldCounted s.co) idle now reached)]
      exact ⟨rfl, rfl⟩
    · rw [co.trans (slotHold_idle (co := heldCounted s.co) idle below)]
      exact ⟨idle, rfl⟩

end Sys2Proof.Machine
end

section
/-! SUPPORT. The section monitors (Chapter 9): the masked CRC place by place (R157), what one monitor does with one packet by
its kind and its reference (R156, R158, R159), and the two requests that set it (R161, R162). -/

namespace Sys2Proof.Machine

/-! ### The masked CRC -/

/-- The offsets from a monitor's own, ascending, at which a payload byte goes into the CRC (R157). -/
def maskedPlaces (offset : Nat) (mask : BitVec 64) (p : Packet) : List Nat :=
  (List.range 64).filter (fun j => mask.getLsbD j && decide (offset + j < (payloadSpan p).2))

theorem maskedPlaces_ascending (offset : Nat) (mask : BitVec 64) (p : Packet) :
    (maskedPlaces offset mask p).Pairwise (· < ·) :=
  List.pairwise_lt_range.filter _

theorem mem_maskedPlaces {offset : Nat} {mask : BitVec 64} {p : Packet} {j : Nat} :
    j ∈ maskedPlaces offset mask p ↔ j < 64 ∧ mask.getLsbD j = true ∧ offset + j < (payloadSpan p).2 := by
  simp [maskedPlaces]

theorem maskedBytes_eq_map (offset : Nat) (mask : BitVec 64) (p : Packet) :
    maskedBytes offset mask p =
      (maskedPlaces offset mask p).map (fun j => byteAt p ((payloadSpan p).1 + (offset + j))) := rfl

/-- A step of the register by its bit 15, the most significant of 16. -/
theorem crcShift_eq (r : BitVec 16) :
    crcShift r = if r.getLsbD 15 then (r <<< 1) ^^^ 0x1021#16 else r <<< 1 := by
  rw [crcShift, BitVec.msb_eq_getLsbD_last]

/-- A byte goes in at the top and is shifted out by eight steps. -/
theorem crcByte_eq_foldl (r : BitVec 16) (b : Byte) :
    crcByte r b = (List.range 8).foldl (fun x _ => crcShift x) (r ^^^ (b.setWidth 16 <<< 8)) := rfl

/-! ### One monitor and one packet -/

@[simp] theorem setMonitor_monitor (s : State) (i : MonitorId) : s.setMonitor i (s.monitor i) = s := by
  simp [State.setMonitor, State.monitor]

theorem considers_iff {m : Monitor} {origin : Nat} {p : Packet} :
    m.considers origin p = true ↔
      m.enabled = true ∧ m.armed = true ∧ origin = m.origin ∧ pktId p = m.id ∧ pktError p = false ∧
        (pktStart p = true ∨ m.startOnly = false) ∧ m.offset < (payloadSpan p).2 := by
  simp [Monitor.considers, and_assoc]

theorem isHit_pattern {m : Monitor} {c : Nat} (h : m.kind = .pattern) : m.isHit c = true ↔ c = m.expected := by
  simp [Monitor.isHit, h]

theorem isHit_change {m : Monitor} {c : Nat} (h : m.kind = .change) :
    m.isHit c = true ↔ m.refValid = true ∧ c ≠ m.refCrc := by
  simp [Monitor.isHit, h]

theorem learn_pattern {m : Monitor} (c : Nat) (h : m.kind = .pattern) : m.learn c = m := by
  simp [Monitor.learn, h]

theorem learn_change {m : Monitor} (c : Nat) (h : m.kind = .change) :
    m.learn c = { m with refCrc := c, refValid := true } := by
  simp [Monitor.learn, h]

/-- A reference that is valid already is only replaced. -/
theorem learn_valid {m : Monitor} (c : Nat) (h : m.kind = .change) (valid : m.refValid = true) :
    m.learn c = { m with refCrc := c } := by
  rw [learn_change c h, ← valid]

theorem hit_eq (m : Monitor) (p : Packet) (now c : Nat) :
    m.hit p now c =
      { m with
        capture := some ⟨p, now, c⟩, hits := if m.hits < 65535 then m.hits + 1 else m.hits
        armed := if m.once then false else m.armed } := by
  cases once : m.once <;> simp [Monitor.hit, once]

section
variable {origin : Nat} {p : Packet} {s : State} {i : MonitorId}

theorem offerTo_ignored (h : ¬(s.monitor i).considers origin p = true) : offerTo origin p s i = s := if_neg h

/-- A considered packet that is no hit is learned (R158). -/
theorem offerTo_miss {c : Nat} (h : (s.monitor i).considers origin p = true) (crc : maskedCrc (s.monitor i) p = c)
    (miss : ¬(s.monitor i).isHit c = true) : offerTo origin p s i = s.setMonitor i ((s.monitor i).learn c) := by
  subst crc
  exact (if_pos h).trans (if_neg miss)

/-- A hit is captured and counted on the monitor that has learned the packet, and reported (R159). -/
theorem offerTo_hit {c : Nat} (h : (s.monitor i).considers origin p = true) (crc : maskedCrc (s.monitor i) p = c)
    (hit : (s.monitor i).isHit c = true) :
    offerTo origin p s i =
      (raise (35 + i.val) (s.setMonitor i (((s.monitor i).learn c).hit p s.time c))).addWork [.occ (.monitorHit i)] := by
  subst crc
  exact (if_pos h).trans (if_pos hit)

end

/-- Settles O20: the CRC by its places and its steps, a monitor by its kind, its reference and the packet's CRC. -/
theorem monitorTakesPacket : Obligations.MonitorTakesPacket := by
  refine ⟨fun m p => ?crc, fun _ _ _ => rfl, ?monitor⟩
  case crc =>
    refine ⟨maskedPlaces m.offset m.mask p, maskedPlaces_ascending _ _ _, fun j => mem_maskedPlaces, ?_⟩
    simp only [maskedCrc, crcBytes, maskedBytes_eq_map, ← crcShift_eq, ← crcByte_eq_foldl]
  case monitor =>
    intro origin p s i m c considered hitBy
    have taken : m.considers origin p = true ↔ considered := considers_iff
    refine ⟨fun no => offerTo_ignored (mt taken.mp no), fun yes kind same => ?_, fun yes kind other => ?_,
      fun yes kind fresh => ?_, fun yes kind valid same => ?_, fun yes kind valid other => ?_⟩
    · rw [offerTo_hit (taken.mpr yes) rfl ((isHit_pattern kind).mpr same), learn_pattern _ kind, hit_eq]
    · rw [offerTo_miss (taken.mpr yes) rfl (mt (isHit_pattern kind).mp other), learn_pattern _ kind, setMonitor_monitor]
    · have miss : ¬m.isHit c = true := fun hit => Bool.eq_false_iff.mp fresh ((isHit_change kind).mp hit).1
      rw [offerTo_miss (taken.mpr yes) rfl miss, learn_change _ kind]
    · have miss : ¬m.isHit m.refCrc = true := fun hit => ((isHit_change kind).mp hit).2 rfl
      rw [offerTo_miss (taken.mpr yes) same miss, learn_valid _ kind valid, setMonitor_monitor]
    · rw [offerTo_hit (taken.mpr yes) rfl ((isHit_change kind).mpr ⟨valid, other⟩), learn_valid _ kind valid, hit_eq]

/-! ### MONITOR SETUP and MONITOR ARM -/

theorem asMonitor_absent {n : Nat} (h : 7 < n) : asMonitor n = none := dif_neg (by omega)

theorem monitorKindOf_unknown {k : Nat} (h : 1 < k) : monitorKindOf k = none := by
  match k, h with
  | _ + 2, _ => rfl

theorem monitorKindOf_known {k : Nat} (h : k ≤ 1) : monitorKindOf k = some (if k = 0 then .pattern else .change) := by
  interval_cases k <;> rfl

theorem doMonitorArm_absent {n : Nat} (h : 7 < n) (s : State) : doMonitorArm n s = (s, .now (.refused .noObject)) := by
  simp [doMonitorArm, asMonitor_absent h]

theorem doMonitorArm_val (i : MonitorId) (s : State) :
    doMonitorArm i.val s = (s.setMonitor i { s.monitor i with armed := true }, .now (.done [])) := by
  simp [doMonitorArm, armMonitor]

theorem doMonitorSetup_absent {n : Nat} (h : 7 < n) (f : MonitorForm) (s : State) :
    doMonitorSetup n f s = (s, .now (.refused .noObject)) := by
  simp [doMonitorSetup, asMonitor_absent h]

/-- A value out of range refuses the request, whichever it is (R162). -/
theorem doMonitorSetup_badParam (i : MonitorId) {f : MonitorForm} (s : State)
    (bad : 4 < f.origin ∨ 8190 < f.id ∨ 1 < f.kind) : doMonitorSetup i.val f s = (s, .now (.refused .badParam)) := by
  rcases Nat.lt_or_ge 1 f.kind with unknown | known
  · simp [doMonitorSetup, monitorKindOf_unknown unknown]
  · have out : 4 < f.origin ∨ 8190 < f.id := by omega
    simp [doMonitorSetup, monitorKindOf_known known, out]

/-- A monitor after an accepted MONITOR SETUP (R162): settings as sent, the offset clamped to 183 and the reference cleared;
the capture and the count of hits stay. -/
def Monitor.afterSetup (m : Monitor) (f : MonitorForm) : Monitor :=
  { enabled := f.enabled, origin := f.origin, id := f.id, startOnly := f.startOnly
    offset := if 183 < f.offset then 183 else f.offset, mask := f.mask
    kind := if f.kind = 0 then .pattern else .change, expected := f.expected, once := f.once, armed := f.arm
    refCrc := 0, refValid := false, capture := m.capture, hits := m.hits }

theorem doMonitorSetup_accepted (i : MonitorId) {f : MonitorForm} (s : State) (origin : f.origin ≤ 4) (id : f.id ≤ 8190)
    (kind : f.kind ≤ 1) :
    doMonitorSetup i.val f s =
      (s.setMonitor i ((s.monitor i).afterSetup f), .now ⟨if 183 < f.offset then .clamped else .done, 0, []⟩) := by
  have inRange : ¬(4 < f.origin ∨ 8190 < f.id) := by omega
  have offset : min f.offset 183 = if 183 < f.offset then 183 else f.offset := by split <;> omega
  simp [doMonitorSetup, monitorKindOf_known kind, inRange, offset, Reply.clampedIf, Monitor.afterSetup]

/-- Settles O31: each request by the monitor it names, MONITOR SETUP by the ranges of its values. -/
theorem monitorRequests : Obligations.MonitorRequests := by
  refine ⟨fun tag n f s absent => ⟨?armAbsent, ?setupAbsent⟩, fun tag i f s => ⟨?arm, ?setup⟩⟩
  case armAbsent => exact request_answered rfl (doMonitorArm_absent absent s)
  case setupAbsent => exact request_answered rfl (doMonitorSetup_absent absent f s)
  case arm => exact request_answered rfl (doMonitorArm_val i s)
  case setup =>
    obtain ⟨t, ht, taken⟩ := request_taken (c := .monitorSetup ⟨tag, none⟩ i.val f) (s := s) rfl
    exact ⟨t, ht, fun bad => taken (doMonitorSetup_badParam i s bad),
      fun origin id kind => taken (doMonitorSetup_accepted i s origin id kind)⟩

end Sys2Proof.Machine
end

section
/-! SUPPORT. The requests that set, start and stop a timer (R170, R171, R173 to R175): TIMER SETUP by the steps of R173, TIMER
START by the mode of the timer. -/

namespace Sys2Proof.Machine

@[simp] theorem setTimer_timer (s : State) (i : TimerId) : s.setTimer i (s.timer i) = s := by
  simp [State.setTimer, State.timer]

/-! ### TIMER SETUP -/

theorem timerModeOf_unknown {n : Nat} (h : 3 < n) : timerModeOf n = none := by
  match n, h with
  | _ + 4, _ => rfl

@[simp] theorem timerModeOf_code (mode : TimerMode) : timerModeOf mode.code = some mode := by cases mode <;> rfl

/-- What a setting that passes step 2 of R173 meets at its timer: BUSY (step 3), a ring of COUNT timers (step 4), or it is
applied by the run state. -/
def takeTimerSetting (s : State) (i : TimerId) (st : TimerSetting) : State × Answer :=
  if (s.timer i).run ≠ .stopped ∧ { st with reload := (s.timer i).setting.reload } ≠ (s.timer i).setting then
    (s, .now (.refused .busy))
  else if closesRing s i st then (s, .now (.refused .conflict))
  else if (s.timer i).run = .stopped then
    (s.setTimer i { s.timer i with setting := st, counter := st.reload }, .now (.done []))
  else (s.setTimer i { s.timer i with setting := st }, .now (.done []))

theorem doTimerSetup_unknownMode (i : TimerId) {f : TimerForm} (s : State) (h : 3 < f.mode) :
    doTimerSetup i.val f s = (s, .now (.refused .badParam)) := by
  simp [doTimerSetup, timerModeOf_unknown h]

/-- A form of a known mode is judged by the fields its mode uses; then its setting is taken (R173). -/
theorem doTimerSetup_known (i : TimerId) {f : TimerForm} (s : State) {mode : TimerMode} (code : mode.code = f.mode) :
    doTimerSetup i.val f s = if timerFormOk i mode f = false then (s, .now (.refused .badParam))
      else takeTimerSetting s i (settingOf mode f) := by
  simp only [doTimerSetup, asTimer_val, ← code, timerModeOf_code, takeTimerSetting]

section
variable {s : State} {i : TimerId} {st : TimerSetting}

/-- Step 3: a timer that is not STOPPED takes another reload only. -/
theorem takeTimerSetting_busy (run : (s.timer i).run ≠ .stopped)
    (other : { st with reload := (s.timer i).setting.reload } ≠ (s.timer i).setting) :
    takeTimerSetting s i st = (s, .now (.refused .busy)) := if_pos ⟨run, other⟩

/-- Past step 3 the ring of COUNT timers decides, then the run state. -/
theorem takeTimerSetting_free
    (free : (s.timer i).run = .stopped ∨ { st with reload := (s.timer i).setting.reload } = (s.timer i).setting) :
    takeTimerSetting s i st = if closesRing s i st then (s, .now (.refused .conflict))
      else if (s.timer i).run = .stopped then
        (s.setTimer i { s.timer i with setting := st, counter := st.reload }, .now (.done []))
      else (s.setTimer i { s.timer i with setting := st }, .now (.done [])) :=
  if_neg (fun ⟨run, other⟩ => free.elim run other)

theorem takeTimerSetting_ring
    (free : (s.timer i).run = .stopped ∨ { st with reload := (s.timer i).setting.reload } = (s.timer i).setting)
    (ring : closesRing s i st = true) : takeTimerSetting s i st = (s, .now (.refused .conflict)) := by
  rw [takeTimerSetting_free free, if_pos ring]

theorem takeTimerSetting_stopped (noRing : closesRing s i st = false) (stopped : (s.timer i).run = .stopped) :
    takeTimerSetting s i st =
      (s.setTimer i { s.timer i with setting := st, counter := st.reload }, .now (.done [])) := by
  rw [takeTimerSetting_free (.inl stopped), if_neg (ne_true_of_eq_false noRing), if_pos stopped]

/-- A timer that is not STOPPED takes the reload; its counter runs on. -/
theorem takeTimerSetting_reload (noRing : closesRing s i st = false) (run : (s.timer i).run ≠ .stopped)
    (same : { st with reload := (s.timer i).setting.reload } = (s.timer i).setting) :
    takeTimerSetting s i st =
      (s.setTimer i { s.timer i with setting := { (s.timer i).setting with reload := st.reload } }, .now (.done [])) := by
  rw [takeTimerSetting_free (.inr same), if_neg (ne_true_of_eq_false noRing), if_neg run, ← same]

end

/-! ### TIMER START and TIMER STOP -/

theorem doTimerStart_val (i : TimerId) (s : State) : doTimerStart i.val s =
    (s.setTimer i ((s.timer i).started (spanCondition s (s.timer i).setting.source)), .now (.done [])) := by
  simp [doTimerStart]

theorem doTimerStop_val (i : TimerId) (s : State) : doTimerStop i.val s =
    (s.setTimer i { s.timer i with run := .stopped, pre := 0, measuring := false, due := false }, .now (.done [])) := by
  simp [doTimerStop, Timer.stopped]

section
variable {m : Timer} {cond : Bool}

/-- INTERVAL and COUNT start as the counter stands. -/
theorem started_resumes (mode : m.setting.mode = .interval ∨ m.setting.mode = .count) (stopped : m.run = .stopped) :
    m.started cond = { m with run := .running, pre := 0 } := by
  rcases mode with mode | mode <;> simp [Timer.started, mode, stopped]

/-- Only a ONESHOT starts again. -/
theorem started_unchanged (mode : m.setting.mode ≠ .oneshot) (run : m.run ≠ .stopped) : m.started cond = m := by
  cases h : m.setting.mode with
  | oneshot => exact absurd h mode
  | interval | count | span => simp [Timer.started, h, run]

theorem started_oneshot (mode : m.setting.mode = .oneshot) : m.started cond = { m with
    run := .running, counter := if m.setting.reload = 0 then 1 else m.setting.reload, pre := 0, due := false } := by
  simp [Timer.started, mode, Timer.restart]

theorem started_span (mode : m.setting.mode = .span) (stopped : m.run = .stopped) : m.started cond = { m with
    run := .running, pre := 0, measuring := cond, counter := if cond then 0 else m.counter } := by
  simp [Timer.started, mode, stopped]

end

/-- Settles O32: a setup by the steps of R173, a start by the mode of the timer. -/
theorem timerRequests : Obligations.TimerRequests := by
  refine ⟨fun tag i f s => ?setup, fun tag i s => ⟨?start, request_answered rfl (doTimerStop_val i s)⟩⟩
  case setup =>
    obtain ⟨t, ht, taken⟩ := request_taken (c := .timerSetup ⟨tag, none⟩ i.val f) (s := s) rfl
    refine ⟨t, ht, fun unknown => taken (doTimerSetup_unknownMode i s unknown), fun mode code => ?_⟩
    have judged := doTimerSetup_known i s code
    refine ⟨fun bad => taken (judged.trans (if_pos bad)), fun good => ?_⟩
    have accepted := judged.trans (if_neg (ne_false_of_eq_true good))
    exact ⟨fun run other => taken (accepted.trans (takeTimerSetting_busy run other)), fun free =>
      ⟨fun ring => taken (accepted.trans (takeTimerSetting_ring free ring)),
        fun noRing stopped => taken (accepted.trans (takeTimerSetting_stopped noRing stopped)),
        fun noRing run => taken (accepted.trans (takeTimerSetting_reload noRing run (free.resolve_left run)))⟩⟩
  case start =>
    obtain ⟨t, ht, answer⟩ := request_answered (c := .timerStart ⟨tag, none⟩ i.val) rfl (doTimerStart_val i s)
    refine ⟨_, t, ht, answer, fun mode stopped => ?_, fun mode run => ?_, fun mode => ?_, fun mode stopped holds => ?_,
      fun mode stopped fails => ?_⟩
    · rw [started_resumes mode stopped]
    · rw [started_unchanged mode run, setTimer_timer]
    · rw [started_oneshot mode]
    · rw [started_span mode stopped, holds, if_pos rfl]
    · rw [started_span mode stopped, fails, if_neg Bool.false_ne_true]

end Sys2Proof.Machine
end

section
/-! SUPPORT. What reaches a timer after the main effects of an event (R167, R169 to R172): an occurrence, the action of its
expiry, and a condition that moved. -/

namespace Sys2Proof.Machine

section
variable {src : Source} {i : TimerId} {s : State}

theorem expire_eq (i : TimerId) (s : State) :
    expire i s = (raise (43 + i.val) s).addWork [.act i, .occ (.timerExpiry i)] := rfl

/-! ### An occurrence at one timer -/

theorem occurAt_other (other : sourceOf (s.timer i).setting.source ≠ some src) : occurAt src s i = s := if_neg other

theorem occurAt_counts (named : sourceOf (s.timer i).setting.source = some src) (mode : (s.timer i).setting.mode = .count)
    (run : (s.timer i).run = .running) (more : 0 < (s.timer i).counter) :
    occurAt src s i = s.setTimer i { s.timer i with counter := (s.timer i).counter - 1 } := by
  simp [occurAt, named, mode, run, more]

theorem occurAt_expires (named : sourceOf (s.timer i).setting.source = some src) (mode : (s.timer i).setting.mode = .count)
    (run : (s.timer i).run = .running) (last : (s.timer i).counter = 0) :
    occurAt src s i = expire i (s.setTimer i { s.timer i with counter := (s.timer i).setting.reload }) := by
  simp [occurAt, named, mode, run, last]

/-- A ONESHOT that waits starts at its source, one that runs starts over (R170). -/
theorem occurAt_restarts (named : sourceOf (s.timer i).setting.source = some src)
    (mode : (s.timer i).setting.mode = .oneshot) (on : (s.timer i).run ≠ .stopped) :
    occurAt src s i = s.setTimer i (s.timer i).restart := by
  cases run : (s.timer i).run with
  | stopped => exact absurd run on
  | waiting | running => simp [occurAt, named, mode, run]

/-- A STOPPED timer takes no occurrence, and no mode but COUNT and ONESHOT takes one. -/
theorem occurAt_ignored (deaf : (s.timer i).run = .stopped ∨ (s.timer i).setting.mode = .interval ∨
    (s.timer i).setting.mode = .span) : occurAt src s i = s := by
  rcases deaf with run | mode | mode
  · cases mode : (s.timer i).setting.mode <;> simp [occurAt, mode, run]
  · simp [occurAt, mode]
  · simp [occurAt, mode]

/-! ### The action of an expired timer -/

theorem research_serving {l : LaneId} (serving : (s.lane l).state = .lock ∨ (s.lane l).state = .fade) :
    research l s = releaseToSearch l s := if_pos ((inLockOrFade_iff s l).mpr serving)

theorem research_ignored {l : LaneId} (lock : (s.lane l).state ≠ .lock) (fade : (s.lane l).state ≠ .fade) :
    research l s = s := if_neg (fun serving => ((inLockOrFade_iff s l).mp serving).elim lock fade)

theorem performAction_none (kind : (s.timer i).setting.action.kind = 0) : performAction i s = s := by
  simp [performAction, kind]

theorem performAction_research {l : LaneId} (kind : (s.timer i).setting.action.kind = 1)
    (index : (s.timer i).setting.action.index = l.val) : performAction i s = research l s := by
  simp [performAction, kind, index]

theorem performAction_arm {k : MonitorId} (kind : (s.timer i).setting.action.kind = 2)
    (index : (s.timer i).setting.action.index = k.val) :
    performAction i s = s.setMonitor k { s.monitor k with armed := true } := by
  simp [performAction, kind, index, armMonitor]

/-! ### A condition that moved, at one SPAN timer -/

/-- A SPAN timer whose condition has ended keeps the count as its last span, and as its longest if it is (R171). -/
def Timer.spanEnded (m : Timer) : Timer :=
  { m with measuring := false, lastSpan := m.counter, maxSpan := max m.maxSpan m.counter }

theorem followSpan_still (still : (s.timer i).run ≠ .running ∨ (s.timer i).setting.mode ≠ .span ∨
    spanCondition s (s.timer i).setting.source = (s.timer i).measuring) : followSpan s i = s := by
  rcases still with run | mode | same
  · simp [followSpan, run]
  · simp [followSpan, mode]
  · simp [followSpan, same]

theorem followSpan_begins (run : (s.timer i).run = .running) (mode : (s.timer i).setting.mode = .span)
    (holds : spanCondition s (s.timer i).setting.source = true) (fresh : (s.timer i).measuring = false) :
    followSpan s i = s.setTimer i { s.timer i with measuring := true, counter := 0, pre := 0 } := by
  simp [followSpan, run, mode, holds, fresh]

/-- A span that ends expires where its count has come to the reload. -/
theorem followSpan_ends (run : (s.timer i).run = .running) (mode : (s.timer i).setting.mode = .span)
    (fails : spanCondition s (s.timer i).setting.source = false) (measured : (s.timer i).measuring = true) :
    followSpan s i = if (s.timer i).setting.reload ≤ (s.timer i).counter
      then expire i (s.setTimer i (s.timer i).spanEnded) else s.setTimer i (s.timer i).spanEnded := by
  have longest : (if (s.timer i).maxSpan < (s.timer i).counter then (s.timer i).counter else (s.timer i).maxSpan) =
      max (s.timer i).maxSpan (s.timer i).counter := by split <;> omega
  simp [followSpan, run, mode, fails, measured, longest, Timer.spanEnded]

end

/-- Settles O34: an occurrence by the timer's mode and state, an action by its kind, a moved condition by its edge. -/
theorem occurrencesAndActions : Obligations.OccurrencesAndActions := by
  refine ⟨fun src i s => ⟨occurAt_other, fun named => ⟨occurAt_counts named, fun mode run last => ?expires,
    occurAt_restarts named, occurAt_ignored⟩⟩, fun src i s => ⟨rfl, rfl, rfl⟩,
    fun i s => ⟨performAction_none, fun l kind index => ⟨fun serving => ?serving, fun lock fade => ?ignored⟩,
      fun k => performAction_arm⟩,
    fun i s => ⟨followSpan_still, fun run mode => ⟨followSpan_begins run mode, fun fails measured short => ?short,
      fun fails measured long => ?long⟩⟩⟩
  case expires => exact (occurAt_expires named mode run last).trans (expire_eq i _)
  case serving => rw [performAction_research kind index, research_serving serving]
  case ignored => rw [performAction_research kind index, research_ignored lock fade]
  case short => exact (followSpan_ends run mode fails measured).trans (if_neg (Nat.not_le.mpr short))
  case long => exact ((followSpan_ends run mode fails measured).trans (if_pos long)).trans (expire_eq i _)

end Sys2Proof.Machine
end

section
/-! SUPPORT. Every request row as a header, a code and a judging (R186 to R190): `rowJudge` names each row's judging, and
`exec_row` ties it to the row; and O11. -/

namespace Sys2Proof.Machine

/-- The judging of a request row (R188 step 3). PART RESET, which is not judged (R196), and the events have none; they stand
here with a judging that does nothing. -/
def rowJudge : Instr → State → State × Answer
  | .ident _ => doIdent
  | .partSetup _ id notices => doPartSetup id notices
  | .laneSetup _ lane f => doLaneSetup lane f
  | .laneStart _ lane => doLaneStart lane
  | .laneStop _ lane => doLaneStop lane
  | .laneRead _ lane clear => doLaneRead lane clear
  | .profileRead _ lane => doProfileRead lane
  | .pair _ p => doPair p
  | .unpair _ p => doUnpair p
  | .poolSetup _ r0 r1 r2 r3 => doPoolSetup r0 r1 r2 r3
  | .poolRead _ start => doPoolRead start
  | .decoderSetup _ high low => doDecoderSetup high low
  | .decoderRead _ clear => doDecoderRead clear
  | .mapLoad _ g => doMapLoad g
  | .mapAbort _ => doMapAbort
  | .mapEditAdd _ e => doMapEditAdd e
  | .mapEditReplace _ e => doMapEditReplace e
  | .mapEditRemove _ e => doMapEditRemove e
  | .mapRead _ first count clear => doMapRead first count clear
  | .mapInvalidate _ granularity origin id m => doMapInvalidate granularity origin id m
  | .originSetup _ origin f => doOriginSetup origin f
  | .originRead _ => doOriginRead
  | .portSetup _ port interval high low limit => doPortSetup port interval high low limit
  | .portStop h port => doPortStop port h.tag
  | .portStart _ port => doPortStart port
  | .portFlush _ port => doPortFlush port
  | .portRead _ port clear => doPortRead port clear
  | .monitorSetup _ monitor f => doMonitorSetup monitor f
  | .monitorArm _ monitor => doMonitorArm monitor
  | .monitorRead _ monitor part clear => doMonitorRead monitor part clear
  | .timerSetup _ timer f => doTimerSetup timer f
  | .timerStart _ timer => doTimerStart timer
  | .timerStop _ timer => doTimerStop timer
  | .timerRead _ timer clear => doTimerRead timer clear
  | .eventEnable _ enables => doEventEnable enables
  | .eventRead _ => doEventRead
  | .eventClear _ named => doEventClear named
  | .faultRead _ => doFaultRead
  | .faultClear _ all places => doFaultClear all places
  | _ => fun s => (s, .later)

/-- A request row but PART RESET is taken with its header, code and judging (R188 to R190). -/
theorem exec_row {c : Instr} {h : ReqHdr} {code : Nat} {ps : List Byte} (form : wireForm c = some (h, code, ps))
    (judged : ∀ r, c ≠ .partReset r) (s : State) : exec c s = .next (takeRequest h code (rowJudge c) s) := by
  cases c with
  | partReset r => exact absurd rfl (judged r)
  | _ => cases form <;> rfl

theorem wireForm_withRelay (relay : Option Packet) (c : Instr) : wireForm (withRelay relay c) =
    (wireForm c).map (fun (h, code, ps) => ({ h with relay := relay }, code, ps)) := by cases c <;> rfl

theorem rowJudge_withRelay (relay : Option Packet) (c : Instr) : rowJudge (withRelay relay c) = rowJudge c := by
  cases c <;> rfl

theorem withRelay_ne_partReset {c : Instr} (judged : ∀ r, c ≠ .partReset r) (relay : Option Packet) (r : ReqHdr) :
    withRelay relay c ≠ .partReset r := by
  cases c with
  | partReset h => exact absurd rfl (judged h)
  | _ => exact Instr.noConfusion

/-- A request row but PART RESET with another packet to pass on. -/
theorem exec_withRelay {c : Instr} {h : ReqHdr} {code : Nat} {ps : List Byte} (form : wireForm c = some (h, code, ps))
    (judged : ∀ r, c ≠ .partReset r) (relay : Option Packet) (s : State) :
    exec (withRelay relay c) s = .next (takeRequest { h with relay := relay } code (rowJudge c) s) := by
  have relayed : wireForm (withRelay relay c) = some ({ h with relay := relay }, code, ps) := by
    rw [wireForm_withRelay, form]
    rfl
  rw [exec_row relayed (withRelay_ne_partReset judged relay), rowJudge_withRelay]

/-- What is judged after a packet has been passed on is judged on the state with that packet in CO class 0 (R187). -/
theorem takeRequest_relayed (h : ReqHdr) (code : Nat) (judge : State → State × Answer) (pkt : Packet) (s : State) :
    takeRequest { h with relay := some pkt } code judge s =
      takeRequest { h with relay := none } code judge (portArrive portCO 0 false false pkt s) := rfl

/-- Settles O11: a row is taken by its judging, whatever packet it passes on before. -/
theorem relayedPacketGoesFirst : Obligations.RelayedPacketGoesFirst := by
  intro c pkt s request judged
  obtain ⟨⟨h, code, ps⟩, form⟩ := Option.isSome_iff_exists.mp request
  rw [exec_withRelay form judged, exec_withRelay form judged, takeRequest_relayed]

end Sys2Proof.Machine
end

section
/-! SUPPORT. Parameters written and read back (R178, R183, 11.5): each reader of Machine/Wire.lean undoes its writer. -/

namespace Sys2Proof.Machine

/-! ### Places in a list of bytes -/

section
variable {front : List Byte} (rest : List Byte) {i k : Nat}

/-- A place past the front is read in what follows it. -/
@[simp] theorem byteAt_past (past : front.length ≤ i) : byteAt (front ++ rest) i = byteAt rest (i - front.length) := by
  simp [byteAt, List.getD_eq_getElem?_getD, List.getElem?_append_right past]

/-- A place in the front is read there. -/
@[simp] theorem byteAt_within (within : i < front.length) : byteAt (front ++ rest) i = byteAt front i := by
  simp [byteAt, List.getD_eq_getElem?_getD, List.getElem?_append_left within]

theorem bytesAt_past (past : front.length ≤ i) : bytesAt (front ++ rest) i k = bytesAt rest (i - front.length) k := by
  rw [bytesAt, bytesAt, List.drop_append, List.drop_eq_nil_of_le past, List.nil_append]

theorem bytesAt_within (within : i + k ≤ front.length) : bytesAt (front ++ rest) i k = bytesAt front i k := by
  rw [bytesAt, bytesAt, List.drop_append_of_le_length (by omega),
    List.take_append_of_le_length (by rw [List.length_drop]; omega)]

end

/-- All the bytes from the first on. -/
theorem bytesAt_all {bs : List Byte} {k : Nat} (all : bs.length = k) : bytesAt bs 0 k = bs := by simp [bytesAt, ← all]

/-! ### Numbers, yes-no parameters and flag sets (R178) -/

@[simp] theorem num1_b1 {n : Nat} (fits : fits8 n = true) : num1 (b1 n) 0 = n := by
  simp only [fits8, decide_eq_true_eq] at fits
  simpa [num1, b1, beBytes, byteAt] using fits

@[simp] theorem num2_b2 {n : Nat} (fits : fits16 n = true) : num2 (b2 n) 0 = n := by
  simp only [fits16, decide_eq_true_eq] at fits
  rw [num2, bytesAt_all (b2_length n), b2, beNat_beBytes]
  exact Nat.mod_eq_of_lt fits

@[simp] theorem flag1_bBool (b : Bool) : flag1 (bBool b) 0 = b := by cases b <;> rfl

theorem leNat_flagBytes (k n : Nat) : leNat (flagBytes k n) = n % 256 ^ k := by
  induction k generalizing n with
  | zero => simp [flagBytes, leNat, Nat.mod_one]
  | succ k ih => exact (congrArg (n % 256 + 256 * ·) (ih (n / 256))).trans (by rw [Nat.pow_succ', Nat.mod_mul])

/-- A flag set of no more bits than its bytes have. -/
@[simp] theorem flagSet_flagBytes {w k : Nat} (x : BitVec w) (fits : w ≤ 8 * k) :
    BitVec.ofNat w (flagSet (flagBytes k x.toNat) 0 k) = x := by
  have room : x.toNat < 256 ^ k := x.isLt.trans_le (by
    rw [show 256 = 2 ^ 8 from rfl, ← Nat.pow_mul]
    exact Nat.pow_le_pow_right (by decide) fits)
  rw [flagSet, bytesAt_all (flagBytes_length k _), leNat_flagBytes, Nat.mod_eq_of_lt room, BitVec.ofNat_toNat,
    BitVec.setWidth_eq]

section
variable {front : List Byte} (rest : List Byte) {i k : Nat}

@[simp] theorem num1_past (past : front.length ≤ i) : num1 (front ++ rest) i = num1 rest (i - front.length) := by
  rw [num1, num1, byteAt_past rest past]
@[simp] theorem num1_within (within : i < front.length) : num1 (front ++ rest) i = num1 front i := by
  rw [num1, num1, byteAt_within rest within]
@[simp] theorem num2_past (past : front.length ≤ i) : num2 (front ++ rest) i = num2 rest (i - front.length) := by
  rw [num2, num2, bytesAt_past rest past]
@[simp] theorem num2_within (within : i + 2 ≤ front.length) : num2 (front ++ rest) i = num2 front i := by
  rw [num2, num2, bytesAt_within rest within]
@[simp] theorem flag1_past (past : front.length ≤ i) : flag1 (front ++ rest) i = flag1 rest (i - front.length) := by
  rw [flag1, flag1, byteAt_past rest past]
@[simp] theorem flag1_within (within : i < front.length) : flag1 (front ++ rest) i = flag1 front i := by
  rw [flag1, flag1, byteAt_within rest within]
@[simp] theorem flagSet_past (past : front.length ≤ i) : flagSet (front ++ rest) i k = flagSet rest (i - front.length) k := by
  rw [flagSet, flagSet, bytesAt_past rest past]
@[simp] theorem flagSet_within (within : i + k ≤ front.length) : flagSet (front ++ rest) i k = flagSet front i k := by
  rw [flagSet, flagSet, bytesAt_within rest within]

end

/-! ### Records -/

/-- A 4-bit set in a byte of its own. -/
@[simp] theorem num1_flagByte (x : BitVec 4) : BitVec.ofNat 4 (num1 (flagBytes 1 x.toNat) 0) = x := by
  have same : num1 (flagBytes 1 x.toNat) 0 = flagSet (flagBytes 1 x.toNat) 0 1 := by
    simp [num1, flagSet, flagBytes, byteAt, bytesAt, leNat]
  rw [same, flagSet_flagBytes x (by decide)]

theorem readSetup_wireSetup {f : SetupForm} (fits : f.wf = true) (lane : Nat) :
    readSetup (b1 lane ++ wireSetup f) = f := by
  simp only [SetupForm.wf, List.all_cons, List.all_nil, Bool.and_eq_true, and_true] at fits
  obtain ⟨⟨h1, h2, h3, h4, h5, h6, h7, h8, h9, h10, h11⟩, h12, h13, h14, h15, h16⟩ := fits
  simp [readSetup, wireSetup, *]

theorem readOrigin_wireOrigin {f : OriginForm} (fits : f.wf = true) (origin : Nat) :
    readOrigin (b1 origin ++ wireOrigin f) = f := by
  simp only [OriginForm.wf, Bool.and_eq_true] at fits
  obtain ⟨mode, cls⟩ := fits
  have dests : byteAt [f.dests] 0 = f.dests := rfl
  simp [-List.append_assoc, readOrigin, wireOrigin, *]

theorem readMonitor_wireMonitor {f : MonitorForm} (fits : f.wf = true) (monitor : Nat) :
    readMonitor (b1 monitor ++ wireMonitor f) = f := by
  simp only [MonitorForm.wf, Bool.and_eq_true] at fits
  obtain ⟨⟨⟨⟨h1, h2⟩, h3⟩, h4⟩, h5⟩ := fits
  simp [readMonitor, wireMonitor, *]

theorem readTimer_wireTimer {f : TimerForm} (fits : f.wf = true) (timer : Nat) :
    readTimer (b1 timer ++ wireTimer f) = f := by
  simp only [TimerForm.wf, KindIndex.wf, Bool.and_eq_true] at fits
  obtain ⟨⟨⟨⟨⟨h1, h2⟩, h3⟩, h4, h5⟩, h6, h7⟩, h8, h9⟩ := fits
  simp [readTimer, readPair, wireTimer, wirePair, *]

/-! ### Map entries (R183) -/

theorem readEntry_past {front : List Byte} (rest : List Byte) {i : Nat} (past : front.length ≤ i) :
    readEntry (front ++ rest) i = readEntry rest (i - front.length) := by
  have place (k : Nat) : i + k - front.length = i - front.length + k := Nat.sub_add_comm past
  have further (k : Nat) : front.length ≤ i + k := Nat.le_add_right_of_le past
  simp only [readEntry, num1_past rest past, num1_past rest (further _), num2_past rest (further _),
    byteAt_past rest (further _), place]

/-- The byte of an entry's action, class and restamp flag. -/
theorem flagsByte_read {action cls : Nat} (restamp : Bool) (ha : action < 4) (hc : cls < 4) :
    let n := num1 (b1 (action + 4 * cls + (if restamp then 16 else 0))) 0
    n % 4 = action ∧ n / 4 % 4 = cls ∧
      (byteAt (b1 (action + 4 * cls + (if restamp then 16 else 0))) 0).getLsbD 4 = restamp := by
  interval_cases action <;> interval_cases cls <;> cases restamp <;> decide

theorem readEntry_wireEntry {e : EntryForm} (fits : e.wf = true) (rest : List Byte) :
    readEntry (wireEntry e ++ rest) 0 = e := by
  simp only [EntryForm.wf, Bool.and_eq_true, decide_eq_true_eq] at fits
  obtain ⟨⟨⟨⟨origin, inId⟩, action⟩, cls⟩, outId⟩ := fits
  obtain ⟨action', cls', restamp'⟩ := flagsByte_read e.restamp action cls
  have dests : byteAt [e.dests] 0 = e.dests := rfl
  simp [-List.append_assoc, -BitVec.getLsbD_eq_getElem, readEntry, wireEntry, *]

theorem readEntry_flatMap {entries : List EntryForm} (fits : entries.all EntryForm.wf = true) :
    (List.range entries.length).map (fun i => readEntry (entries.flatMap wireEntry) (8 * i)) = entries := by
  induction entries with
  | nil => rfl
  | cons e entries ih =>
    rw [List.all_cons, Bool.and_eq_true] at fits
    obtain ⟨first, others⟩ := fits
    have next (i : Nat) : readEntry (wireEntry e ++ entries.flatMap wireEntry) (8 * (i + 1)) =
        readEntry (entries.flatMap wireEntry) (8 * i) := by
      rw [readEntry_past _ (by rw [wireEntry_length]; omega), wireEntry_length, Nat.mul_succ, Nat.add_sub_cancel]
    rw [List.length_cons, List.range_succ_eq_map, List.map_cons, List.map_map, List.flatMap_cons, Nat.mul_zero,
      readEntry_wireEntry first]
    simpa [Function.comp_def, next] using ih others

/-- The count of a segment as its seventh byte gives it. -/
theorem num1_wireSegment {g : SegmentForm} (fits : g.wf = true) : num1 (wireSegment g) 6 = g.count := by
  simp only [SegmentForm.wf, Bool.and_eq_true] at fits
  obtain ⟨⟨⟨⟨tag, total⟩, offset⟩, count⟩, entries⟩ := fits
  simp [wireSegment, count]

/-- The byte of a segment's first and last flags. -/
theorem segmentFlags_read (first last : Bool) :
    let b := byteAt (b1 ((if first then 1 else 0) + (if last then 2 else 0))) 0
    b.getLsbD 0 = first ∧ b.getLsbD 1 = last := by
  cases first <;> cases last <;> decide

/-- A segment of as many entries as its count says. -/
theorem readSegment_wireSegment {g : SegmentForm} (fits : g.wf = true) (whole : g.entries.length = g.count) :
    readSegment (wireSegment g) = g := by
  have seventh := num1_wireSegment fits
  simp only [SegmentForm.wf, Bool.and_eq_true] at fits
  obtain ⟨⟨⟨⟨tag, total⟩, offset⟩, count⟩, entries⟩ := fits
  obtain ⟨first, last⟩ := segmentFlags_read g.first g.last
  have list : (List.range g.count).map (fun i => readEntry (wireSegment g) (7 + 8 * i)) = g.entries := by
    rw [← whole]
    refine Eq.trans (List.map_congr_left (fun i _ => ?_)) (readEntry_flatMap entries)
    rw [wireSegment, readEntry_past _ (by simp)]
    simp
  rw [readSegment, seventh, list]
  simp [-BitVec.getLsbD_eq_getElem, wireSegment, *]

/-- The entry of a MAP EDIT stands behind its operation (11.5). -/
theorem readEntry_operation {e : EntryForm} (fits : e.wf = true) (operation : Nat) :
    readEntry (b1 operation ++ wireEntry e) 1 = e := by
  rw [readEntry_past _ (by simp), ← List.append_nil (wireEntry e)]
  exact readEntry_wireEntry fits []

end Sys2Proof.Machine
end

section
/-! SUPPORT. A request packet on the chain (R181, R186, R188): what the chain management unit reads of it, that its code and
parameters are judged as its row is; and O10. -/

namespace Sys2Proof.Laws.RowCode

/-- Every command's parameters have the length that its code asks for (R188 step 2). -/
theorem parameters_length (c : Instr) : Statement c :=
  match c with
  | .powerUpReset straps => powerUpReset straps
  | .linkDown lane => linkDown lane
  | .linkUp lane => linkUp lane
  | .sampleArrival lane i q rx => sampleArrival lane i q rx
  | .holdoffExpiry lane => holdoffExpiry lane
  | .decodeCompletion result => decodeCompletion result
  | .slotEvent port => slotEvent port
  | .coHoldAssert => coHoldAssert
  | .coHoldRelease => coHoldRelease
  | .ciUnitArrival unit => ciUnitArrival unit
  | .timerExpiry timer => timerExpiry timer
  | .ident h => ident h
  | .partSetup h id notices => partSetup h id notices
  | .partReset h => partReset h
  | .laneSetup h lane f => laneSetup h lane f
  | .laneStart h lane => laneStart h lane
  | .laneStop h lane => laneStop h lane
  | .laneRead h lane clear => laneRead h lane clear
  | .profileRead h lane => profileRead h lane
  | .pair h p => pair h p
  | .unpair h p => unpair h p
  | .poolSetup h r0 r1 r2 r3 => poolSetup h r0 r1 r2 r3
  | .poolRead h start => poolRead h start
  | .decoderSetup h high low => decoderSetup h high low
  | .decoderRead h clear => decoderRead h clear
  | .mapLoad h g => mapLoad h g
  | .mapAbort h => mapAbort h
  | .mapEditAdd h e => mapEditAdd h e
  | .mapEditReplace h e => mapEditReplace h e
  | .mapEditRemove h e => mapEditRemove h e
  | .mapRead h first count clear => mapRead h first count clear
  | .mapInvalidate h granularity origin id m => mapInvalidate h granularity origin id m
  | .originSetup h origin f => originSetup h origin f
  | .originRead h => originRead h
  | .portSetup h port interval high low limit => portSetup h port interval high low limit
  | .portStop h port => portStop h port
  | .portStart h port => portStart h port
  | .portFlush h port => portFlush h port
  | .portRead h port clear => portRead h port clear
  | .monitorSetup h monitor f => monitorSetup h monitor f
  | .monitorArm h monitor => monitorArm h monitor
  | .monitorRead h monitor part clear => monitorRead h monitor part clear
  | .timerSetup h timer f => timerSetup h timer f
  | .timerStart h timer => timerStart h timer
  | .timerStop h timer => timerStop h timer
  | .timerRead h timer clear => timerRead h timer clear
  | .eventEnable h enables => eventEnable h enables
  | .eventRead h => eventRead h
  | .eventClear h named => eventClear h named
  | .faultRead h => faultRead h
  | .faultClear h all places => faultClear h all places
  | .tick straps => tick straps

end Sys2Proof.Laws.RowCode

namespace Sys2Proof.Machine

/-! ### A request packet read (R179, R181) -/

section
variable (id addr tag code : Nat) (ps : List Byte)

/-- The twelve bytes before a request's parameters. -/
def requestHead : List Byte :=
  [0x47#8, BitVec.ofNat 8 (64 + id / 256 % 32), BitVec.ofNat 8 id, 0x10#8] ++
    (b1 1 ++ b1 addr ++ b1 tag ++ b1 code ++ b1 0 ++ b1 0 ++ b2 ps.length)

theorem requestPacket_eq : requestPacket id addr tag code ps =
    requestHead id addr tag code ps ++ (ps ++ List.replicate (176 - ps.length) 0xFF#8) :=
  List.append_assoc _ ps _

@[simp] theorem requestHead_length : (requestHead id addr tag code ps).length = 12 := rfl

theorem sync_requestPacket : byteAt (requestPacket id addr tag code ps) 0 = 0x47#8 := rfl
theorem mgmtKind_requestPacket : mgmtKind (requestPacket id addr tag code ps) = 1 := num1_b1 (n := 1) rfl

theorem pktAdapt_requestPacket : pktAdapt (requestPacket id addr tag code ps) = 1 := by
  have control : byteAt (requestPacket id addr tag code ps) 3 = 0x10#8 := rfl
  rw [pktAdapt, control]
  rfl

theorem pktError_requestPacket : pktError (requestPacket id addr tag code ps) = false := by
  have high : byteAt (requestPacket id addr tag code ps) 1 = BitVec.ofNat 8 (64 + id / 256 % 32) := rfl
  rw [pktError, high, BitVec.getLsbD, BitVec.toNat_ofNat]
  exact Nat.testBit_lt_two_pow (by omega)

variable {id addr tag code ps}

theorem pktId_requestPacket (fits : id < 8192) : pktId (requestPacket id addr tag code ps) = id := by
  have high : byteAt (requestPacket id addr tag code ps) 1 = BitVec.ofNat 8 (64 + id / 256 % 32) := rfl
  have low : byteAt (requestPacket id addr tag code ps) 2 = BitVec.ofNat 8 id := rfl
  rw [pktId, high, low, BitVec.toNat_ofNat, BitVec.toNat_ofNat]
  omega

theorem mgmtAddr_requestPacket (fits : fits8 addr = true) : mgmtAddr (requestPacket id addr tag code ps) = addr :=
  num1_b1 fits
theorem mgmtTag_requestPacket (fits : fits8 tag = true) : mgmtTag (requestPacket id addr tag code ps) = tag :=
  num1_b1 fits
theorem mgmtCode_requestPacket (fits : fits8 code = true) : mgmtCode (requestPacket id addr tag code ps) = code :=
  num1_b1 fits

theorem mgmtLen_requestPacket (short : ps.length ≤ 176) : mgmtLen (requestPacket id addr tag code ps) = ps.length :=
  num2_b2 (n := ps.length) (decide_eq_true (by omega))

theorem mgmtParams_requestPacket (short : ps.length ≤ 176) : mgmtParams (requestPacket id addr tag code ps) = ps := by
  rw [mgmtParams, mgmtLen_requestPacket short, requestPacket_eq, bytesAt_past _ (by simp), requestHead_length,
    bytesAt_within _ (by simp), bytesAt_all rfl]

end

/-! ### Its code and parameters judged (R188, 11.5) -/

/-- A segment whose count is not the number of its entries has a wrong length, and fails the same way (R131, R133). -/
theorem judgeMapLoad_wireSegment {g : SegmentForm} (fits : g.wf = true) (s : State) :
    judgeMapLoad (wireSegment g).length (wireSegment g) s = doMapLoad g s := by
  unfold judgeMapLoad
  rw [num1_wireSegment fits, wireSegment_length]
  split
  next right => rw [readSegment_wireSegment fits (by omega)]
  next wrong => exact (doMapLoad_badLength s (.inr (by omega))).symm

section
variable {c : Instr} {h : ReqHdr} {code : Nat} {ps : List Byte} (form : wireForm c = some (h, code, ps)) (fits : c.wf = true)
include form fits

/-- The parameters of a row are read back as its operands, whatever their code's rule makes of them (11.5). -/
theorem judgeParams_row (judged : ∀ r, c ≠ .partReset r) (other : code ≠ 0x20) (s : State) :
    judgeParams h.tag code ps s = rowJudge c s := by
  cases c with
  | partReset r => exact absurd rfl (judged r)
  | mapLoad r g => cases form; exact absurd rfl other
  | ident _ | mapAbort _ | originRead _ | eventRead _ | faultRead _ => cases form; rfl
  | decoderRead _ clear => cases form; simp [judgeParams, rowJudge]
  | laneStart _ n | laneStop _ n | profileRead _ n | pair _ n | unpair _ n | poolRead _ n | portStop _ n | portStart _ n
  | portFlush _ n | monitorArm _ n | timerStart _ n | timerStop _ n | laneRead _ n _ | portRead _ n _ | timerRead _ n _
  | partSetup _ n _ | decoderSetup _ m n | mapRead _ m n _ | monitorRead _ m n _ | poolSetup _ a b m n
  | mapInvalidate _ a b m n | portSetup _ a b l m n =>
    cases form
    simp only [Instr.wf, Bool.and_eq_true, List.all_cons] at fits
    simp [judgeParams, rowJudge, fits]
  | mapEditAdd _ e | mapEditReplace _ e | mapEditRemove _ e =>
    cases form
    simp only [Instr.wf, Bool.and_eq_true] at fits
    have operation {n : Nat} (small : n < 3) : num1 (b1 n) 0 = n := num1_b1 (decide_eq_true (by omega))
    simp [judgeParams, judgeMapEdit, rowJudge, readEntry_operation fits.2, operation]
  | laneSetup _ n f | originSetup _ n f | monitorSetup _ n f | timerSetup _ n f =>
    cases form
    simp only [Instr.wf, Bool.and_eq_true] at fits
    simp [judgeParams, rowJudge, readSetup_wireSetup, readOrigin_wireOrigin, readMonitor_wireMonitor, readTimer_wireTimer,
      fits]
  | eventEnable _ x | eventClear _ x => cases form; simp [judgeParams, rowJudge]
  | faultClear _ all places =>
    cases form
    have second : byteAt [places] 0 = places := rfl
    simp [judgeParams, rowJudge, second]
  | _ => cases form

/-- The chain management unit judges the bytes of a row as the row is judged (R188, 11.5). -/
theorem judgeRequest_row (judged : ∀ r, c ≠ .partReset r) (s : State) :
    judgeRequest h.tag code ps.length ps s = rowJudge c s := by
  by_cases load : code = 0x20
  · cases c with
    | mapLoad _ g =>
      cases form
      simp only [Instr.wf, Bool.and_eq_true] at fits
      exact judgeMapLoad_wireSegment fits.2 s
    | _ => cases form <;> cases load
  · rw [judgeRequest, if_neg load, (Laws.RowCode.parameters_length c h code ps form).1 load]
    exact (if_pos rfl).trans (judgeParams_row form fits judged load s)

theorem header_wf : h.wf = true := by
  cases c with
  | _ => cases form <;> simp only [Instr.wf, Bool.and_eq_true] at fits <;> simp only [fits]

omit fits in
theorem fits8_code : fits8 code = true := by
  cases c with
  | _ => cases form <;> rfl

omit fits in
/-- Only PART RESET has the code 03h (11.5). -/
theorem partReset_of_code (reset : code = 0x03) : ∃ r, c = .partReset r := by
  cases c with
  | partReset r => exact ⟨r, rfl⟩
  | _ => cases form <;> cases reset

/-- A request taken from its packet, with the packet to pass on that the row names (R188, R190, R196). -/
theorem exec_row_taken (short : ps.length ≤ 176) (id addr : Nat) (s : State) :
    exec c s = .next (afterEvent (takeWireRequest h.relay (requestPacket id addr h.tag code ps) s)) := by
  obtain ⟨tag, relay⟩ := h
  have header := header_wf form fits
  simp only [ReqHdr.wf, Bool.and_eq_true] at header
  have htag := mgmtTag_requestPacket (id := id) (addr := addr) (code := code) (ps := ps) header.1
  have hcode := mgmtCode_requestPacket (id := id) (addr := addr) (tag := tag) (ps := ps) (fits8_code form)
  have hlen := mgmtLen_requestPacket (id := id) (addr := addr) (tag := tag) (code := code) short
  have hps := mgmtParams_requestPacket (id := id) (addr := addr) (tag := tag) (code := code) short
  by_cases judged : ∀ r, c ≠ .partReset r
  · have answers : ¬(code = 0x03 ∧ ps.length = 0) := fun reset =>
      (partReset_of_code form reset.1).elim judged
    rw [exec_row form judged, takeRequest, takeWireRequest, htag, hcode, hlen, hps, if_neg answers, answerRequest,
      answerRequest, judgeRequest_row form fits judged]
  · obtain ⟨r, reset⟩ := not_forall_not.mp judged
    subst reset
    cases form
    rw [takeWireRequest, htag, hcode, hlen]
    rfl

end

/-! ### A request packet at a CI that is UP (R151, R152) -/

/-- The state once a good unit has been framed: run count 0, a PAUSED hold renewed. -/
def unitFramed (s : State) : State :=
  { s with ci := ⟨true, 0⟩, co := if s.co.hold = .paused then { s.co with hold := .holding, holdCount := 0 } else s.co }

theorem renewHold_framed (s : State) : { renewHold s with ci := ⟨true, 0⟩ } = unitFramed s := by
  unfold renewHold unitFramed
  split <;> rfl

theorem ciUnitArrival_up {u : Packet} {s : State} (up : s.ci.up = true) (good : byteAt u 0 = 0x47#8)
    (managed : pktId u = s.mgmt.id) : exec (.ciUnitArrival u) s = .next (afterEvent (mgmtArrival u (unitFramed s))) := by
  have still_up : (renewHold s).ci.up = true := by rwa [renewHold_ci]
  change Host.Outcome.next (afterEvent (frameUnit u (renewHold s))) = _
  rw [frameUnit_up_good still_up good, renewHold_framed, handUnit_management (s := unitFramed s) managed]

/-- A request packet is taken if it is addressed to the part or to all parts (R186). -/
theorem requestPacket_taken {addr tag code : Nat} {ps : List Byte} {s : State} (up : s.ci.up = true) (id : s.mgmt.id < 8192)
    (fits : fits8 addr = true) (addressed : addr = 31 ∨ addr = s.mgmt.addr) :
    exec (.ciUnitArrival (requestPacket s.mgmt.id addr tag code ps)) s =
      .next (afterEvent (takeWireRequest (if addr = 31 then some (requestPacket s.mgmt.id addr tag code ps) else none)
        (requestPacket s.mgmt.id addr tag code ps) (unitFramed s))) := by
  have haddr := mgmtAddr_requestPacket (id := s.mgmt.id) (tag := tag) (code := code) (ps := ps) fits
  rw [ciUnitArrival_up up (sync_requestPacket _ _ _ _ _) (pktId_requestPacket id),
    mgmtArrival_takes (pktError_requestPacket _ _ _ _ _) (pktAdapt_requestPacket _ _ _ _ _)
      (mgmtKind_requestPacket _ _ _ _ _) (by rwa [haddr]), relayOf, haddr]

/-- Settles O10: the packet is taken on the state its unit was framed to, with its row's header, code and parameters. -/
theorem requestPacketActsAsItsRow : Obligations.RequestPacketActsAsItsRow := by
  intro c h code ps s fits form short up id b
  have row (addr : Nat) := exec_row_taken form fits short s.mgmt.id addr b
  refine ⟨fun own relay => ?_, fun relay => ?_⟩
  · rw [requestPacket_taken up id (decide_eq_true (by omega)) (.inr rfl), row s.mgmt.addr, relay, if_neg (by omega)]
    rfl
  · rw [requestPacket_taken up id rfl (.inl rfl), row 31, relay]
    rfl

end Sys2Proof.Machine
end

section
/-! SUPPORT. The fault log's report and clear (R203, R204), the event requests (R199, R201, R202) and PART SETUP (R195); O36
and O37. -/

namespace Sys2Proof.Machine

/-! ### A report, and FAULT CLEAR (R203, R204) -/

/-- A record with one more report counted at a time (R203, Collapse). -/
def FaultRecord.again (r : FaultRecord) (now : Nat) : FaultRecord :=
  { r with count := if r.count < 255 then r.count + 1 else r.count, last := now }

/-- A collapse counts in the first record of its source and reason. -/
theorem collapse_recorded {source reason : Nat} {records : List FaultRecord} (h : Recorded source reason records) (now : Nat) :
    ∃ before r after, records = before ++ r :: after ∧ r.source = source ∧ r.reason = reason ∧
      (∀ x ∈ before, ¬(x.source = source ∧ x.reason = reason)) ∧
      collapse source reason now records = before ++ r.again now :: after := by
  induction records with
  | nil => obtain ⟨r, none_held, -⟩ := h; cases none_held
  | cons r records ih =>
    by_cases same : r.source = source ∧ r.reason = reason
    · exact ⟨[], r, records, rfl, same.1, same.2, fun _ none_held => (List.not_mem_nil none_held).elim, if_pos same⟩
    · have later : Recorded source reason records := by
        obtain ⟨x, held, its⟩ := h
        exact ⟨x, (List.mem_cons.mp held).resolve_left (fun first => same (first ▸ its)), its⟩
      obtain ⟨before, x, after, split, hs, hr, apart, counted⟩ := ih later
      refine ⟨r :: before, x, after, by rw [split]; rfl, hs, hr, List.forall_mem_cons.mpr ⟨same, apart⟩, ?_⟩
      rw [collapse, if_neg same, counted]
      rfl

/-- The records that stay are those whose places are not named (R204). -/
theorem keepRecords_eq (all : Bool) (places : BitVec 8) (k : Nat) (records : List FaultRecord) :
    keepRecords all places k records =
      ((records.zipIdx k).filter (fun x => !(all || places.getLsbD x.2))).map (·.1) := by
  induction records generalizing k with
  | nil => rfl
  | cons r records ih =>
    rw [keepRecords, List.zipIdx_cons, List.filter_cons, ih]
    cases all || places.getLsbD k <;> rfl

theorem not_recorded {source reason : Nat} {records : List FaultRecord}
    (new : ∀ r ∈ records, ¬(r.source = source ∧ r.reason = reason)) : ¬Recorded source reason records :=
  fun ⟨r, held, its⟩ => new r held its

/-- Settles O37: a report by the record it finds and the room in the log; the records kept by their places. -/
theorem faultLogResult : Obligations.FaultLogResult := by
  refine ⟨fun source info reason s => ⟨fun known => ?_, fun new room => report_new info (not_recorded new) room,
    fun new full => report_full info (not_recorded new) (not_lt.mpr full)⟩, fun tag all places s => ?clear⟩
  · obtain ⟨before, r, after, split, hs, hr, apart, counted⟩ := collapse_recorded known s.time
    exact ⟨before, r, after, split, hs, hr, apart, by rw [report_recorded info known, counted]; rfl⟩
  case clear =>
    rw [← keepRecords_eq all places 0 s.log.records]
    exact request_answered rfl rfl

/-! ### EVENT ENABLE and EVENT CLEAR (R199, R201, R202) -/

theorem conditionEvents_bit {n : Nat} (h : n < 51) : conditionEvents.getLsbD n =
    (decide (n = 1) || decide (22 ≤ n ∧ n ≤ 25) || decide (n = 28) || decide (n = 31)) := by
  revert n
  decide

/-- What an EVENT CLEAR leaves of a set of events: all but the named latched ones (R202). -/
theorem getLsbD_cleared (x named : BitVec 51) {n : Nat} (h : n < 51) :
    (x &&& ~~~(named &&& ~~~conditionEvents)).getLsbD n = (x.getLsbD n && !(named.getLsbD n &&
      !(decide (n = 1) || decide (22 ≤ n ∧ n ≤ 25) || decide (n = 28) || decide (n = 31)))) := by
  rw [← conditionEvents_bit h]
  simp only [BitVec.getLsbD_and, BitVec.getLsbD_not, h, decide_true, Bool.true_and]

/-- The pending set after an EVENT ENABLE: of the events enabled, those pending before and the raised ones that join (R199,
R201). -/
theorem getLsbD_enabled (pending flags old new : BitVec 51) {n : Nat} (h : n < 51) :
    ((pending &&& new) ||| (flags &&& new &&& ~~~old)).getLsbD n =
      (new.getLsbD n && (pending.getLsbD n || (flags.getLsbD n && !old.getLsbD n))) := by
  simp only [BitVec.getLsbD_or, BitVec.getLsbD_and, BitVec.getLsbD_not, h, decide_true, Bool.true_and]
  cases new.getLsbD n <;> simp

/-! ### PART SETUP (R195) -/

/-- An id that an entry gives out or matches at origin CI is in use (R195). -/
theorem idInUse_iff {slots : List (Option MapSlot)} {id : Nat} : idInUse slots id = true ↔ ∃ x, some x ∈ slots ∧
    (x.entry.route.outId = id ∨ (x.entry.key.origin = 4 ∧ x.entry.key.id = id)) := by
  simp only [idInUse, List.any_eq_true]
  constructor
  · rintro ⟨o, held, uses⟩
    cases o with
    | none => cases uses
    | some x => exact ⟨x, held, by simpa using uses⟩
  · rintro ⟨x, held, uses⟩
    exact ⟨some x, held, by simpa using uses⟩

section
variable {id : Nat} {s : State} (notices : Bool)

theorem doPartSetup_high (high : 8190 < id) : doPartSetup id notices s = (s, .now (.refused .badParam)) := if_pos high

theorem doPartSetup_used (low : id ≤ 8190) (used : idInUse s.smap.slots id = true) :
    doPartSetup id notices s = (s, .now (.refused .conflict)) := by
  rw [doPartSetup, if_neg (not_lt.mpr low), if_pos used]

theorem doPartSetup_free (low : id ≤ 8190) (free : ¬idInUse s.smap.slots id = true) : doPartSetup id notices s =
    ({ s with mgmt := { s.mgmt with id := id, notices := notices } }, .now (.done [])) := by
  rw [doPartSetup, if_neg (not_lt.mpr low), if_neg free]

end

/-- Settles O36: the event requests bit by bit, PART SETUP by its tests in order. -/
theorem eventAndPartRequests : Obligations.EventAndPartRequests := by
  refine ⟨fun tag x s => ⟨?enable, ?clear⟩, fun tag id notices s => ?setup⟩
  case enable =>
    obtain ⟨t, ht, replied⟩ := request_answered (c := .eventEnable ⟨tag, none⟩ x) (s := s) rfl rfl
    exact ⟨(doEventEnable x s).1, t, ht, replied, rfl, fun n h => getLsbD_enabled _ _ _ x h⟩
  case clear =>
    obtain ⟨t, ht, replied⟩ := request_answered (c := .eventClear ⟨tag, none⟩ x) (s := s) rfl rfl
    exact ⟨(doEventClear x s).1, t, ht, replied, rfl,
      fun n h => ⟨getLsbD_cleared s.ev.flags x h, getLsbD_cleared s.ev.pending x h⟩⟩
  case setup =>
    obtain ⟨t, ht, taken⟩ := request_taken (c := .partSetup ⟨tag, none⟩ id notices) (s := s) rfl
    exact ⟨t, ht, fun high => taken (doPartSetup_high notices high),
      fun low used => taken (doPartSetup_used notices low (idInUse_iff.mpr used)),
      fun low free => taken (doPartSetup_free notices low (mt idInUse_iff.mp free))⟩

end Sys2Proof.Machine
end

section
/-! SUPPORT. PART RESET (R196): the state after the soft reset with its reply and the packet passed on in CO class 0, which
leaves nothing to do; and O3. -/

namespace Sys2Proof.Machine

/-- The state after a soft reset, with a continuity count and the packets placed in CO class 0 since. -/
def resetWith (s : State) (cc : Nat) (queue : List Queued) : State :=
  { softReset s with
    mgmt := ⟨8064, s.straps.toNat, false, cc⟩
    ports := #v[{ Port.reset s.time 675 (s.port 0).wire with q0 := queue }, Port.reset s.time 1080 (s.port 1).wire,
      Port.reset s.time 1080 (s.port 2).wire] }

theorem softReset_eq (s : State) : softReset s = resetWith s 0 [] := rfl

section
variable (s : State) (cc : Nat) (queue : List Queued)

theorem port_resetWith (p : PortId) : (resetWith s cc queue).port p =
    { Port.reset s.time (if p = portCO then 675 else 1080) (s.port p).wire with
      q0 := if p = portCO then queue else [] } := by
  fin_cases p <;> rfl

/-- A packet of class 0 joins the queue while there is room (R138). -/
theorem portArrive_resetWith (own : Bool) (pkt : Packet) (room : queue.length < 8) :
    portArrive portCO 0 false own pkt (resetWith s cc queue) =
      resetWith s cc (queue ++ [⟨pkt, 0, false, own, s.time⟩]) :=
  portArrive_room portCO false own pkt (resetWith s cc queue) room

/-! ### The reply, and the packet passed on (R189, R192, R196) -/

/-- The reply to PART RESET as it stands in CO class 0; a part strapped at 31 builds none (R192). -/
def resetReply (tag : Nat) : List Queued :=
  if s.straps = 31#5 then [] else [⟨ownPacket 8064 0 2 s.straps.toNat tag 3 0 0 [], 0, false, true, s.time⟩]

/-- The packet passed on as it stands there (R187). -/
def relayQueued (relay : Option Packet) : List Queued :=
  match relay with
  | none => []
  | some pkt => [⟨pkt, 0, false, false, s.time⟩]

theorem sendReply_softReset (tag : Nat) : sendReply tag 0x03 (.done []) (softReset s) =
    resetWith s (if s.straps = 31#5 then 0 else 1) (resetReply s tag) := by
  have silent : (resetWith s 0 []).mgmt.addr = 31 ↔ s.straps = 31#5 := (BitVec.toNat_eq (y := 31#5)).symm
  rw [softReset_eq, sendReply, placeOwn, resetReply]
  by_cases strapped : s.straps = 31#5
  · rw [if_pos (silent.mpr strapped), if_pos strapped, if_pos strapped]
  · rw [if_neg (mt silent.mp strapped), if_neg strapped, if_neg strapped]
    exact portArrive_resetWith s 1 [] true _ (by decide)

theorem answerPartReset_eq (h : ReqHdr) : answerPartReset h s =
    resetWith s (if s.straps = 31#5 then 0 else 1) (resetReply s h.tag ++ relayQueued s h.relay) := by
  have room : (resetReply s h.tag).length < 8 := by
    unfold resetReply
    split <;> simp
  rw [answerPartReset, sendReply_softReset, relayFirst]
  cases h.relay with
  | none => rw [relayQueued, List.append_nil]
  | some pkt => exact portArrive_resetWith s _ _ false pkt room

/-! ### The blocks, and the rest of the event (R196, R205) -/

/-- Every block after the soft reset, as after the power-up reset but for the ports' next slots and the wires. -/
theorem blocksReset_resetWith : blocksReset (resetWith s cc queue) := by
  obtain ⟨lanes, pairs, pool, dec, smap, _, co, ci, monitors, timers, _⟩ := blocksReset_powerUp s.straps s
  refine ⟨lanes, pairs, pool, dec, smap, fun p => ?ports, co, ci, monitors, timers, ?events⟩
  case ports =>
    rw [port_resetWith]
    exact ⟨rfl, rfl, rfl, rfl, rfl, rfl, rfl, rfl, rfl⟩
  case events =>
    show (softEvents s.log.overflow).enables = 0#51 ∧ (softEvents s.log.overflow).pending = 0#51 ∧
      (softEvents s.log.overflow).outstanding = false
    cases s.log.overflow <;> decide

/-- FAULT_OVERFLOW follows a kept overflow flag, and no other condition holds (R205). -/
theorem conditionsOf_resetWith : conditionsOf (resetWith s cc queue) =
    (1, s.log.overflow) :: [22, 23, 24, 25, 28, 31].map (·, false) := by
  obtain ⟨lanes, _, _, ⟨_, _, congested, _⟩, _, _, ⟨_, _, _, _, hold, _⟩, _⟩ := blocksReset_resetWith s cc queue
  simp only [conditionsOf, allLanes, gradeLow, ciHolding, lanes, congested, hold]
  rfl

theorem rested_resetWith : Rested (resetWith s cc queue) := by
  obtain ⟨_, pairs, _, _, _, _, _, _, _, timers, _⟩ := blocksReset_resetWith s cc queue
  refine ⟨⟨fun i runs => ?stopped, ⟨?events, fun p _ _ _ => ?pair⟩, rfl⟩, rfl⟩
  case stopped => rw [timers i] at runs; cases runs
  case events =>
    rw [conditionsOf_resetWith]
    show ∀ c ∈ _, Agrees (softEvents s.log.overflow) c
    unfold Agrees
    cases s.log.overflow <;> decide
  case pair => rw [pairs p]

end

/-- Where an event ends at rest, nothing is left to do. -/
theorem Rested.afterEvent_eq {s : State} (h : Rested s) : afterEvent s = s :=
  settle_quiet roundLimit s (followAll_followed h.resting.none_counts h.resting.followed) h.resting.work h.quiet

/-- Settles O3: the state after the reset and its packets, block by block; the event is at rest there. -/
theorem partReset : Obligations.PartReset := by
  intro h s
  have done : exec (.partReset h) s = .next (resetWith s (if s.straps = 31#5 then 0 else 1)
      (resetReply s h.tag ++ relayQueued s h.relay)) := by
    change Host.Outcome.next (afterEvent (answerPartReset h s)) = _
    rw [answerPartReset_eq, (rested_resetWith s _ _).afterEvent_eq]
  refine ⟨_, done, blocksReset_resetWith s _ _, rfl, rfl, rfl, ?flags, rfl, fun p => ?port, rfl, rfl, rfl, rfl, rfl⟩
  case flags =>
    show (softEvents s.log.overflow).flags = _
    cases s.log.overflow <;> decide
  case port =>
    rw [port_resetWith]
    exact ⟨rfl, rfl, fun other => if_neg other⟩

end Sys2Proof.Machine
end
